-- ==== Sys2Proof/Word.lean ====
section
/-! DEFINITION. The words of the station: a byte of a payload and a stamp of the 48-bit tick counter. -/

namespace Sys2Proof

/-- A payload byte (R148). -/
abbrev Byte := BitVec 8

/-- A value of the 48-bit counters: the stamp counter (R1) and the reference count (R4). -/
abbrev Stamp := BitVec 48

/-- Character codes of an identity or of a seal number (R151: one byte per character). -/
abbrev Text := List Byte

end Sys2Proof
end

