-- ==== Sys2Proof/Syntax.lean ====
section
/-! DEFINITION. The commands: one constructor for each row of spec/opcode_table.json, with the row's operands.
A row that is an accepted frame carries the frame's sender, its destination and its payload bytes; the row itself
gives kind and class (log 5). -/

namespace Sys2Proof

/-- Sender and destination of an accepted frame (Table 10.1). -/
structure Hdr where
  sender : BitVec 6
  dest   : BitVec 6
  deriving DecidableEq, Repr

/-- An accepted frame with every header field free (Table 10.1). -/
structure RxFrame where
  cls     : BitVec 2
  sender  : BitVec 6
  kind    : BitVec 6
  dest    : BitVec 6
  length  : BitVec 5
  payload : List Byte
  deriving DecidableEq, Repr

/-- The four kinds of which the roster takes the marks alone (row MEASUREMENT_RECEIVED, R105). -/
inductive MarksKind where
  | measurement | notice | reply | detail
  deriving DecidableEq, Repr

/-- Why an attempt failed (R153). -/
inductive FailureCause where
  | bitError | notAcknowledged | objected
  deriving DecidableEq, Repr

/-- Why a received frame is discarded at its end (R154). -/
inductive DiscardCause where
  | ownCheck | objection | endField
  deriving DecidableEq, Repr

/-- One constructor for each row of the table. -/
inductive Instr where
  | powerOnReset
  | pinReset
  | resetEnd (straps : BitVec 6) (present midFrame : Bool)
  | refRisingEdge
  | mutRisingEdge
  | mutFallingEdge
  | widthTimerExpiry
  | intervalTimerExpiry
  | delayedGateEvaluation
  | presentFall
  | presentRise
  | graceExpiry
  | loadSettled (h : Hdr) (payload : List Byte)
  | loadChanging (h : Hdr) (payload : List Byte)
  | loadOff (h : Hdr) (payload : List Byte)
  | pointTimerExpiry
  | sync (h : Hdr) (payload : List Byte)
  | tallyReceived (h : Hdr) (payload : List Byte)
  | joinReceived (h : Hdr) (payload : List Byte) (strokeDone : Bool)
  | statusReceived (h : Hdr) (payload : List Byte)
  | progressReceived (h : Hdr) (payload : List Byte)
  | pointResultReceived (h : Hdr) (payload : List Byte)
  | measurementReceived (k : MarksKind) (h : Hdr) (payload : List Byte)
  | claimReceived (h : Hdr) (payload : List Byte) (strokeDone : Bool)
  | releaseReceived (h : Hdr) (payload : List Byte) (strokeDone : Bool)
  | sealedReceived (h : Hdr) (payload : List Byte)
  | duplicateNumberFrame (cls : BitVec 2) (kind dest : BitVec 6) (length : BitVec 5) (payload : List Byte)
  | frameDiscard (cause : DiscardCause)
  | agingExpiry (strokeDone : Bool)
  | heartbeatExpiry
  | listenTimerExpiry
  | transmissionAttempt
  | lostArbitration
  | attemptSuccess (strokeDone : Bool)
  | attemptFailure (cause : FailureCause)
  | lineOffEntry
  | lineReturn
  /-- The levels of SEAL-IN in their order of arrival: bit 0 the start bit, bits 1 to 8 the data bits; then the level of
  the stop bit (R129). -/
  | sealInCharacter (levels : BitVec 9) (stop rested : Bool)
  | sealInTimeout
  | strokeDoneRise
  | strokeTimerExpiry
  | batchClockTick
  | lampClockTick
  | setup (h : Hdr) (payload : List Byte)
  | setMeter (h : Hdr) (payload : List Byte)
  | planPoint (h : Hdr) (payload : List Byte)
  | planLimits (h : Hdr) (payload : List Byte)
  | planClear (h : Hdr) (payload : List Byte)
  | planHold (h : Hdr) (payload : List Byte)
  | planRelease (h : Hdr) (payload : List Byte)
  | readingBefore (h : Hdr) (payload : List Byte)
  | readingAfter (h : Hdr) (payload : List Byte)
  | query (h : Hdr) (payload : List Byte)
  | endBatch (h : Hdr) (payload : List Byte)
  | retrySeal (h : Hdr) (payload : List Byte)
  | clearNotices (h : Hdr) (payload : List Byte)
  | noticeMask (h : Hdr) (payload : List Byte)
  | restart (h : Hdr) (payload : List Byte)
  | frameFiltered (f : RxFrame)
  | stuffingViolation
  | lineIdle
  deriving DecidableEq, Repr

end Sys2Proof
end

