-- ==== Sys2Proof/Decode.lean ====
section
/-! DEFINITION. The command that a word spells by the bits of spec/opcode_table.json. The station is a block: its
commands are events, and no row of the table gives bits (every row's "fields" is empty and none has "fixed"). -/

namespace Sys2Proof

/-- One row of the table that gives bits: how many, the fixed ones as mask and pattern, and the command. -/
structure BitRow where
  nbits   : Nat
  mask    : Nat
  pattern : Nat
  command : Instr
  deriving DecidableEq, Repr

/-- The rows of spec/opcode_table.json that give bits: there are none. -/
def bitRows : List BitRow := []

/-- The command spelled by the word `w` of `nbits` bits, if a row of the table gives it those bits. -/
def decodeTableWord (nbits w : Nat) : Option Instr :=
  (bitRows.find? fun r => r.nbits == nbits && Nat.land w r.mask == r.pattern).map BitRow.command

end Sys2Proof
end

