-- ==== Sys2Proof/Config.lean ====
section
/-! DEFINITION. What one implementation fixes: the constants of the manual, and the values it leaves open. -/

namespace Sys2Proof.Config

/-- Ticks of the 100 MHz timebase in one second (R1). -/
def second : Nat := 100000000

/-- Ticks in one bit time of the bench line, 2 µs (R147). -/
def bitTime : Nat := 200

/-- Ticks from the start of a bit to its sample, 70 % of the bit time (R147). -/
def samplePoint : Nat := 140

/-- Least differential of a dominant bit, in mV (R147). -/
def dominantLeast : Nat := 1500

/-- Least distance of two counted reference edges, in ticks (R3). -/
def minRefGap : Nat := 40

/-- Capacity of the marker queue (R14). -/
def markerCapacity : Nat := 4

/-- Longest gate that is evaluated, in ticks (R30). -/
def maxGate : Nat := 2 ^ 40

/-- Largest magnitude of an error value, in ppm (R29). -/
def maxError : Int := 999999

/-- Capacity of the kept list (R60). -/
def keptCapacity : Nat := 16

/-- Resting value of the 16-bit counts of a run (R60, R62). -/
def maxCount : Nat := 65535

/-- Value at which the batch clock stays (R91). -/
def maxClock : Nat := 4294967295

/-- Half period of the lamp clock in ticks, 250 ms (R102). -/
def lampHalfPeriod : Nat := 25000000

/-- Silence that ends a partial seal line, 50 ms in ticks (R129). -/
def sealInTimeout : Nat := 5000000

/-- Longest seal number (R129). -/
def maxSeal : Nat := 14

/-- Capacity of the seal log (R143). -/
def sealLogCapacity : Nat := 128

/-- Capacity of the transmit queue (R160). -/
def queueCapacity : Nat := 8

/-- Queue length from which a MEASUREMENT is declined (R162). -/
def measurementLimit : Nat := 6

/-- Attempts after which a frame is dropped (R153). -/
def maxAttempts : Nat := 4

/-- Fault tally of LINE-OFF (R157). -/
def lineOffTally : Nat := 32

/-- Good frames that end LINE-OFF (R158). -/
def goodFramesToReturn : Nat := 64

/-- Bit times of an objection run (R149). -/
def objectionBits : Nat := 8

/-- Tallies below which a judgment has no outcome (R124). -/
def minTallies : Nat := 3

/-- Floor of the cross-check tolerance, in counts (R124). -/
def toleranceFloor : Nat := 8

/-- Good windows that clear REF_SUSPECT (R125). -/
def goodWindows : Nat := 3

/-- What a receiver reads at a differential between 0.5 V and 0.9 V, as a function of the differential in mV:
R147 states no reading there, so it is a free value (log 23). -/
opaque undecidedLevel : Int → Bool

/-- How far above its least value the differential of a dominant bit lies, in mV, as a function of the number of nodes
that drive it: R147 states a least value alone, so it is a free value (log 23). -/
opaque dominantExcess : Nat → Nat

/-- Whether a grace expiry is delivered after the rise of PRESENT on its own tick, once an edge of that tick has decided
the open run: R82 closes the run by it, R11 delivers none, and no rule sets the other aside, so it is a free value
(log 35). -/
opaque graceAfterDecision : Bool

end Sys2Proof.Config
end

