-- ==== Sys2Proof/Machine/State.lean ====
section
/-! DEFINITION. The state of the station, block by block (00_scope.md Table 2), as plain data, and its value right
after a power-on reset. -/

namespace Sys2Proof.Machine

/-- A command that stops the machine: the spec gives none. Every error the station can meet is a notice (R169), a
REPLY code (R164) or a count of the line controller (R153), and the station goes on (log 30). No constructor. -/
inductive Fault
  deriving DecidableEq, Repr

/-- Why a command has no meaning. -/
inductive Refusal where
  /-- Raised by `exec` alone, for a row of the table that has no meaning yet (safe). No arm raises it. -/
  | notModelled (mnemonic : String)
  deriving DecidableEq, Repr

/-! ### Names of the manual -/

/-- Whether the station runs, or which reset holds it (R1, R102, R131, R171). -/
inductive Phase where
  | running | powerOn | pin | command
  deriving DecidableEq, Repr

/-- Reset causes carried by a JOIN (Table 10.8). -/
inductive JoinCause where
  | power | pin | command | lineReturn
  deriving DecidableEq, Repr

/-- Batch states (Table 6.2). -/
inductive BatchState where
  | idle | loaded | running | rejected | awaitSeal | claiming | pressing | sealed | sealFault
  deriving DecidableEq, Repr

/-- Overall verdict (R94). -/
inductive Overall where
  | eligible | rejected
  deriving DecidableEq, Repr

/-- Point verdicts (R70, R80, R84, R86). -/
inductive Verdict where
  | pass | fail | info | unsettled | incomplete | void | pending
  deriving DecidableEq, Repr

/-- Causes given with INCOMPLETE (Table 10.8). -/
inductive Cause where
  | scanner | time | forced | noReading
  deriving DecidableEq, Repr

/-- Close causes (R69). -/
inductive CloseCause where
  | completion | time | forced | scanner
  deriving DecidableEq, Repr

/-- Measurement status (Table 2.2). -/
inductive GateStatus where
  | valid | coarse | suspect | clamped | noReference | overrate | gateLong
  deriving DecidableEq, Repr

/-- Kinds of plan entry (R37). -/
inductive PlanKind where
  | accuracy | creep | start | register
  deriving DecidableEq, Repr

/-- Progress values of a PROGRESS or STATUS frame (Table 10.8). -/
inductive Progress where
  | opened | measuring | settled | withdrawn
  deriving DecidableEq, Repr

/-- Values of a peer's progress record (R103). -/
inductive PeerValue where
  | opened | measuring | settled | withdrawn | closed
  deriving DecidableEq, Repr

/-- Reasons of a RELEASE (Table 10.8). -/
inductive ReleaseReason where
  | done | fault | abandoned
  deriving DecidableEq, Repr

/-- REPLY codes (Table 11.1). -/
inductive ReplyCode where
  | done | doneClamped | busy | wrongState | noSuchPoint | badValue
  deriving DecidableEq, Repr

/-- Notices in the order of Table 11.5, TX_DROPPED as bit 0. -/
inductive Notice where
  | txDropped | peerLost | inputOverrate | pressFault | sealReused | sealReadBad | planClamped
  | refSuspect | scannerAbsent | duplicateNumber
  deriving DecidableEq, Repr

/-- Frame kinds (Table 10.2). -/
inductive FrameKind where
  | loadSettled | loadChanging | loadOff | sync
  | setup | setMeter | planPoint | planLimits | planClear | planHold | planRelease | reading | query
  | endBatch | retrySeal | clearNotices | noticeMask | restart
  | join | status | progress | measurement | pointResult | tally | claim | release | sealed
  | notice | reply | detail
  deriving DecidableEq, Repr

/-- Line states (Table 10.4). -/
inductive LineState where
  | listening | onLine | lineOff | muted
  deriving DecidableEq, Repr

/-- What the station last drove on the line as a receiver (R149, R154). -/
inductive ReceiverDrive where
  | nothing | acknowledgeSlot | objectionSlot
  /-- The eight dominant bits that follow a stuffing violation. -/
  | objectionRun
  deriving DecidableEq, Repr

/-! ### Pulse front end, reference tracker, error computer -/

/-- Levels of the input pins that the station samples. -/
structure Pins where
  straps     : BitVec 6
  present    : Bool
  mutHigh    : Bool
  strokeDone : Bool
  deriving DecidableEq, Repr

/-- The reference position at a rising stamp (R12). -/
structure Snapshot where
  c     : Stamp
  rPrev : Option Stamp
  rNext : Option Stamp
  deriving DecidableEq, Repr

/-- The pending MUT edge (R5) with the settings in force at its rise (R8). -/
structure PendingEdge where
  t        : Stamp
  width    : Nat
  interval : Nat
  snap     : Snapshot
  deriving DecidableEq, Repr

/-- The running absence timer (R11). -/
structure AbsenceTimer where
  start  : Stamp
  expiry : Stamp
  deriving DecidableEq, Repr

structure FrontEnd where
  now           : Stamp
  edge          : Option PendingEdge
  lastQualified : Option Stamp
  intervalTimer : Option Stamp
  absent        : Bool
  absenceTimer  : Option AbsenceTimer
  /-- The absence timer that a rise of PRESENT stopped on the tick of its expiry, until that tick ends (R82, log 35). -/
  stoppedGrace  : Option AbsenceTimer
  deriving DecidableEq, Repr

/-- A marker (Table 1.2). -/
structure Marker where
  t        : Stamp
  c        : Stamp
  rPrev    : Option Stamp
  rNext    : Option Stamp
  overrate : Bool
  deriving DecidableEq, Repr

structure Tracker where
  count    : Stamp
  last     : Option Stamp
  overrate : Bool
  queue    : List Marker
  deriving DecidableEq, Repr

/-- The gate in progress (R17). -/
structure Gate where
  a         : Marker
  k         : Nat
  overrate  : Bool
  endMarker : Option Marker
  deriving DecidableEq, Repr

/-- The error computer (Table 2.1). -/
inductive ErrorComputer where
  | idle
  | armed (n minRef : Nat)
  | gating (n minRef : Nat) (g : Gate)
  deriving DecidableEq, Repr

/-- A measurement or register result (R33, R35). -/
structure GateResult where
  status : GateStatus
  error  : Option Int
  deriving DecidableEq, Repr

/-! ### Plan store -/

/-- The point part of a plan entry (Table 3.1). -/
inductive PointPart where
  | accuracy (n stability skip minRef limit : Nat)
  | creep (window allowed : Nat)
  | start (window required : Nat)
  | register (limit : Nat)
  deriving DecidableEq, Repr

/-- The limits part (Table 3.2). -/
structure Limits where
  lower        : Int
  upper        : Int
  spread       : Nat
  sealRelevant : Bool
  deriving DecidableEq, Repr

/-- A defined plan entry (R36). -/
structure PlanEntry where
  point  : PointPart
  limits : Option Limits
  deriving DecidableEq, Repr

/-- Change marks (R40). -/
inductive Mark where
  | clean | held | waiting | due
  deriving DecidableEq, Repr

/-- 32 slots, index 0 to 31, each empty or holding a value. -/
abbrev Slots (α : Type) := Vector (Option α) 32

structure PlanStore where
  staged  : Slots PlanEntry
  active  : Slots PlanEntry
  marks   : Vector Mark 32
  hold    : Bool
  cutOff  : Bool
  loadOff : Bool
  deriving DecidableEq, Repr

/-! ### Point runner and meter record -/

/-- An entry of the kept list (R60). -/
structure KeptEntry where
  seq    : Nat
  status : GateStatus
  error  : Option Int
  deriving DecidableEq, Repr

/-- States of an open run (Table 4.2); CLOSED is the absence of a run. -/
inductive RunState where
  | skipping | measuring | settled | counting | decided | accumulating
  deriving DecidableEq, Repr

/-- The open run: Table 4.1, the window fields of R76 and the register fields of R84. `entry` is the active entry it
runs, which does not change while the run is open (R53, log 12). -/
structure Run where
  p           : Nat
  r           : Nat
  entry       : PlanEntry
  state       : RunState
  skip        : Nat
  kept        : List KeptEntry
  lastSeq     : Nat
  completed   : Nat
  streamDrops : Nat
  void        : Bool
  openStamp   : Stamp
  pointTimer  : Stamp
  progress    : Progress
  pulses      : Nat
  firstOffset : Option Nat
  decided     : Option Bool
  before      : Option Nat
  openCount   : Stamp
  deriving DecidableEq, Repr

/-- Latest point standing (R87). -/
inductive Standing where
  | none
  | opened (p r : Nat)
  | closed (p r : Nat)
  | withdrawn (p r : Nat)
  deriving DecidableEq, Repr

structure PointRunner where
  run      : Option Run
  slots    : Slots Nat
  standing : Standing
  deriving DecidableEq, Repr

/-- The part of a point record that depends on its kind (Tables 4.4, 5.2, 5.4). -/
inductive RecordBody where
  | accuracy (kept : List KeptEntry)
  | window (pulses : Nat) (firstOffset : Option Nat)
  | register (before after : Option Nat) (mReg : Nat) (limits : Option Limits) (void : Bool)
      (status : Option GateStatus)
  deriving DecidableEq, Repr

/-- A point record (R71, R81, R85). -/
structure PointRecord where
  p           : Nat
  r           : Nat
  kind        : PlanKind
  verdict     : Verdict
  cause       : Option Cause
  value       : Option Int
  spread      : Option Nat
  completed   : Nat
  streamDrops : Nat
  stale       : Bool
  body        : RecordBody
  deriving DecidableEq, Repr

/-- The seal record (R100). -/
structure SealRecord where
  number : Text
  clock  : Nat
  deriving DecidableEq, Repr

/-- The running batch clock: seconds, and the stamp at which the next second is complete (R91). -/
structure BatchClock where
  seconds : Nat
  nextAt  : Stamp
  deriving DecidableEq, Repr

structure MeterRecord where
  identity   : Option Text
  constant   : Option Nat
  batch      : BatchState
  verdict    : Option Overall
  records    : Slots PointRecord
  held       : Option Text
  sealRecord : Option SealRecord
  clock      : Option BatchClock
  deriving DecidableEq, Repr

/-- The lamp clock (R102). -/
structure LampClock where
  lit      : Bool
  toggleAt : Stamp
  deriving DecidableEq, Repr

/-! ### Roster and cross-check unit -/

/-- A peer's progress record (R103). -/
structure PeerProgress where
  p     : Nat
  r     : Nat
  value : PeerValue
  deriving DecidableEq, Repr

/-- A roster entry (Table 7.1). -/
structure RosterEntry where
  station  : Nat
  batch    : Option BatchState
  progress : Option PeerProgress
  current  : Bool
  next     : Bool
  deriving DecidableEq, Repr

structure Roster where
  entries    : List RosterEntry
  agingTimer : Stamp
  deriving DecidableEq, Repr

/-- A latched reference count (R119). -/
structure Latch where
  window : BitVec 16
  count  : Stamp
  deriving DecidableEq, Repr

/-- A tally gathered for a window. -/
structure StationTally where
  station : Nat
  tally   : Nat
  deriving DecidableEq, Repr

/-- The collection (Table 8.1). -/
structure Collection where
  window  : BitVec 16
  judged  : Bool
  tallies : List StationTally
  deriving DecidableEq, Repr

structure CrossCheck where
  latest     : Option Latch
  earlier    : Option Latch
  collection : Option Collection
  streak     : Nat
  suspect    : Bool
  deriving DecidableEq, Repr

/-! ### Seal unit and seal reader -/

/-- An active claim of the press list (R131). -/
structure Claim where
  station : Nat
  number  : Nat
  sealNo  : Text
  deriving DecidableEq, Repr

/-- The current claim (R131). -/
structure OwnClaim where
  number : Nat
  sealNo : Text
  sent   : Bool
  deriving DecidableEq, Repr

/-- The owed release (R138). -/
structure OwedRelease where
  number : Nat
  reason : ReleaseReason
  deriving DecidableEq, Repr

structure SealUnit where
  pressList   : List Claim
  claimNumber : Nat
  current     : Option OwnClaim
  owed        : Option OwedRelease
  strokeTimer : Option Stamp
  log         : List Text
  pressDrive  : Bool
  deriving DecidableEq, Repr

/-- The SEAL-IN receiver (R129). -/
structure SealReceiver where
  buffer : Text
  bad    : Bool
  timer  : Option Stamp
  ready  : Bool
  deriving DecidableEq, Repr

/-! ### Line controller and command handler -/

/-- What a STATUS carries, read at the start of an attempt (R116). -/
structure StatusContent where
  batch   : BatchState
  openRun : Option (Nat × Nat × Progress)
  notices : BitVec 10
  deriving DecidableEq, Repr

/-- A frame of the station, by kind, with the content Table 10.7 lays out. JOIN's batch state and STATUS's content are
filled at each attempt and absent before. A DETAIL is live while its series is in progress (R168). -/
inductive TxMsg where
  | join (cause : JoinCause) (batch : Option BatchState)
  | status (content : Option StatusContent)
  | progress (p r : Nat) (v : Progress) (b : BatchState)
  | measurement (p r seq : Nat) (status : GateStatus) (error : Option Int)
  | pointResult (p r : Nat) (verdict : Verdict) (value : Option Int) (spread : Option Nat) (completed : Nat)
  | tally (window : BitVec 16) (tally : Nat)
  | claim (number : Nat) (sealNo : Text)
  | release (number : Nat) (reason : ReleaseReason)
  | sealed (sealNo : Text)
  | notice (set : BitVec 10)
  | reply (k : FrameKind) (code : ReplyCode)
  | detail (part total : Nat) (content : List Byte) (live : Bool)
  deriving DecidableEq, Repr

/-- A frame of the transmit queue (R160): the class is its kind's. -/
structure TxFrame where
  msg      : TxMsg
  entered  : Stamp
  attempts : Nat
  sending  : Bool
  deriving DecidableEq, Repr

structure LineController where
  state         : LineState
  own           : Nat
  queue         : List TxFrame
  waitingStatus : Bool
  waitingNotice : Option (BitVec 10)
  faultTally    : Nat
  goodFrames    : Nat
  listenTimer   : Option Stamp
  heartbeat     : Option Stamp
  awaitingIdle  : Bool
  /-- The line has been recessive for 11 bit times since the last frame on it (R149, R152). -/
  idle          : Bool
  drive         : ReceiverDrive
  resetCause    : JoinCause
  deriving DecidableEq, Repr

/-- The setup values (Table 11.3); widths and intervals in steps of 10 µs, times in seconds. -/
structure Setup where
  cRef          : Nat
  agingPeriod   : Nat
  pressBudget   : Nat
  strokeTimeout : Nat
  scannerGrace  : Nat
  mutWidth      : Nat
  mutInterval   : Nat
  tolPpm        : Nat
  streaming     : Bool
  deriving DecidableEq, Repr

/-- Subject of a query series (R166). -/
inductive Subject where
  | point (p : Nat)
  | meter
  deriving DecidableEq, Repr

/-- The query series in progress (R166). -/
structure Series where
  subject    : Subject
  next       : Nat
  total      : Nat
  superseded : Bool
  deriving DecidableEq, Repr

structure CommandHandler where
  setup   : Setup
  notices : BitVec 10
  mask    : BitVec 10
  series  : Option Series
  deriving DecidableEq, Repr

/-! ### The station -/

/-- The whole station and the commands that wait for it, first in first out. -/
structure State where
  pins    : Pins
  phase   : Phase
  fe      : FrontEnd
  trk     : Tracker
  ec      : ErrorComputer
  plan    : PlanStore
  run     : PointRunner
  meter   : MeterRecord
  lamp    : LampClock
  roster  : Roster
  xc      : CrossCheck
  sealUnit : SealUnit
  sealRx  : SealReceiver
  line    : LineController
  cmd     : CommandHandler
  pending : List Instr
  deriving DecidableEq, Repr

/-! ### Reset values, block by block -/

/-- Table 1.3, with the head fitted. -/
def FrontEnd.reset : FrontEnd where
  now := 0
  edge := none
  lastQualified := none
  intervalTimer := none
  absent := false
  absenceTimer := none
  stoppedGrace := none

/-- Table 1.3. -/
def Tracker.reset : Tracker := ⟨0, none, false, []⟩

/-- Table 3.3. -/
def PlanStore.reset : PlanStore where
  staged := Vector.replicate 32 none
  active := Vector.replicate 32 none
  marks := Vector.replicate 32 .clean
  hold := false
  cutOff := false
  loadOff := true

/-- R54, R83, R87. -/
def PointRunner.reset : PointRunner := ⟨none, Vector.replicate 32 none, .none⟩

/-- R89. -/
def MeterRecord.reset : MeterRecord where
  identity := none
  constant := none
  batch := .idle
  verdict := none
  records := Vector.replicate 32 none
  held := none
  sealRecord := none
  clock := none

/-- R102: the lamp clock starts from the beginning of a lit half. -/
def LampClock.reset : LampClock := ⟨true, BitVec.ofNat 48 Config.lampHalfPeriod⟩

/-- R104, for an aging period in seconds. -/
def Roster.reset (agingPeriod : Nat) : Roster := ⟨[], BitVec.ofNat 48 (agingPeriod * Config.second)⟩

/-- R119. -/
def CrossCheck.reset : CrossCheck := ⟨none, none, none, 0, false⟩

/-- Table 9.2, for the seal log that the reset leaves. -/
def SealUnit.reset (log : List Text) : SealUnit where
  pressList := []
  claimNumber := 0
  current := none
  owed := none
  strokeTimer := none
  log := log
  pressDrive := false

/-- R129. -/
def SealReceiver.reset : SealReceiver := ⟨[], false, none, false⟩

/-- A strap value of 1 to 60 is valid (R150). -/
def validNumber (own : Nat) : Bool := 1 ≤ own && own ≤ 60

/-- Table 10.5 and R156, for the straps read, the cause of the reset and a line in the middle of a frame or not. -/
def LineController.reset (straps : BitVec 6) (cause : JoinCause) (midFrame : Bool) : LineController where
  state := .listening
  own := straps.toNat
  queue := []
  waitingStatus := false
  waitingNotice := none
  faultTally := 0
  goodFrames := 0
  listenTimer := if validNumber straps.toNat then some (BitVec.ofNat 48 Config.second) else none
  heartbeat := none
  awaitingIdle := midFrame
  idle := !midFrame
  drive := .nothing
  resetCause := cause

/-- The defaults of Table 11.3. -/
def Setup.default : Setup where
  cRef := 1000000000
  agingPeriod := 4
  pressBudget := 2
  strokeTimeout := 3
  scannerGrace := 5
  mutWidth := 5
  mutInterval := 20
  tolPpm := 50
  streaming := true

/-- Table 11.6, for the setup values and the mask that the reset leaves. -/
def CommandHandler.reset (setup : Setup) (mask : BitVec 10) : CommandHandler := ⟨setup, 0, mask, none⟩

/-- DESIGN CHOICE (log 3): the input pins are driven from outside. Straps 1, head fitted, MUT and STROKE-DONE low. -/
def Pins.reset : Pins := ⟨1, true, false, false⟩

/-- The station right after a power-on reset has ended, with the pins of `Pins.reset` and a quiet line (log 3). -/
def State.reset : State where
  pins := Pins.reset
  phase := .running
  fe := FrontEnd.reset
  trk := Tracker.reset
  ec := .idle
  plan := PlanStore.reset
  run := PointRunner.reset
  meter := MeterRecord.reset
  lamp := LampClock.reset
  roster := Roster.reset Setup.default.agingPeriod
  xc := CrossCheck.reset
  sealUnit := SealUnit.reset []
  sealRx := SealReceiver.reset
  line := LineController.reset Pins.reset.straps .power false
  cmd := CommandHandler.reset Setup.default (BitVec.allOnes 10)
  pending := []

end Sys2Proof.Machine
end

