-- ==== Sys2Proof/Machine/Arith.lean ====
section
/-! DEFINITION. Shared arithmetic: stamps modulo 2^48, rounding half away from zero, saturation, means, spreads and
medians (00_scope.md 3.2 to 3.4), and reading and writing of the 32 slots. -/

namespace Sys2Proof.Machine

/-- The difference of two stamps or counts, modulo 2^48 (00_scope.md 3.2). -/
def elapsed (later earlier : Stamp) : Nat := (later - earlier).toNat

/-- The stamp `n` ticks after `t` (R1). -/
def later (t : Stamp) (n : Nat) : Stamp := t + BitVec.ofNat 48 n

/-- Of two stamps taken before `now`, whether `a` lies at or after `b` (R77). -/
def atOrAfter (now a b : Stamp) : Bool := elapsed now a ≤ elapsed now b

/-- The quotient `x / y` rounded once, half away from zero (R28). -/
def roundDiv (x : Int) (y : Nat) : Int :=
  let q := x.natAbs / y
  let rem := x.natAbs % y
  let q := if 2 * rem ≥ y then q + 1 else q
  if x < 0 then -(q : Int) else q

/-- Saturation to the range of error values (R29). -/
def saturate (e : Int) : Int := max (-Config.maxError) (min Config.maxError e)

/-- A number brought into a range (00_scope.md 3.3, "clamped"). -/
def clampNat (lo hi n : Nat) : Nat := max lo (min hi n)

/-- The same for a signed number. -/
def clampInt (lo hi n : Int) : Int := max lo (min hi n)

/-- The mean of a set of error values, absent for none (00_scope.md 3.4). -/
def mean (xs : List Int) : Option Int := if xs = [] then none else some (roundDiv xs.sum xs.length)

/-- The largest value minus the smallest (00_scope.md 3.4); 0 for none. -/
def spread : List Int → Nat
  | [] => 0
  | x :: xs => (xs.foldl max x - xs.foldl min x).toNat

/-- Insertion into a rising list. -/
def insertRising (n : Nat) : List Nat → List Nat
  | [] => [n]
  | m :: ms => if n ≤ m then n :: m :: ms else m :: insertRising n ms

/-- The rising list of the given numbers. -/
def sortRising (ns : List Nat) : List Nat := ns.foldr insertRising []

/-- The median: the middle value for an odd count, the lower of the two middle values for an even one
(00_scope.md 3.4). -/
def median (ns : List Nat) : Nat := (sortRising ns).getD ((ns.length - 1) / 2) 0

/-- The content of a slot; an index above 31 names none. -/
def slotGet {α : Type} (v : Slots α) (p : Nat) : Option α := (v[p]?).join

/-- A slot written; an index above 31 names none. -/
def slotSet {α : Type} (v : Slots α) (p : Nat) (x : Option α) : Slots α := v.setIfInBounds p x

/-- The change mark of an index. -/
def markGet (v : Vector Mark 32) (p : Nat) : Mark := (v[p]?).getD .clean

/-- A change mark written. -/
def markSet (v : Vector Mark 32) (p : Nat) (m : Mark) : Vector Mark 32 := v.setIfInBounds p m

/-- The latest `n` members of a list, in order. -/
def latest {α : Type} (n : Nat) (xs : List α) : List α := xs.drop (xs.length - n)

end Sys2Proof.Machine
end

