-- ==== Sys2Proof/Machine/Operands.lean ====
section
/-! DEFINITION. Payloads: the byte order, the codes of Table 10.8, the layouts of Table 10.7 and of R166, read and
written (R148, R151, R166), and the frame kinds of Table 10.2. -/

namespace Sys2Proof.Machine

/-! ### Bytes -/

/-- The number whose bytes are given most significant first (R148). -/
def beNat (bs : List Byte) : Nat := bs.foldl (fun n b => n * 256 + b.toNat) 0

/-- The `w` bytes of a number, most significant first (R148). -/
def beBytes : Nat → Nat → List Byte
  | 0, _ => []
  | w + 1, n => beBytes w (n / 256) ++ [BitVec.ofNat 8 n]

/-- A 3-byte field read in two's complement (R151). -/
def signed24 (n : Nat) : Int := if n < 2 ^ 23 then n else (n : Int) - 2 ^ 24

/-- The 3 bytes of a signed number (R151). -/
def signedBytes (i : Int) : List Byte := beBytes 3 (i % 2 ^ 24).toNat

/-- A printable character has a code from 32 to 126 (R89). -/
def printable (b : Byte) : Bool := 32 ≤ b.toNat && b.toNat ≤ 126

/-- A seal number is 1 to 14 printable characters (R129, R133). -/
def validSeal (s : Text) : Bool := 1 ≤ s.length && s.length ≤ Config.maxSeal && s.all printable

/-! ### Codes (Table 10.8) -/

def BatchState.code : BatchState → Nat
  | .idle => 0 | .loaded => 1 | .running => 2 | .rejected => 3 | .awaitSeal => 4
  | .claiming => 5 | .pressing => 6 | .sealed => 7 | .sealFault => 8

def BatchState.ofCode : Nat → Option BatchState
  | 0 => some .idle | 1 => some .loaded | 2 => some .running | 3 => some .rejected | 4 => some .awaitSeal
  | 5 => some .claiming | 6 => some .pressing | 7 => some .sealed | 8 => some .sealFault | _ => none

def Progress.code : Progress → Nat
  | .opened => 0 | .measuring => 1 | .settled => 2 | .withdrawn => 3

def Progress.ofCode : Nat → Option Progress
  | 0 => some .opened | 1 => some .measuring | 2 => some .settled | 3 => some .withdrawn | _ => none

def Verdict.code : Verdict → Nat
  | .pass => 0 | .fail => 1 | .info => 2 | .unsettled => 3 | .incomplete => 4 | .void => 5 | .pending => 6

def Verdict.ofCode : Nat → Option Verdict
  | 0 => some .pass | 1 => some .fail | 2 => some .info | 3 => some .unsettled | 4 => some .incomplete
  | 5 => some .void | 6 => some .pending | _ => none

def overallCode : Option Overall → Nat
  | none => 0 | some .eligible => 1 | some .rejected => 2

def causeCode : Option Cause → Nat
  | none => 0 | some .scanner => 1 | some .time => 2 | some .forced => 3 | some .noReading => 4

def GateStatus.code : GateStatus → Nat
  | .valid => 0 | .coarse => 1 | .suspect => 2 | .clamped => 3 | .noReference => 4 | .overrate => 5 | .gateLong => 6

/-- A measurement status read from its code; 255 is the absent code. -/
def statusFits (n : Nat) : Bool := n ≤ 6 || n == 255

def PlanKind.code : PlanKind → Nat
  | .accuracy => 0 | .creep => 1 | .start => 2 | .register => 3

def JoinCause.code : JoinCause → Nat
  | .power => 0 | .pin => 1 | .command => 2 | .lineReturn => 3

def JoinCause.ofCode : Nat → Option JoinCause
  | 0 => some .power | 1 => some .pin | 2 => some .command | 3 => some .lineReturn | _ => none

def ReleaseReason.code : ReleaseReason → Nat
  | .done => 0 | .fault => 1 | .abandoned => 2

def ReplyCode.code : ReplyCode → Nat
  | .done => 0 | .doneClamped => 1 | .busy => 2 | .wrongState => 3 | .noSuchPoint => 4 | .badValue => 5

def boolCode (b : Bool) : Nat := if b then 1 else 0

def boolOfCode : Nat → Option Bool
  | 0 => some false | 1 => some true | _ => none

/-- Absent code of a signed 3-byte value. -/
def valueOrAbsent (v : Option Int) : List Byte := signedBytes (v.getD (-8388608))

/-- Absent code of a spread. -/
def spreadOrAbsent (v : Option Nat) : List Byte := beBytes 3 (v.getD 16777215)

/-- Absent code of a reading and of the batch clock. -/
def fiveOrAbsent (v : Option Nat) : List Byte := beBytes 5 (v.getD (2 ^ 40 - 1))

/-! ### Frame kinds (Table 10.2) -/

/-- Sending role of a kind, and of a sender number (R155). -/
inductive Role where
  | source | console | position
  deriving DecidableEq, Repr

def FrameKind.number : FrameKind → Nat
  | .loadSettled => 1 | .loadChanging => 2 | .loadOff => 3 | .sync => 4
  | .setup => 16 | .setMeter => 17 | .planPoint => 18 | .planLimits => 19 | .planClear => 20 | .planHold => 21
  | .planRelease => 22 | .reading => 23 | .query => 24 | .endBatch => 25 | .retrySeal => 26 | .clearNotices => 27
  | .noticeMask => 28 | .restart => 29
  | .join => 32 | .status => 33 | .progress => 34 | .measurement => 35 | .pointResult => 36 | .tally => 37
  | .claim => 38 | .release => 39 | .sealed => 40 | .notice => 41 | .reply => 42 | .detail => 43

def FrameKind.ofNumber : Nat → Option FrameKind
  | 1 => some .loadSettled | 2 => some .loadChanging | 3 => some .loadOff | 4 => some .sync
  | 16 => some .setup | 17 => some .setMeter | 18 => some .planPoint | 19 => some .planLimits
  | 20 => some .planClear | 21 => some .planHold | 22 => some .planRelease | 23 => some .reading
  | 24 => some .query | 25 => some .endBatch | 26 => some .retrySeal | 27 => some .clearNotices
  | 28 => some .noticeMask | 29 => some .restart
  | 32 => some .join | 33 => some .status | 34 => some .progress | 35 => some .measurement
  | 36 => some .pointResult | 37 => some .tally | 38 => some .claim | 39 => some .release | 40 => some .sealed
  | 41 => some .notice | 42 => some .reply | 43 => some .detail | _ => none

/-- Class of a kind: 0 URGENT, 1 RESULT, 2 CONTROL, 3 ROUTINE. -/
def FrameKind.cls : FrameKind → Nat
  | .loadSettled | .loadChanging | .loadOff | .sync | .claim | .release => 0
  | .progress | .pointResult | .tally | .sealed => 1
  | .setup | .setMeter | .planPoint | .planLimits | .planClear | .planHold | .planRelease | .reading | .query
  | .endBatch | .retrySeal | .clearNotices | .noticeMask | .restart | .notice | .reply | .detail => 2
  | .join | .status | .measurement => 3

def FrameKind.role : FrameKind → Role
  | .loadSettled | .loadChanging | .loadOff | .sync => .source
  | .setup | .setMeter | .planPoint | .planLimits | .planClear | .planHold | .planRelease | .reading | .query
  | .endBatch | .retrySeal | .clearNotices | .noticeMask | .restart => .console
  | .join | .status | .progress | .measurement | .pointResult | .tally | .claim | .release | .sealed | .notice
  | .reply | .detail => .position

/-- Destination the station writes into its own frames: 61 the console, 63 EVERYONE. -/
def FrameKind.sendsTo : FrameKind → Nat
  | .measurement | .notice | .reply | .detail => 61
  | _ => 63

/-- Role of a sender number 0 to 61. -/
def roleOf (sender : Nat) : Role :=
  if sender = 0 then .source else if sender ≤ 60 then .position else .console

/-! ### Payloads received (Table 10.7) -/

/-- Point index and run number of LOAD-SETTLED. -/
def readLoadSettled : List Byte → Option (Nat × Nat)
  | [p, r] => some (p.toNat, r.toNat)
  | _ => none

/-- Window number of SYNC. -/
def readSync (bs : List Byte) : Option (BitVec 16) :=
  if bs.length = 2 then some (BitVec.ofNat 16 (beNat bs)) else none

/-- Window number and tally. -/
def readTally (bs : List Byte) : Option (BitVec 16 × Nat) :=
  if bs.length = 8 then some (BitVec.ofNat 16 (beNat (bs.take 2)), beNat (bs.drop 2)) else none

/-- Reset cause and batch state of JOIN. -/
def readJoin : List Byte → Option (JoinCause × BatchState)
  | [c, b] =>
    match JoinCause.ofCode c.toNat, BatchState.ofCode b.toNat with
    | some c, some b => some (c, b)
    | _, _ => none
  | _ => none

/-- Batch state of STATUS and its open run; a point index of 255 says that no run is open, and run number and progress
value are then not read. -/
def readStatus : List Byte → Option (BatchState × Option (Nat × Nat × Progress))
  | [b, p, r, v, _, _] =>
    match BatchState.ofCode b.toNat with
    | none => none
    | some b =>
      if p = 255 then some (b, none)
      else
        match Progress.ofCode v.toNat with
        | some v => some (b, some (p.toNat, r.toNat, v))
        | none => none
  | _ => none

/-- Point index, run number, progress value and batch state. -/
def readProgress : List Byte → Option (Nat × Nat × Progress × BatchState)
  | [p, r, v, b] =>
    match Progress.ofCode v.toNat, BatchState.ofCode b.toNat with
    | some v, some b => some (p.toNat, r.toNat, v, b)
    | _, _ => none
  | _ => none

/-- Point index and run number of POINT-RESULT, of a payload whose verdict is one of the named ones. -/
def readPointResult : List Byte → Option (Nat × Nat)
  | [p, r, v, _, _, _, _, _, _, _, _] =>
    match Verdict.ofCode v.toNat with
    | some _ => some (p.toNat, r.toNat)
    | none => none
  | _ => none

/-- Claim number and seal number string. -/
def readClaim : List Byte → Option (Nat × Text)
  | n :: text => if text.length ≤ 15 then some (n.toNat, text) else none
  | [] => none

/-- Claim number of a RELEASE whose reason is one of the named ones. -/
def readRelease : List Byte → Option Nat
  | [n, r] => if r.toNat ≤ 2 then some n.toNat else none
  | _ => none

/-- A notice set; bits 10 to 15 are not read. -/
def readNoticeSet (bs : List Byte) : Option (BitVec 10) :=
  if bs.length = 2 then some (BitVec.ofNat 10 (beNat bs)) else none

/-- A payload fits its kind when its length is one that Table 10.7 allows and every enumerated field holds one of its
codes (R151). Console commands that do not fit are refused by their own rules, not filtered (R155). -/
def fits (k : FrameKind) (bs : List Byte) : Bool :=
  match k with
  | .loadSettled => (readLoadSettled bs).isSome
  | .loadChanging => bs.length = 1
  | .loadOff => bs.length = 0
  | .sync => (readSync bs).isSome
  | .join => (readJoin bs).isSome
  | .status => (readStatus bs).isSome
  | .progress => (readProgress bs).isSome
  | .measurement => bs.length = 8 && statusFits ((bs.getD 4 0).toNat)
  | .pointResult => (readPointResult bs).isSome
  | .tally => (readTally bs).isSome
  | .claim => (readClaim bs).isSome
  | .release => (readRelease bs).isSome
  | .sealed => bs.length ≤ 16
  | .notice => bs.length = 2
  | .reply => bs.length = 2 && ((bs.getD 1 0).toNat ≤ 5)
  | .detail => 1 ≤ bs.length && bs.length ≤ 16
  | .setup | .setMeter | .planPoint | .planLimits | .planClear | .planHold | .planRelease | .reading | .query
  | .endBatch | .retrySeal | .clearNotices | .noticeMask | .restart => true

/-! ### Console payloads -/

/-- The nine fields of SETUP as carried, none where the payload does not fit (R165: streaming is on or off). -/
def readSetup (bs : List Byte) : Option Setup :=
  if bs.length = 15 then
    match boolOfCode ((bs.getD 14 0).toNat) with
    | some on => some
        { cRef := beNat (bs.take 5)
          agingPeriod := (bs.getD 5 0).toNat
          pressBudget := (bs.getD 6 0).toNat
          strokeTimeout := (bs.getD 7 0).toNat
          scannerGrace := (bs.getD 8 0).toNat
          mutWidth := (bs.getD 9 0).toNat
          mutInterval := beNat ((bs.drop 10).take 2)
          tolPpm := beNat ((bs.drop 12).take 2)
          streaming := on }
    | none => none
  else none

/-- The payload of a SETUP (Table 10.7). -/
def writeSetup (v : Setup) : List Byte :=
  beBytes 5 v.cRef ++ beBytes 1 v.agingPeriod ++ beBytes 1 v.pressBudget ++ beBytes 1 v.strokeTimeout ++
    beBytes 1 v.scannerGrace ++ beBytes 1 v.mutWidth ++ beBytes 2 v.mutInterval ++ beBytes 2 v.tolPpm ++
    beBytes 1 (boolCode v.streaming)

/-- The setup values brought into the ranges of Table 11.3. -/
def clampSetup (v : Setup) : Setup where
  cRef := clampNat 1 (10 ^ 12) v.cRef
  agingPeriod := clampNat 1 60 v.agingPeriod
  pressBudget := clampNat 1 8 v.pressBudget
  strokeTimeout := clampNat 1 10 v.strokeTimeout
  scannerGrace := clampNat 0 30 v.scannerGrace
  mutWidth := clampNat 0 255 v.mutWidth
  mutInterval := clampNat 0 65535 v.mutInterval
  tolPpm := clampNat 1 10000 v.tolPpm
  streaming := v.streaming

/-- Constant and identity of SET-METER. -/
def readSetMeter (bs : List Byte) : Option (Nat × Text) :=
  if 4 ≤ bs.length then some (beNat (bs.take 4), bs.drop 4) else none

/-- Kind and fields of a PLAN-POINT payload after its index byte, as carried. -/
def readPointPart : List Byte → Option PointPart
  | [0, n1, n0, s, k, m3, m2, m1, m0, l1, l0] =>
    some (.accuracy (beNat [n1, n0]) s.toNat k.toNat (beNat [m3, m2, m1, m0]) (beNat [l1, l0]))
  | [1, w1, w0, a] => some (.creep (beNat [w1, w0]) a.toNat)
  | [2, w1, w0, a] => some (.start (beNat [w1, w0]) a.toNat)
  | [3, l1, l0] => some (.register (beNat [l1, l0]))
  | _ => none

/-- The PLAN-POINT payload after its index byte (Table 10.7). -/
def writePointPart : PointPart → List Byte
  | .accuracy n s k m l =>
    beBytes 1 0 ++ beBytes 2 n ++ beBytes 1 s ++ beBytes 1 k ++ beBytes 4 m ++ beBytes 2 l
  | .creep w a => beBytes 1 1 ++ beBytes 2 w ++ beBytes 1 a
  | .start w a => beBytes 1 2 ++ beBytes 2 w ++ beBytes 1 a
  | .register l => beBytes 1 3 ++ beBytes 2 l

/-- The ranges of Table 3.1. -/
def clampPoint : PointPart → PointPart
  | .accuracy n s k m l =>
    .accuracy (clampNat 1 65535 n) (clampNat 2 16 s) (clampNat 0 3 k) (clampNat 0 1000000 m) (clampNat 1 65535 l)
  | .creep w a => .creep (clampNat 1 65535 w) (clampNat 0 255 a)
  | .start w a => .start (clampNat 1 65535 w) (clampNat 1 255 a)
  | .register l => .register (clampNat 1 65535 l)

/-- The limits of a PLAN-LIMITS payload after its index byte, as carried. -/
def readLimits (bs : List Byte) : Option Limits :=
  if bs.length = 10 then
    match boolOfCode ((bs.getD 9 0).toNat) with
    | some yes => some
        { lower := signed24 (beNat (bs.take 3))
          upper := signed24 (beNat ((bs.drop 3).take 3))
          spread := beNat ((bs.drop 6).take 3)
          sealRelevant := yes }
    | none => none
  else none

/-- The PLAN-LIMITS payload after its index byte (Table 10.7). -/
def writeLimits (l : Limits) : List Byte :=
  signedBytes l.lower ++ signedBytes l.upper ++ beBytes 3 l.spread ++ beBytes 1 (boolCode l.sealRelevant)

/-- The ranges of Table 3.2. -/
def clampLimits (l : Limits) : Limits where
  lower := clampInt (-Config.maxError) Config.maxError l.lower
  upper := clampInt (-Config.maxError) Config.maxError l.upper
  spread := clampNat 0 99999 l.spread
  sealRelevant := l.sealRelevant

/-- Reading word and value of a READING payload after its index byte: true for AFTER. -/
def readReading : List Byte → Option (Bool × Nat)
  | w :: v =>
    if v.length = 5 then
      match boolOfCode w.toNat with
      | some after => if beNat v < 10 ^ 12 then some (after, beNat v) else none
      | none => none
    else none
  | [] => none

/-! ### Payloads sent -/

def TxMsg.kind : TxMsg → FrameKind
  | .join _ _ => .join
  | .status _ => .status
  | .progress _ _ _ _ => .progress
  | .measurement _ _ _ _ _ => .measurement
  | .pointResult _ _ _ _ _ _ => .pointResult
  | .tally _ _ => .tally
  | .claim _ _ => .claim
  | .release _ _ => .release
  | .sealed _ => .sealed
  | .notice _ => .notice
  | .reply _ _ => .reply
  | .detail _ _ _ _ => .detail

/-- The class a frame is queued and sent with (R150). -/
def TxMsg.cls (m : TxMsg) : Nat := m.kind.cls

/-- The payload of a frame the station sends (Table 10.7). A JOIN or STATUS not yet filled has none. -/
def TxMsg.payload : TxMsg → List Byte
  | .join c (some b) => beBytes 1 c.code ++ beBytes 1 b.code
  | .join _ none => []
  | .status (some c) =>
    beBytes 1 c.batch.code ++
      (match c.openRun with
        | some (p, r, v) => beBytes 1 p ++ beBytes 1 r ++ beBytes 1 v.code
        | none => beBytes 1 255 ++ beBytes 1 0 ++ beBytes 1 0) ++
      beBytes 2 c.notices.toNat
  | .status none => []
  | .progress p r v b => beBytes 1 p ++ beBytes 1 r ++ beBytes 1 v.code ++ beBytes 1 b.code
  | .measurement p r q st e => beBytes 1 p ++ beBytes 1 r ++ beBytes 2 q ++ beBytes 1 st.code ++ valueOrAbsent e
  | .pointResult p r v x sp n =>
    beBytes 1 p ++ beBytes 1 r ++ beBytes 1 v.code ++ valueOrAbsent x ++ spreadOrAbsent sp ++ beBytes 2 n
  | .tally w t => beBytes 2 w.toNat ++ beBytes 6 t
  | .claim n s => beBytes 1 n ++ s
  | .release n r => beBytes 1 n ++ beBytes 1 r.code
  | .sealed s => s
  | .notice set => beBytes 2 set.toNat
  | .reply k c => beBytes 1 k.number ++ beBytes 1 c.code
  | .detail part total content _ => beBytes 1 (part * 16 + total) ++ content

/-! ### Content of DETAIL parts (Table 11.4, R166) -/

def keptBytes (e : KeptEntry) : List Byte := beBytes 2 e.seq ++ beBytes 1 e.status.code ++ valueOrAbsent e.error

/-- Index, run, kind and stale mark, verdict and cause, the head of part 0 of every point record. -/
def recordHead (x : PointRecord) : List Byte :=
  beBytes 1 x.p ++ beBytes 1 x.r ++ beBytes 1 (x.kind.code + if x.stale then 128 else 0) ++
    beBytes 1 x.verdict.code ++ beBytes 1 (causeCode x.cause)

/-- Parts of the series of a point record: the header part, then two kept entries a part, or the two further parts of a
register record. -/
def recordTotal (x : PointRecord) : Nat :=
  match x.body with
  | .accuracy kept => 1 + (kept.length + 1) / 2
  | .window _ _ => 1
  | .register _ _ _ _ _ _ => 3

/-- Content of one part of a point series. -/
def recordPart (x : PointRecord) (part : Nat) : List Byte :=
  match x.body with
  | .accuracy kept =>
    if part = 0 then
      recordHead x ++ valueOrAbsent x.value ++ spreadOrAbsent x.spread ++ beBytes 2 x.completed ++
        beBytes 2 x.streamDrops
    else ((kept.drop (2 * (part - 1))).take 2).flatMap keptBytes
  | .window pulses offset =>
    if part = 0 then recordHead x ++ beBytes 2 pulses ++ beBytes 6 (offset.getD (2 ^ 48 - 1)) else []
  | .register before after mReg _ void status =>
    match part with
    | 0 => recordHead x ++ valueOrAbsent x.value
    | 1 => fiveOrAbsent before ++ fiveOrAbsent after
    | 2 => beBytes 6 mReg ++ beBytes 1 ((status.map GateStatus.code).getD 255) ++ beBytes 1 (boolCode void)
    | _ => []

/-- Parts of the meter series. -/
def meterTotal : Nat := 5

/-- Content of one part of the meter series. -/
def meterPart (m : MeterRecord) (part : Nat) : List Byte :=
  match part with
  | 0 => beBytes 1 m.batch.code ++ beBytes 1 (overallCode m.verdict) ++
      fiveOrAbsent (m.clock.map BatchClock.seconds) ++ beBytes 4 (m.constant.getD 0)
  | 1 => m.identity.getD []
  | 2 => m.held.getD []
  | 3 => (m.sealRecord.map SealRecord.number).getD []
  | 4 => fiveOrAbsent (m.sealRecord.map SealRecord.clock)
  | _ => []

end Sys2Proof.Machine
end

