-- ==== Sys2Proof/Machine/Flags.lean ====
section
/-! DEFINITION. The notice set (Table 11.5, R169, R170) as bits, and the three lamps (R101). -/

namespace Sys2Proof.Machine

/-- Position of a notice in the notice set (Table 10.8). -/
def Notice.bit : Notice → Nat
  | .txDropped => 0 | .peerLost => 1 | .inputOverrate => 2 | .pressFault => 3 | .sealReused => 4
  | .sealReadBad => 5 | .planClamped => 6 | .refSuspect => 7 | .scannerAbsent => 8 | .duplicateNumber => 9

/-- The set that holds one notice. -/
def Notice.single (n : Notice) : BitVec 10 := 1#10 <<< n.bit

/-- Whether a notice is in a set. -/
def hasNotice (set : BitVec 10) (n : Notice) : Bool := set.getLsbD n.bit

/-- A notice made pending. -/
def withNotice (set : BitVec 10) (n : Notice) : BitVec 10 := set ||| n.single

/-- A notice made clear. -/
def withoutNotice (set : BitVec 10) (n : Notice) : BitVec 10 := set &&& ~~~n.single

/-- The level notices whose condition holds (Table 11.5): REF_SUSPECT, SCANNER_ABSENT, and DUPLICATE_NUMBER, which
holds from the entry into MUTED to the next reset (R117). -/
def levelConditions (s : State) : BitVec 10 :=
  (if s.xc.suspect then Notice.refSuspect.single else 0) |||
    (if s.fe.absent then Notice.scannerAbsent.single else 0) |||
    (if s.line.state = .muted then Notice.duplicateNumber.single else 0)

/-- CLEAR-NOTICES: every named notice becomes clear, then every named level notice whose condition holds becomes pending
again; the others are untouched (R170). -/
def clearedNotices (s : State) (set : BitVec 10) : BitVec 10 :=
  (s.cmd.notices &&& ~~~set) ||| (set &&& levelConditions s)

/-- What a lamp shows (Table 6.4). -/
inductive LampMode where
  | off | on | flashing
  deriving DecidableEq, Repr

/-- Amber, green and red. -/
structure LampModes where
  amber : LampMode
  green : LampMode
  red   : LampMode
  deriving DecidableEq, Repr

/-- The first row of Table 6.4 whose condition holds; all off while RESET-N is low or supply has just arrived (R102,
row POWER_ON_RESET). In a command reset, which lasts to the next tick, the row of the state as it stands (log 17). -/
def lampModes (s : State) : LampModes :=
  if s.phase = .powerOn || s.phase = .pin then ⟨.off, .off, .off⟩
  else if !validNumber s.line.own || s.line.state = .muted then ⟨.flashing, .off, .flashing⟩
  else if s.fe.absent && s.run.run.isSome then ⟨.flashing, .off, .off⟩
  else
    match s.meter.batch with
    | .idle => ⟨.off, .off, .off⟩
    | .loaded | .running => ⟨.on, .off, .off⟩
    | .rejected => ⟨.off, .off, .on⟩
    | .awaitSeal | .claiming => ⟨.off, .flashing, .off⟩
    | .pressing | .sealed => ⟨.off, .on, .off⟩
    | .sealFault => ⟨.off, .flashing, .flashing⟩

/-- The level of a lamp output: a flashing lamp is lit in the lit half of the lamp clock (R102). -/
def LampMode.level (m : LampMode) (lit : Bool) : Bool :=
  match m with
  | .off => false
  | .on => true
  | .flashing => lit

/-- The outputs LAMP-AMBER, LAMP-GREEN and LAMP-RED. -/
def lamps (s : State) : Bool × Bool × Bool :=
  let m := lampModes s
  (m.amber.level s.lamp.lit, m.green.level s.lamp.lit, m.red.level s.lamp.lit)

end Sys2Proof.Machine
end

