-- ==== Sys2Proof/Machine/Ops.lean ====
section
/-! DEFINITION. Operations that every block uses: the overall verdict (R94, R95), the transmit queue (R160 to R162),
the notices (R169) and what the owner of a lost frame does (R135, R138, R162, R167). -/

namespace Sys2Proof.Machine

/-- A block works only outside a reset: while one lasts the station takes no edge, character or frame, and its timers
do not run (R129, R131, R171, log 16). -/
def whenRunning (f : State → State) (s : State) : State := if s.phase = .running then f s else s

/-- Whether a timer's expiry stamp is the given one. -/
def dueAt (now : Stamp) (timer : Option Stamp) : Bool := timer == some now

/-- The meaning of a timer's row: its effect when the timer expires at the stamp that stands. The expiry of a timer that
has been stopped, or set again, since the row was queued changes nothing (log 2). -/
def whenDue (timer : State → Option Stamp) (f : State → State) (s : State) : State :=
  whenRunning (fun s => if dueAt s.fe.now (timer s) then f s else s) s

/-! ### The overall verdict -/

/-- The active entry of an index (R39). -/
def activeEntry (s : State) (p : Nat) : Option PlanEntry := slotGet s.plan.active p

/-- Whether an index belongs to the seal-relevant set (R94). -/
def sealRelevant (s : State) (p : Nat) : Bool :=
  match activeEntry s p with
  | some ⟨_, some l⟩ => l.sealRelevant
  | _ => false

/-- The seal-relevant set, in index order. -/
def sealRelevantSet (s : State) : List Nat := (List.range 32).filter (sealRelevant s)

/-- Whether an index has a record that is not stale and not PENDING. -/
def currentRecord (s : State) (p : Nat) : Bool :=
  match slotGet s.meter.records p with
  | some x => !x.stale && x.verdict != .pending
  | none => false

/-- Whether the record of an index is PASS. -/
def passRecord (s : State) (p : Nat) : Bool :=
  match slotGet s.meter.records p with
  | some x => x.verdict == .pass
  | none => false

/-- The overall verdict of R94, absent when it does not exist. -/
def overallVerdict (s : State) : Option Overall :=
  let set := sealRelevantSet s
  if set.isEmpty || !set.all (currentRecord s) || s.run.run.isSome then none
  else if set.all (passRecord s) then some .eligible else some .rejected

/-- The batch state of Table 6.3 for a verdict. -/
def stateOfVerdict : Option Overall → BatchState
  | some .eligible => .awaitSeal
  | some .rejected => .rejected
  | none => .running

/-- The states in which the meter record evaluates (Table 6.3, R97). -/
def evaluates : BatchState → Bool
  | .running | .rejected | .awaitSeal => true
  | .idle | .loaded | .claiming | .pressing | .sealed | .sealFault => false

/-- The verdict stored and the batch state set, without telling the seal unit (R95). -/
def evaluateRecord (s : State) : State :=
  if evaluates s.meter.batch then
    { s with meter := { s.meter with
        verdict := overallVerdict s
        batch := stateOfVerdict (overallVerdict s) } }
  else s

/-! ### The transmit queue -/

/-- Kinds of which at most one frame is queued (R161). -/
def coalesces (k : FrameKind) : Bool :=
  match k with
  | .status | .notice => true
  | _ => false

/-- Of the frames not under attempt whose class is less urgent than `c`, the index of the last one to have entered among
those of the least urgent class (R162). -/
def victim (c : Nat) (q : List TxFrame) : Option Nat :=
  (q.zipIdx.foldl
    (fun (best : Option (Nat × Nat)) (x : TxFrame × Nat) =>
      if !x.1.sending && decide (c < x.1.msg.cls) && best.all (fun b => decide (b.1 ≤ x.1.msg.cls)) then
        some (x.1.msg.cls, x.2)
      else best)
    none).map Prod.snd

/-- A frame that enters the queue now (R160). -/
def newFrame (now : Stamp) (m : TxMsg) : TxFrame := ⟨m, now, 0, false⟩

/-- A frame enters the queue, displaces another or is dropped at its queuing (R162); second, the frame lost. -/
def admitFrame (now : Stamp) (m : TxMsg) (l : LineController) : LineController × Option TxMsg :=
  if l.queue.length < Config.queueCapacity then ({ l with queue := l.queue ++ [newFrame now m] }, none)
  else
    match victim m.cls l.queue with
    | some i =>
      ({ l with queue := l.queue.eraseIdx i ++ [newFrame now m] }, (l.queue[i]?).map TxFrame.msg)
    | none => (l, some m)

/-- A frame put beside the queue while one of its kind is under attempt (R161). -/
def waitBeside (m : TxMsg) (l : LineController) : LineController :=
  match m with
  | .status _ => { l with waitingStatus := true }
  | .notice set => { l with waitingNotice := some set }
  | _ => l

/-- Queuing of a frame (R161, R162); second, the frame lost by it. -/
def queueFrame (now : Stamp) (m : TxMsg) (l : LineController) : LineController × Option TxMsg :=
  if coalesces m.kind && l.queue.any (fun f => f.msg.kind == m.kind) then
    if l.queue.any (fun f => f.msg.kind == m.kind && f.sending) then (waitBeside m l, none)
    else
      ({ l with queue := l.queue.map fun f => if f.msg.kind = m.kind then { f with msg := m } else f }, none)
  else admitFrame now m l

/-! ### Lost frames and notices -/

/-- The event notice TX_DROPPED (R162, R169). Where it queues a NOTICE, the frame which that NOTICE displaces, or the
NOTICE itself, raises TX_DROPPED again, and it is pending already. -/
def raiseTxDropped (s : State) : State :=
  if hasNotice s.cmd.notices .txDropped then s
  else
    let set := withNotice s.cmd.notices .txDropped
    let s := { s with cmd := { s.cmd with notices := set } }
    if hasNotice s.cmd.mask .txDropped then { s with line := (queueFrame s.fe.now (.notice set) s.line).1 } else s

/-- The claim of a dropped CLAIM is abandoned and the held number discarded with it (R135, Table 9.3). -/
def abandonDropped (s : State) : State :=
  evaluateRecord { s with
    sealUnit := { s.sealUnit with current := none }
    meter := { s.meter with held := none, batch := .awaitSeal } }

/-- What the block that queued a frame does when it is lost: the seal unit abandons the claim of the current CLAIM, and
keeps its owed release for a RELEASE; the command handler ends its series; the others do nothing (R162). -/
def tellOwner (m : TxMsg) (s : State) : State :=
  match m with
  | .claim n _ =>
    if s.meter.batch = .claiming && s.sealUnit.current.any (fun c => c.number == n) then abandonDropped s else s
  | .detail _ _ _ live => if live then { s with cmd := { s.cmd with series := none } } else s
  | _ => s

/-- A frame dropped, displaced or removed: TX_DROPPED, then the owner is told (R153, R160, R162). -/
def frameLost (m : TxMsg) (s : State) : State := tellOwner m (raiseTxDropped s)

/-- A frame is queued (R161, R162). A frame that displaces another enters first; then TX_DROPPED is raised, with its
NOTICE, and the owner of the lost frame is told (log 36). -/
def enqueue (m : TxMsg) (s : State) : State :=
  let q := queueFrame s.fe.now m s.line
  let s := { s with line := q.1 }
  match q.2 with
  | some lost => frameLost lost s
  | none => s

/-- Room for a JOIN: a full queue loses the frame that entered last, with TX_DROPPED, and its owner is told (R160). -/
def makeRoom (s : State) : State :=
  match s.line.queue.getLast? with
  | some f =>
    if s.line.queue.length < Config.queueCapacity then s
    else frameLost f.msg { s with line := { s.line with queue := s.line.queue.dropLast } }
  | none => s

/-- A JOIN enters (R160). The NOTICE with TX_DROPPED that making room queues may fill the queue again; it is then the
frame that entered last, and makes room in its turn (log 13). -/
def queueJoin (cause : JoinCause) (s : State) : State :=
  let s := makeRoom (makeRoom s)
  { s with line := { s.line with queue := s.line.queue ++ [newFrame s.fe.now (.join cause none)] } }

/-- A notice becomes pending; a NOTICE is queued when it was clear and its mask bit is on (R169). -/
def raiseNotice (n : Notice) (s : State) : State :=
  if hasNotice s.cmd.notices n then s
  else
    let set := withNotice s.cmd.notices n
    let s := { s with cmd := { s.cmd with notices := set } }
    if hasNotice s.cmd.mask n then enqueue (.notice set) s else s

/-- A level notice becomes clear with its condition, which queues nothing (R169). -/
def clearNotice (n : Notice) (s : State) : State :=
  { s with cmd := { s.cmd with notices := withoutNotice s.cmd.notices n } }

/-- Ticks of half the aging period in force (R115). -/
def halfAging (s : State) : Nat := s.cmd.setup.agingPeriod * (Config.second / 2)

/-- The heartbeat timer starts, or starts again (R115). -/
def startHeartbeat (s : State) : State :=
  { s with line := { s.line with heartbeat := some (later s.fe.now (halfAging s)) } }

end Sys2Proof.Machine
end

