-- ==== Sys2Proof/Machine/Roster.lean ====
section
/-! DEFINITION. The roster: entries, marks, aging and the pending peers (R103 to R114). -/

namespace Sys2Proof.Machine

/-- A new entry (R105). -/
def newPeer (station : Nat) : RosterEntry := ⟨station, none, none, false, false⟩

/-- The entry of a station, created if there is none. -/
def withPeer (station : Nat) (es : List RosterEntry) : List RosterEntry :=
  if es.any fun e => e.station == station then es else es ++ [newPeer station]

/-- An update of a station's entry, both marks set (R105). -/
def hearPeer (station : Nat) (f : RosterEntry → RosterEntry) (es : List RosterEntry) : List RosterEntry :=
  (withPeer station es).map fun e => if e.station = station then { f e with current := true, next := true } else e

/-- The roster takes an accepted frame of a position peer, with an update of its entry (R105). A frame of the source
node or the console makes no entry. -/
def rosterTakes (sender : Nat) (f : RosterEntry → RosterEntry) (s : State) : State :=
  if roleOf sender = .position && sender != s.line.own then
    { s with roster := { s.roster with entries := hearPeer sender f s.roster.entries } }
  else s

/-- The marks alone (R105). -/
def rosterMarks (sender : Nat) (s : State) : State := rosterTakes sender id s

/-- The value of a peer's progress record for a progress value carried in a frame. -/
def Progress.peer : Progress → PeerValue
  | .opened => .opened
  | .measuring => .measuring
  | .settled => .settled
  | .withdrawn => .withdrawn

/-- A point index and a run number that are in range (R105). -/
def rangeOk (p r : Nat) : Bool := p ≤ 31 && r != 0

/-- Whether a value reports that the peer is done with the run it names (R113). -/
def PeerValue.done : PeerValue → Bool
  | .settled | .withdrawn | .closed => true
  | .opened | .measuring => false

/-- Whether a progress record reports the peer done with the run (p, r). -/
def doneWith (p r : Nat) (x : Option PeerProgress) : Bool :=
  match x with
  | some q => q.p == p && q.r == r && q.value.done
  | none => false

/-- A pending entry for the run (p, r) (R113). -/
def pendingPeer (p r : Nat) (e : RosterEntry) : Bool := e.batch == some .running && !doneWith p r e.progress

/-- The roster's answer to the completion question (R114). -/
def nonePending (p r : Nat) (s : State) : Bool := s.roster.entries.all fun e => !pendingPeer p r e

/-- The shift of the marks at an aging expiry (R110). -/
def shiftMarks (e : RosterEntry) : RosterEntry := { e with current := e.next, next := false }

/-- Whether an entry survives the expiry: its marks after the shift are not both clear. -/
def survives (e : RosterEntry) : Bool := (shiftMarks e).current || (shiftMarks e).next

/-- The entries an expiry removes, as they stood before it. -/
def agedOut (es : List RosterEntry) : List RosterEntry := es.filter fun e => !survives e

/-- The entries after an expiry (R110). -/
def agedEntries (es : List RosterEntry) : List RosterEntry := (es.filter survives).map shiftMarks

end Sys2Proof.Machine
end

