-- ==== Sys2Proof/Machine/CrossChecking.lean ====
section
/-! DEFINITION. The reference cross-check: latches, tallies, judgments and the REF_SUSPECT condition (R119 to R128). -/

namespace Sys2Proof.Machine

/-- The tally of a station in a collection. -/
def tallyOf (station : Nat) (c : Collection) : Option Nat :=
  (c.tallies.find? fun x => x.station == station).map StationTally.tally

/-- The tolerance for a median (R124). -/
def tolerance (med tolPpm : Nat) : Nat := max Config.toleranceFloor (med * tolPpm / 10 ^ 6)

/-- Whether an own tally lies outside the tolerance around the median (R124). -/
def outOfTolerance (own med tolPpm : Nat) : Bool := tolerance med tolPpm < (max own med - min own med)

/-- The outcome of a judgment, none with fewer than 3 tallies (R124): true for out of tolerance. -/
def outcome (own tolPpm : Nat) (c : Collection) : Option Bool :=
  if c.tallies.length < Config.minTallies then none
  else (tallyOf own c).map fun t => outOfTolerance t (median (c.tallies.map StationTally.tally)) tolPpm

/-- Condition and streak after a judgment (Table 8.2). -/
def judged (suspect : Bool) (streak : Nat) : Option Bool → Bool × Nat
  | none => (suspect, streak)
  | some true => (true, 0)
  | some false =>
    if suspect then (if Config.goodWindows ≤ streak + 1 then (false, Config.goodWindows) else (true, streak + 1))
    else (false, min Config.goodWindows (streak + 1))

/-- A raising of REF_SUSPECT sets the void flag of an open run (R64). -/
def voidRun (s : State) : State :=
  { s with run := { s.run with run := s.run.run.map fun x => { x with void := true } } }

/-- A change of the condition reaches the command handler and the point runner (R126). -/
def setSuspect (suspect : Bool) (s : State) : State :=
  let was := s.xc.suspect
  let s := { s with xc := { s.xc with suspect := suspect } }
  if suspect && !was then raiseNotice .refSuspect (voidRun s)
  else if was && !suspect then clearNotice .refSuspect s
  else s

/-- The judgment of the collection, if one is present and not yet judged (R124, R125). -/
def judge (s : State) : State :=
  match s.xc.collection with
  | some c =>
    if c.judged then s
    else
      let j := judged s.xc.suspect s.xc.streak (outcome s.line.own s.cmd.setup.tolPpm c)
      setSuspect j.1 { s with xc := { s.xc with collection := some { c with judged := true }, streak := j.2 } }
  | none => s

/-- Whether every entry of the roster has a tally in the collection (R123). -/
def allReported (c : Collection) (es : List RosterEntry) : Bool :=
  es.all fun e => (tallyOf e.station c).isSome

/-- The early-judgment test (R123). -/
def earlyJudgment (s : State) : State :=
  match s.xc.collection with
  | some c => if allReported c s.roster.entries then judge s else s
  | none => s

/-- Priming with a window number (R120): no tally is formed. -/
def prime (n : BitVec 16) (s : State) : State :=
  { s with xc := { s.xc with latest := some ⟨n, s.trk.count⟩, earlier := none, collection := none } }

/-- The tally of the window that a SYNC closes: a new collection, TALLY queued, and the early-judgment test (R121). -/
def formTally (n : BitVec 16) (before : Latch) (s : State) : State :=
  let tally := elapsed s.trk.count before.count
  let s := { s with xc := { s.xc with
    earlier := some before
    latest := some ⟨n, s.trk.count⟩
    collection := some ⟨n, false, [⟨s.line.own, tally⟩]⟩ } }
  earlyJudgment (enqueue (.tally n tally) s)

/-- SYNC with window number n (R120). -/
def takeSync (n : BitVec 16) (s : State) : State :=
  match s.xc.latest with
  | none => prime n s
  | some l =>
    if n = l.window then s
    else if n = l.window + 1 then formTally n l (judge s)
    else prime n (judge s)

/-- A tally entered under a station's number (R122). -/
def enterTally (station tally : Nat) (ts : List StationTally) : List StationTally :=
  if ts.any fun x => x.station == station then
    ts.map fun x => if x.station = station then { x with tally := tally } else x
  else ts ++ [⟨station, tally⟩]

/-- TALLY of a peer (R122). -/
def takeTally (sender : Nat) (w : BitVec 16) (tally : Nat) (s : State) : State :=
  match s.xc.collection with
  | some c =>
    if c.judged || c.window != w then s
    else
      earlyJudgment { s with xc := { s.xc with
        collection := some { c with tallies := enterTally sender tally c.tallies } } }
  | none => s

/-- The return from LINE-OFF primes the unit again (R127). -/
def unprime (s : State) : State :=
  { s with xc := { s.xc with latest := none, earlier := none, collection := none } }

end Sys2Proof.Machine
end

