-- ==== Sys2Proof/Machine/GateArithmetic.lean ====
section
/-! DEFINITION. Gate arithmetic: gate quantities, error value and status (R25 to R33), register error (R35), and the
error computer's arming, disarming and scanner loss (R18, R19, R23). -/

namespace Sys2Proof.Machine

/-- An error value and its status once rounded: saturated and CLAMPED outside the range, else the status given
(R29, R30). -/
def statedError (rounded : Int) (status : GateStatus) : GateResult :=
  if saturate rounded = rounded then ⟨status, some rounded⟩ else ⟨.clamped, some (saturate rounded)⟩

/-- m_int, the difference of the reference counts (R25). -/
def mInt (a b : Marker) : Nat := elapsed b.c a.c

/-- D_gate, the difference of the rising stamps (R25). -/
def dGate (a b : Marker) : Nat := elapsed b.t a.t

/-- D_ref, formed when both reference stamps are present (R26). -/
def dRef (a b : Marker) : Option Nat :=
  match a.rNext, b.rPrev with
  | some x, some y => some (elapsed y x)
  | _, _ => none

/-- The numerator X (R27), in exact integers. -/
def errorNumerator (n cRef cMut m ref gate : Nat) : Int :=
  (n : Int) * cRef * ref - (cMut : Int) * ((m : Int) - 1) * gate

/-- The denominator Y (R27). -/
def errorDenominator (cMut m gate : Nat) : Nat := cMut * (m - 1) * gate

/-- The rounded error of a gate in ppm (R27, R28). -/
def gateError (n cRef cMut m ref gate : Nat) : Int :=
  roundDiv (10 ^ 6 * errorNumerator n cRef cMut m ref gate) (errorDenominator cMut m gate)

/-- The status below CLAMPED (Table 2.2). -/
def fitStatus (m minRef : Nat) (suspect : Bool) : GateStatus :=
  if suspect then .suspect else if m < minRef then .coarse else .valid

/-- The result of an evaluated gate, by the first row of Table 2.2 that holds (R30). -/
def gateResult (n minRef cRef cMut : Nat) (suspect overrate : Bool) (a b : Marker) : GateResult :=
  if Config.maxGate < dGate a b then ⟨.gateLong, none⟩
  else if overrate then ⟨.overrate, none⟩
  else if mInt a b < 2 then ⟨.noReference, none⟩
  else
    match dRef a b with
    | none => ⟨.noReference, none⟩
    | some ref =>
      statedError (gateError n cRef cMut (mInt a b) ref (dGate a b)) (fitStatus (mInt a b) minRef suspect)

/-- The register result (R35). -/
def registerResult (cRef before after mReg : Nat) : GateResult :=
  if mReg = 0 then ⟨.noReference, none⟩
  else statedError (roundDiv (((after : Int) - before) * cRef - 10 ^ 6 * mReg) mReg) .valid

/-! ### The error computer -/

/-- The start of a gate at a marker (R20). -/
def freshGate (m : Marker) : Gate := ⟨m, 0, false, none⟩

/-- Arming at the opening of an ACCURACY run; a gate in progress is discarded as at a disarm (R18). -/
def arm (n minRef : Nat) (s : State) : State :=
  match s.ec with
  | .gating _ _ _ => { s with ec := .armed n minRef, trk := { s.trk with queue := [] } }
  | .idle | .armed _ _ => { s with ec := .armed n minRef }

/-- Disarm: gate and marker queue are discarded; in IDLE nothing happens (R16, R19). -/
def disarm (s : State) : State :=
  match s.ec with
  | .idle => s
  | .armed _ _ | .gating _ _ _ => { s with ec := .idle, trk := { s.trk with queue := [] } }

/-- Scanner loss at the error computer (R23). -/
def scannerLoss (s : State) : State :=
  match s.ec with
  | .idle => s
  | .armed n m | .gating n m _ => { s with ec := .armed n m, trk := { s.trk with queue := [] } }

/-- A counted reference edge taken into a marker or snapshot whose next reference stamp is awaited: on its own tick the
count advances and the edge becomes the last one, later it is the next one (R12, R14). -/
def fillMarker (e : Stamp) (m : Marker) : Marker :=
  if m.rNext.isSome then m
  else if m.t = e then { m with c := m.c + 1, rPrev := some e }
  else { m with rNext := some e }

/-- The error computer's copies of the markers follow the tracker's (R13, R14). -/
def fillGate (e : Stamp) (g : Gate) : Gate :=
  { g with a := fillMarker e g.a, endMarker := g.endMarker.map (fillMarker e) }

/-- A counted reference edge at the error computer. -/
def fillErrorComputer (e : Stamp) : ErrorComputer → ErrorComputer
  | .gating n m g => .gating n m (fillGate e g)
  | ec => ec

/-- The stamp at which the gate whose end marker waits is evaluated (R21). -/
def evaluationDue : ErrorComputer → Option Stamp
  | .gating _ _ ⟨_, _, _, some b⟩ => some (b.t + 1)
  | _ => none

/-- The waiting markers after a counted reference edge: those earlier than it are filled and leave (R14). -/
def fillQueue (e : Stamp) (q : List Marker) : List Marker :=
  (q.map (fillMarker e)).filter fun m => m.rNext.isNone

end Sys2Proof.Machine
end

