-- ==== Sys2Proof/Machine/Sealing.lean ====
section
/-! DEFINITION. Sealing: the seal check, the press list, claims and their abandonment, the stroke, the seal log
(R129 to R145), and the evaluation that hands a held number to the seal check (R95 to R97). -/

namespace Sys2Proof.Machine

/-- An own RELEASE is queued and becomes the owed release (R137 to R141). -/
def queueRelease (n : Nat) (reason : ReleaseReason) (s : State) : State :=
  enqueue (.release n reason) { s with sealUnit := { s.sealUnit with owed := some ⟨n, reason⟩ } }

/-- The owed RELEASE is queued again unless it is queued still (R138). -/
def requeueOwed (s : State) : State :=
  match s.sealUnit.owed with
  | some o =>
    if s.line.queue.any (fun f => match f.msg with | .release n _ => n == o.number | _ => false) then s
    else enqueue (.release o.number o.reason) s
  | none => s

/-- Whether a number is in the seal log or claimed by another station (R132). -/
def sealTaken (number : Text) (s : State) : Bool :=
  s.sealUnit.log.any (· == number) ||
    s.sealUnit.pressList.any fun c => c.station != s.line.own && c.sealNo == number

/-- The claim number after the given one (R132). -/
def nextClaim (n : Nat) : Nat := if n = 255 then 1 else n + 1

/-- The seal check of a held number in AWAIT_SEAL (R132). -/
def sealCheck (number : Text) (s : State) : State :=
  if sealTaken number s then
    let s := raiseNotice .sealReused s
    { s with meter := { s.meter with held := none } }
  else
    let n := nextClaim s.sealUnit.claimNumber
    enqueue (.claim n number) { s with
      sealUnit := { s.sealUnit with claimNumber := n, current := some ⟨n, number, false⟩ }
      meter := { s.meter with batch := .claiming } }

/-- The seal check where a number is held and the state is AWAIT_SEAL (R96, R97). -/
def checkHeld (s : State) : State :=
  match s.meter.held with
  | some number => if s.meter.batch = .awaitSeal then sealCheck number s else s
  | none => s

/-- The evaluation (R95): a move into AWAIT_SEAL from RUNNING or REJECTED tells the seal unit (R96). -/
def evaluate (s : State) : State :=
  let s' := evaluateRecord s
  if s.meter.batch = .running || s.meter.batch = .rejected then checkHeld s' else s'

/-- The return into AWAIT_SEAL made by the seal unit: an evaluation, then the seal check of a number still held
(R97, R137, R145). -/
def returnToAwaitSeal (s : State) : State :=
  checkHeld (evaluateRecord { s with meter := { s.meter with batch := .awaitSeal } })

/-- Abandonment of the current claim for a same-seal claim ahead or a SEALED with its number (Table 9.3, R144). -/
def abandonReused (c : OwnClaim) (s : State) : State :=
  let s := queueRelease c.number .abandoned s
  let s := raiseNotice .sealReused s
  returnToAwaitSeal { s with
    sealUnit := { s.sealUnit with current := none }
    meter := { s.meter with held := none } }

/-- The press list without the claim of a station. -/
def withoutStation (station : Nat) (claims : List Claim) : List Claim := claims.filter fun c => c.station != station

/-- Abandonment when the line leaves ON-LINE: a sent claim leaves the own list and its RELEASE is owed, the held number
is kept and checked again (R137, log 10). -/
def abandonOffLine (s : State) : State :=
  match s.meter.batch, s.sealUnit.current with
  | .claiming, some c =>
    returnToAwaitSeal { s with sealUnit := { s.sealUnit with
      current := none
      owed := if c.sent then some ⟨c.number, .abandoned⟩ else s.sealUnit.owed
      pressList := if c.sent then withoutStation s.line.own s.sealUnit.pressList else s.sealUnit.pressList } }
  | _, _ => s

/-- Withdrawal of the claim at END-BATCH, before the batch is ended (R98, Table 9.3). -/
def withdrawClaim (s : State) : State :=
  match s.meter.batch, s.sealUnit.current with
  | .claiming, some c =>
    let s := queueRelease c.number .abandoned s
    { s with sealUnit := { s.sealUnit with current := none } }
  | _, _ => s

/-- The place of a station's claim in the press list, 0 for the front. -/
def placeOf (station : Nat) (claims : List Claim) : Option Nat := claims.findIdx? fun c => c.station == station

/-- The grant of a press slot, with STROKE-DONE sampled (R139). -/
def grant (c : OwnClaim) (s : State) : State :=
  if s.pins.strokeDone then
    let s := raiseNotice .pressFault s
    let s := queueRelease c.number .fault s
    { s with
      sealUnit := { s.sealUnit with current := none }
      meter := { s.meter with batch := .sealFault } }
  else
    { s with
      sealUnit := { s.sealUnit with
        pressDrive := true
        strokeTimer := some (later s.fe.now (s.cmd.setup.strokeTimeout * Config.second)) }
      meter := { s.meter with batch := .pressing } }

/-- The grant test (R136). -/
def grantTest (s : State) : State :=
  match s.meter.batch, s.sealUnit.current with
  | .claiming, some c =>
    if c.sent && (placeOf s.line.own s.sealUnit.pressList).any (fun i => decide (i < s.cmd.setup.pressBudget)) then
      grant c s
    else s
  | _, _ => s

/-- Whether a claim ahead of the own one carries a seal number (R133). -/
def claimedAhead (number : Text) (s : State) : Bool :=
  (s.sealUnit.pressList.takeWhile fun c => c.station != s.line.own).any fun c => c.sealNo == number

/-- The same-seal examination, then the grant test, while the own claim stands in the list (R133, R135, log 21). -/
def examineAndGrant (s : State) : State :=
  match s.meter.batch, s.sealUnit.current with
  | .claiming, some c =>
    if c.sent && (placeOf s.line.own s.sealUnit.pressList).isSome then
      if claimedAhead c.sealNo s then abandonReused c s else grantTest s
    else s
  | _, _ => s

/-- A peer's CLAIM in the press list (R133). -/
def enterClaim (c : Claim) (claims : List Claim) : List Claim :=
  if claims.any fun x => x.station == c.station && x.number == c.number then
    claims.map fun x => if x.station = c.station ∧ x.number = c.number then { x with sealNo := c.sealNo } else x
  else withoutStation c.station claims ++ [c]

/-- CLAIM from a peer (R133). -/
def takeClaim (sender number : Nat) (sealNo : Text) (s : State) : State :=
  if number = 0 || !validSeal sealNo then s
  else
    examineAndGrant { s with sealUnit := { s.sealUnit with
      pressList := enterClaim ⟨sender, number, sealNo⟩ s.sealUnit.pressList } }

/-- RELEASE from a peer: a matching claim leaves, and the grant test follows (R134). -/
def takeRelease (sender number : Nat) (s : State) : State :=
  if s.sealUnit.pressList.any fun c => c.station == sender && c.number == number then
    grantTest { s with sealUnit := { s.sealUnit with
      pressList := withoutStation sender s.sealUnit.pressList } }
  else s

/-- Claims of the given peers leave together, and one grant test follows if any left (R134). -/
def removeClaims (stations : List Nat) (s : State) : State :=
  if s.sealUnit.pressList.any fun c => stations.contains c.station then
    grantTest { s with sealUnit := { s.sealUnit with
      pressList := s.sealUnit.pressList.filter fun c => !stations.contains c.station } }
  else s

/-- A number enters the seal log (R143). -/
def enterLog (number : Text) (log : List Text) : List Text :=
  if log.any (· == number) then log
  else log.drop (log.length + 1 - Config.sealLogCapacity) ++ [number]

/-- SEALED from a peer (R144). -/
def takeSealed (sealNo : Text) (s : State) : State :=
  if validSeal sealNo then
    let s := { s with sealUnit := { s.sealUnit with log := enterLog sealNo s.sealUnit.log } }
    match s.sealUnit.current with
    | some c =>
      if c.sealNo = sealNo then
        match s.meter.batch with
        | .claiming => abandonReused c s
        | .pressing => raiseNotice .sealReused s
        | _ => s
      else s
    | none => s
  else s

/-- The own CLAIM has been sent: its claim enters the press list (R135). -/
def ownClaimSent (number : Nat) (s : State) : State :=
  match s.meter.batch, s.sealUnit.current with
  | .claiming, some c =>
    if c.number = number then
      examineAndGrant { s with sealUnit := { s.sealUnit with
        pressList := withoutStation s.line.own s.sealUnit.pressList ++ [⟨s.line.own, c.number, c.sealNo⟩]
        current := some { c with sent := true }
        owed := s.sealUnit.owed.filter fun o => o.number == number } }
    else s
  | _, _ => s

/-- The own RELEASE has been sent: the own claim it names leaves the list, and the owed release it carries ends
(R135, R138). -/
def ownReleaseSent (number : Nat) (s : State) : State :=
  { s with sealUnit := { s.sealUnit with
    pressList := s.sealUnit.pressList.filter fun c => !(c.station == s.line.own && c.number == number)
    owed := s.sealUnit.owed.filter fun o => o.number != number } }

/-- The press is released: PRESS-DRIVE inactive, stroke timer cleared (R140, R141). -/
def releasePress (s : State) : State :=
  { s with sealUnit := { s.sealUnit with pressDrive := false, strokeTimer := none } }

/-- A stroke completes (R140). -/
def completeStroke (c : OwnClaim) (s : State) : State :=
  let s := releasePress s
  let s := { s with
    meter := { s.meter with
      sealRecord := some ⟨c.sealNo, (s.meter.clock.map BatchClock.seconds).getD 0⟩
      held := none }
    sealUnit := { s.sealUnit with log := enterLog c.sealNo s.sealUnit.log } }
  let s := queueRelease c.number .done s
  let s := enqueue (.sealed c.sealNo) s
  { s with
    sealUnit := { s.sealUnit with current := none }
    meter := { s.meter with batch := .sealed } }

/-- A stroke fails at the stroke timeout (R141). -/
def failStroke (c : OwnClaim) (s : State) : State :=
  let s := raiseNotice .pressFault (releasePress s)
  let s := queueRelease c.number .fault s
  { s with
    sealUnit := { s.sealUnit with current := none }
    meter := { s.meter with batch := .sealFault } }

/-- A valid seal number is delivered (R130). -/
def deliverSeal (number : Text) (s : State) : State :=
  match s.meter.batch with
  | .claiming | .pressing => s
  | .awaitSeal => sealCheck number { s with meter := { s.meter with held := some number } }
  | .idle | .loaded | .running | .rejected | .sealed | .sealFault =>
    { s with meter := { s.meter with held := some number } }

/-- The line of SEAL-IN is emptied: buffer, bad mark and its timer (R129). -/
def emptySealLine (s : State) : State :=
  { s with sealRx := { s.sealRx with buffer := [], bad := false, timer := none } }

/-- The line ends with CR: a good line is delivered, any other is discarded with SEAL_READ_BAD (R129). -/
def endSealLine (s : State) : State :=
  let line := s.sealRx.buffer
  if 1 ≤ line.length && !s.sealRx.bad then deliverSeal line (emptySealLine s)
  else raiseNotice .sealReadBad (emptySealLine s)

/-- A character's effect on a line that it does not end (R129). -/
def appendSealChar (code : Byte) (framingError : Bool) (r : SealReceiver) : SealReceiver :=
  if framingError then { r with bad := true }
  else if code = 10 && r.buffer.isEmpty && !r.bad then r
  else if printable code then
    if r.buffer.length < Config.maxSeal then { r with buffer := r.buffer ++ [code] } else { r with bad := true }
  else { r with bad := true }

/-- The 50 ms timer runs while the line holds a character or is bad (R129). -/
def armSealTimer (now : Stamp) (r : SealReceiver) : SealReceiver :=
  { r with timer := if r.buffer.isEmpty && !r.bad then none else some (later now Config.sealInTimeout) }

/-- A character that the receiver takes (R129). -/
def takeSealChar (code : Byte) (framingError : Bool) (s : State) : State :=
  if code = 13 && !framingError then endSealLine s
  else { s with sealRx := armSealTimer s.fe.now (appendSealChar code framingError s.sealRx) }

/-! ### Meanings -/

/-- The code of a character: the eight data bits that follow the start bit, least significant first (R129). -/
def serialCode (levels : BitVec 9) : Byte := levels.extractLsb' 1 8

/-- The levels of a character on SEAL-IN up to its stop bit: start bit low, eight data bits, least significant first
(R129). -/
def serialLevels (code : Byte) : BitVec 9 := code ++ 0#1

/-- SEAL_IN_CHARACTER. Levels that do not begin with a low start bit are no character; a stop bit sampled low is a framing
error. `rested` says that SEAL-IN has been high for one character time since the last reset before this character's start
bit; a character in transmission across the end of a reset is not taken (R129, log 18). -/
def execSealInCharacter (levels : BitVec 9) (stop rested : Bool) (s : State) : Host.Outcome State Fault Refusal :=
  .next (whenRunning (fun s =>
    if !levels.getLsbD 0 && (s.sealRx.ready || rested) then
      takeSealChar (serialCode levels) (!stop) { s with sealRx := { s.sealRx with ready := true } }
    else s) s)

/-- SEAL_IN_TIMEOUT: a partial line is discarded with SEAL_READ_BAD (R129). -/
def execSealInTimeout (s : State) : Host.Outcome State Fault Refusal :=
  .next (whenDue (fun s => s.sealRx.timer) (fun s =>
    if s.sealRx.buffer.isEmpty && !s.sealRx.bad then s else raiseNotice .sealReadBad (emptySealLine s)) s)

/-- STROKE_DONE_RISE: completes the stroke in PRESSING, does nothing in any other batch state (R140). -/
def execStrokeDoneRise (s : State) : Host.Outcome State Fault Refusal :=
  .next (whenRunning (fun s =>
    match s.meter.batch, s.sealUnit.current with
    | .pressing, some c => completeStroke c s
    | _, _ => s) { s with pins := { s.pins with strokeDone := true } })

/-- STROKE_TIMER_EXPIRY: the stroke fails in PRESSING (R141). -/
def execStrokeTimerExpiry (s : State) : Host.Outcome State Fault Refusal :=
  .next (whenDue (fun s => s.sealUnit.strokeTimer) (fun s =>
    match s.meter.batch, s.sealUnit.current with
    | .pressing, some c => failStroke c s
    | _, _ => s) s)

end Sys2Proof.Machine
end

