-- ==== Sys2Proof/Machine/PointRuns.lean ====
section
/-! DEFINITION. Point runs of every kind: results, settlement, windows, completion, closing and opening
(R54 to R88). -/

namespace Sys2Proof.Machine

/-! ### The open run -/

def PointPart.kind : PointPart → PlanKind
  | .accuracy _ _ _ _ _ => .accuracy
  | .creep _ _ => .creep
  | .start _ _ => .start
  | .register _ => .register

/-- The kind of an open run (R54). -/
def Run.kind (x : Run) : PlanKind := x.entry.point.kind

/-- The stability count S of an ACCURACY run; 0 for the other kinds, which have none. -/
def Run.stability (x : Run) : Nat :=
  match x.entry.point with
  | .accuracy _ st _ _ _ => st
  | _ => 0

/-- A state that is done for completion (Table 4.2, R67). -/
def RunState.doneForCompletion : RunState → Bool
  | .settled | .decided => true
  | .skipping | .measuring | .counting | .accumulating => false

/-- The open run replaced. -/
def setRun (x : Run) (s : State) : State := { s with run := { s.run with run := some x } }

/-- PROGRESS for a run, carrying the batch state as it stands (R57, R63, R87). -/
def queueProgress (p r : Nat) (v : Progress) (s : State) : State := enqueue (.progress p r v s.meter.batch) s

/-- PROGRESS for the open run, whose progress value takes the value of the frame (R55). -/
def reportProgress (x : Run) (v : Progress) (s : State) : State :=
  queueProgress x.p x.r v (setRun { x with progress := v } s)

/-! ### Verdicts and records -/

/-- The errors of the VALID entries of a kept list (R70). -/
def validErrors (kept : List KeptEntry) : List Int :=
  kept.filterMap fun e => if e.status = .valid then e.error else none

/-- The errors of the latest S entries. -/
def latestErrors (x : Run) : List Int := (latest x.stability x.kept).filterMap KeptEntry.error

/-- PASS within the limits, both included, else FAIL; INFO without a limits part (R36, R70, R86). -/
def judgeValue (limits : Option Limits) (value : Int) : Verdict :=
  match limits with
  | some l => if l.lower ≤ value ∧ value ≤ l.upper then .pass else .fail
  | none => .info

/-- Verdict, cause, value and spread. -/
structure Judgment where
  verdict : Verdict
  cause   : Option Cause
  value   : Option Int
  spread  : Option Nat
  deriving DecidableEq, Repr

/-- The cause of an INCOMPLETE verdict for a close cause. A run closed by completion is never INCOMPLETE (R70, R80);
the name it would carry in a state that no run reaches is FORCED (log 19). -/
def CloseCause.incomplete : CloseCause → Cause
  | .scanner => .scanner
  | .time => .time
  | .forced | .completion => .forced

/-- Table 4.3. -/
def judgeAccuracy (c : CloseCause) (x : Run) : Judgment :=
  if x.void then ⟨.void, none, none, none⟩
  else if c = .scanner then ⟨.incomplete, some .scanner, mean (validErrors x.kept), none⟩
  else if x.state = .settled then
    let m := mean (latestErrors x)
    ⟨judgeValue x.entry.limits (m.getD 0), none, m, some (spread (latestErrors x))⟩
  else if x.stability ≤ x.completed then ⟨.unsettled, none, mean (validErrors x.kept), none⟩
  else ⟨.incomplete, some c.incomplete, mean (validErrors x.kept), none⟩

/-- The outcome of a window run at its close: the decided one, or at the window end with PRESENT high the one the expiry
decides, PASS for CREEP and FAIL for START (R78, R79). -/
def windowOutcome (c : CloseCause) (present : Bool) (x : Run) : Option Bool :=
  match x.decided with
  | some o => some o
  | none => if c = .time && present then some (x.kind == .creep) else none

/-- Table 5.1. -/
def judgeWindow (c : CloseCause) (present : Bool) (x : Run) : Judgment :=
  match windowOutcome c present x with
  | some o => ⟨if x.entry.limits.isSome then (if o then .pass else .fail) else .info, none, none, none⟩
  | none => ⟨.incomplete, some (if c = .scanner || c = .time then .scanner else .forced), none, none⟩

/-- Table 5.3. -/
def judgeRegister (c : CloseCause) (x : Run) : Judgment :=
  match x.before with
  | none => ⟨.incomplete, some .noReading, none, none⟩
  | some _ => if c = .scanner then ⟨.incomplete, some .scanner, none, none⟩ else ⟨.pending, none, none, none⟩

/-- The record that a close writes, from the PRESENT level and the reference count at the close (R71, R81, R85). -/
def closeRecord (c : CloseCause) (present : Bool) (count : Stamp) (x : Run) : PointRecord :=
  let mk (j : Judgment) (completed drops : Nat) (body : RecordBody) : PointRecord :=
    { p := x.p, r := x.r, kind := x.kind, verdict := j.verdict, cause := j.cause, value := j.value
      spread := j.spread, completed := completed, streamDrops := drops, stale := false, body := body }
  match x.kind with
  | .accuracy => mk (judgeAccuracy c x) x.completed x.streamDrops (.accuracy x.kept)
  | .creep | .start => mk (judgeWindow c present x) x.pulses 0 (.window x.pulses x.firstOffset)
  | .register =>
    mk (judgeRegister c x) 0 0 (.register x.before none (elapsed count x.openCount) x.entry.limits x.void none)

/-- POINT-RESULT of a record (R72, R87). -/
def resultOf (x : PointRecord) : TxMsg := .pointResult x.p x.r x.verdict x.value x.spread x.completed

/-- A point series whose record leaves its slot is superseded (R168). -/
def supersede (p : Nat) (c : Option Series) : Option Series :=
  c.map fun q => if q.subject = .point p then { q with superseded := true } else q

/-- A record written into its slot (R71, R92, R168). -/
def writeRecord (x : PointRecord) (s : State) : State :=
  { s with
    meter := { s.meter with records := slotSet s.meter.records x.p (some x) }
    cmd := { s.cmd with series := supersede x.p s.cmd.series } }

/-! ### Closing -/

/-- Every close, in the order of R69. -/
def closeRun (c : CloseCause) (s : State) : State :=
  match s.run.run with
  | none => s
  | some x =>
    let s := { s with run := { s.run with run := none, standing := .closed x.p x.r } }
    let s := if x.kind = .accuracy then disarm s else s
    let rec_ := closeRecord c s.pins.present s.trk.count x
    let s := writeRecord rec_ s
    let s := if c = .scanner then enqueue (.progress x.p x.r .withdrawn .running) s else s
    evaluate (enqueue (resultOf rec_) s)

/-- The completion test (R67, R114). -/
def completionTest (s : State) : State :=
  match s.run.run with
  | some x => if x.state.doneForCompletion && nonePending x.p x.r s then closeRun .completion s else s
  | none => s

/-- At END-BATCH an open run is discarded: PROGRESS WITHDRAWN, no record (R75). -/
def discardRun (s : State) : State :=
  match s.run.run with
  | none => s
  | some x =>
    let s := { s with run := { s.run with run := none } }
    let s := if x.kind = .accuracy then disarm s else s
    queueProgress x.p x.r .withdrawn s

/-! ### Results of an ACCURACY run -/

/-- A MEASUREMENT is declined at a queue of 6 frames or more and counted as a stream drop (R62, R162). -/
def offerMeasurement (x : Run) (e : KeptEntry) (s : State) : State :=
  if Config.measurementLimit ≤ s.line.queue.length then
    setRun { x with streamDrops := min Config.maxCount (x.streamDrops + 1) } s
  else enqueue (.measurement x.p x.r e.seq e.status e.error) (setRun x s)

/-- The settlement condition (R63). -/
def settles (x : Run) : Bool :=
  let last := latest x.stability x.kept
  decide (x.stability ≤ x.kept.length) && last.all (fun e => e.status == .valid) &&
    match x.entry.limits with
    | some l => decide (spread (latestErrors x) ≤ l.spread)
    | none => true

/-- The move of the state by the settlement condition (R63). -/
def settlementTest (s : State) : State :=
  match s.run.run with
  | none => s
  | some x =>
    match x.state, settles x with
    | .measuring, true => completionTest (reportProgress { x with state := .settled } .settled s)
    | .settled, false => reportProgress { x with state := .measuring } .measuring s
    | _, _ => s

/-- The sequence number after the given one (R60). -/
def nextSeq (n : Nat) : Nat := if n = Config.maxCount then 1 else n + 1

/-- The run with a result kept (R60, steps 1 to 4). -/
def keepResult (q : GateResult) (x : Run) : Run :=
  let seq := nextSeq x.lastSeq
  { x with
    lastSeq := seq
    kept := latest Config.keptCapacity (x.kept ++ [⟨seq, q.status, q.error⟩])
    completed := min Config.maxCount (x.completed + 1) }

/-- A result handed to the point runner (R59 to R61). -/
def takeResult (q : GateResult) (s : State) : State :=
  match s.run.run with
  | none => s
  | some x =>
    if x.kind = .accuracy then
      match x.state with
      | .skipping =>
        setRun { x with skip := x.skip - 1, state := if x.skip ≤ 1 then .measuring else .skipping } s
      | .measuring | .settled =>
        let x := keepResult q x
        let e : KeptEntry := ⟨x.lastSeq, q.status, q.error⟩
        let s := if s.cmd.setup.streaming then offerMeasurement x e s else setRun x s
        settlementTest s
      | .counting | .decided | .accumulating => s
    else s

/-! ### Gates of the error computer -/

/-- The result of the gate from A to B with the constants in force (R27, R30, R31). A station that gates has a meter
constant (R90); 1 stands for an absent one, which no gate meets (log 19). -/
def resultOfGate (n minRef : Nat) (overrate : Bool) (a b : Marker) (s : State) : GateResult :=
  gateResult n minRef s.cmd.setup.cRef (s.meter.constant.getD 1) s.xc.suspect overrate a b

/-- The evaluation of a gate: the result is handed over, and the end marker starts the next gate (R22). -/
def evaluateGate (s : State) : State :=
  match s.ec with
  | .gating n m ⟨a, _, o, some b⟩ =>
    takeResult (resultOfGate n m o a b s) { s with ec := .gating n m (freshGate b) }
  | _ => s

/-- A marker handed over, with the void of a full marker queue (R20, R21, R24). A gate whose end marker is formed on its
own rising stamp waits for the next tick. A marker while an end marker waits changes nothing: none can form
(R21, log 11). -/
def takeMarker (m : Marker) (void : Bool) (s : State) : State :=
  match s.ec with
  | .idle => s
  | .armed n r => { s with ec := .gating n r (freshGate m) }
  | .gating n r g =>
    if void then { s with ec := .gating n r (freshGate m) }
    else if g.endMarker.isSome then s
    else
      let spoiled := g.overrate || m.overrate
      if g.k + 1 < n then { s with ec := .gating n r { g with k := g.k + 1, overrate := spoiled } }
      else
        let s := { s with ec := .gating n r { g with k := g.k + 1, overrate := spoiled, endMarker := some m } }
        if m.t = s.fe.now then s else evaluateGate s

/-! ### Window runs -/

/-- The decision of a COUNTING run at a counted edge (R78). -/
def windowDecision (x : Run) : Option Bool :=
  match x.entry.point with
  | .creep _ allowed => if allowed < x.pulses then some false else none
  | .start _ required => if required ≤ x.pulses then some true else none
  | _ => none

/-- The absence timer after an edge has decided a run: one that the rise of PRESENT stopped on this tick stands again where
R82 is followed, and stays stopped where R11 is. Which of the two the station follows is a free value (log 35). -/
def graceAfterEdge (fe : FrontEnd) : Option AbsenceTimer :=
  match fe.stoppedGrace with
  | some a => if Config.graceAfterDecision then some a else fe.absenceTimer
  | none => fe.absenceTimer

/-- An edge decides a run; on the tick on which the head returned and its grace expires, the expiry may yet be delivered,
and closes the run by the scanner with the decided verdict (R11, R82, log 35). -/
def restoreGrace (s : State) : State :=
  { s with fe := { s.fe with absenceTimer := graceAfterEdge s.fe, stoppedGrace := none } }

/-- A qualified edge with rising stamp t at an open window run (R77, R78, R82). -/
def countPulse (t : Stamp) (s : State) : State :=
  match s.run.run with
  | none => s
  | some x =>
    if x.state = .counting && atOrAfter s.fe.now t x.openStamp then
      let x := { x with
        pulses := x.pulses + 1
        firstOffset := if x.firstOffset.isSome then x.firstOffset else some (elapsed t x.openStamp) }
      match windowDecision x with
      | some o =>
        completionTest (reportProgress { x with state := .decided, decided := some o } .settled (restoreGrace s))
      | none => setRun x s
    else s

/-! ### Opening -/

/-- The state a run opens in (R57). -/
def openingState : PointPart → RunState
  | .accuracy _ _ skip _ _ => if skip = 0 then .measuring else .skipping
  | .creep _ _ | .start _ _ => .counting
  | .register _ => .accumulating

/-- The time of a run in seconds: the point time limit or the window (R57, R76). -/
def PointPart.seconds : PointPart → Nat
  | .accuracy _ _ _ _ l => l
  | .creep w _ => w
  | .start w _ => w
  | .register l => l

/-- The settle skip of an entry (R57). -/
def PointPart.skip : PointPart → Nat
  | .accuracy _ _ k _ _ => k
  | _ => 0

/-- The run that opens for an entry (R57, R76, R84). -/
def openedRun (p r : Nat) (e : PlanEntry) (s : State) : Run where
  p := p
  r := r
  entry := e
  state := openingState e.point
  skip := e.point.skip
  kept := []
  lastSeq := 0
  completed := 0
  streamDrops := 0
  void := s.xc.suspect
  openStamp := s.fe.now
  pointTimer := later s.fe.now (e.point.seconds * Config.second)
  progress := .opened
  pulses := 0
  firstOffset := none
  decided := none
  before := if e.point.kind = .register then slotGet s.run.slots p else none
  openCount := s.trk.count

/-- A REGISTER run empties its BEFORE slot (R84). -/
def bindSlot (p : Nat) (e : PlanEntry) (v : Slots Nat) : Slots Nat :=
  if e.point.kind = .register then slotSet v p none else v

/-- The error computer is armed for an ACCURACY entry (R18, R57). -/
def armFor (e : PlanEntry) (s : State) : State :=
  match e.point with
  | .accuracy n _ _ m _ => arm n m s
  | _ => s

/-- The opening of run (p, r), steps 1 to 5 of R57. -/
def beginRun (p r : Nat) (e : PlanEntry) (s : State) : State :=
  armFor e { s with
    run := { s.run with run := some (openedRun p r e s), slots := bindSlot p e s.run.slots, standing := .opened p r }
    meter := { s.meter with batch := .running, verdict := none } }

/-- The frames of an opening: OPEN, and for a REGISTER run SETTLED after it (R57, R84). -/
def announceRun (e : PlanEntry) (s : State) : State :=
  match s.run.run with
  | none => s
  | some x =>
    let s := reportProgress x .opened s
    if e.point.kind = .register then reportProgress x .settled s else s

/-- The opening of run (p, r) (R57); with PRESENT low it is closed at once by the scanner (R58). -/
def openRun (p r : Nat) (e : PlanEntry) (s : State) : State :=
  if s.pins.present then announceRun e (beginRun p r e s) else closeRun .scanner (beginRun p r e s)

/-- WITHDRAWN in answer to a LOAD-SETTLED (R56, R87). -/
def declineRun (p r : Nat) (s : State) : State :=
  queueProgress p r .withdrawn { s with run := { s.run with standing := .withdrawn p r } }

/-- The third step of LOAD-SETTLED(p, r): open or decline (R56). -/
def openOrDecline (p r : Nat) (s : State) : State :=
  match s.meter.batch with
  | .idle => s
  | .claiming | .pressing | .sealed | .sealFault => if p ≤ 31 && r != 0 then declineRun p r s else s
  | .loaded | .running | .rejected | .awaitSeal =>
    if p ≤ 31 && r != 0 then
      match activeEntry s p with
      | some e => openRun p r e s
      | none => declineRun p r s
    else s

/-! ### Readings -/

/-- The restated standing after a resolution of run (p, r) (R87). -/
def restateStanding (p r : Nat) (s : State) : State :=
  match s.run.standing with
  | .none => s
  | .opened _ _ =>
    match s.run.run with
    | some x => queueProgress x.p x.r x.progress s
    | none => s
  | .closed p' r' =>
    if p' = p ∧ r' = r then s
    else
      match slotGet s.meter.records p' with
      | some x => enqueue (resultOf x) s
      | none => s
  | .withdrawn p' r' => queueProgress p' r' .withdrawn s

/-- The verdict and value of a resolution (Table 5.5). -/
def resolution (limits : Option Limits) (void : Bool) (q : GateResult) : Verdict × Option Int :=
  if void || q.status = .noReference then (.void, none)
  else if q.status = .clamped then (if limits.isSome then .fail else .info, q.error)
  else (judgeValue limits (q.error.getD 0), q.error)

/-- The record as an AFTER reading resolves it, or the code that refuses the reading (R86). -/
def resolve (cRef after : Nat) (x : PointRecord) : PointRecord ⊕ ReplyCode :=
  match x.verdict, x.body with
  | .pending, .register (some before) _ mReg limits void _ =>
    if after < before then .inr .badValue
    else
      let q := registerResult cRef before after mReg
      let j := resolution limits void q
      .inl { x with
        verdict := j.1
        value := j.2
        body := .register (some before) (some after) mReg limits void (some q.status) }
  | _, _ => .inr .wrongState

end Sys2Proof.Machine
end

