-- ==== Sys2Proof/Machine/PulseInputs.lean ====
section
/-! DEFINITION. The pulse inputs: REF, MUT and PRESENT edges, the timers of the front end, markers (R1 to R16), the
delayed gate evaluation (R21), and the point timer (R68). -/

namespace Sys2Proof.Machine

/-- Ticks of a setting in steps of 10 µs (Table 1.1). -/
def stepsToTicks (n : Nat) : Nat := n * 1000

/-! ### REF -/

/-- Whether a reference edge now is counted (R3). -/
def refCounted (s : State) : Bool :=
  match s.trk.last with
  | some l => Config.minRefGap ≤ elapsed s.fe.now l
  | none => true

/-- A counted reference edge taken into a snapshot (R12). -/
def fillSnapshot (e t : Stamp) (x : Snapshot) : Snapshot :=
  if t = e then { x with c := x.c + 1, rPrev := some e }
  else if x.rNext.isSome then x
  else { x with rNext := some e }

/-- A reference edge is counted (R3, R12, R14). -/
def countRef (s : State) : State :=
  let now := s.fe.now
  { s with
    trk := { s.trk with count := s.trk.count + 1, last := some now, queue := fillQueue now s.trk.queue }
    fe := { s.fe with edge := s.fe.edge.map fun x => { x with snap := fillSnapshot now x.t x.snap } }
    ec := fillErrorComputer now s.ec }

/-- A rising edge on REF (R3). -/
def refEdge (s : State) : State :=
  if refCounted s then countRef s
  else raiseNotice .inputOverrate { s with trk := { s.trk with overrate := true } }

/-! ### MUT -/

/-- The interval timer set at a qualification: expired at once when its end is not later than now (R6). -/
def intervalExpiry (now : Stamp) (x : PendingEdge) : Option Stamp :=
  if x.interval ≤ elapsed now x.t then none else some (later x.t x.interval)

/-- The interval test of a rising edge now (R6). -/
def intervalPassed (s : State) : Bool :=
  match s.fe.intervalTimer, s.fe.lastQualified with
  | some e, some q => elapsed e q ≤ elapsed s.fe.now q
  | _, _ => true

/-- The marker of a qualified edge (R13). -/
def markerOf (x : PendingEdge) (overrate : Bool) : Marker := ⟨x.t, x.snap.c, x.snap.rPrev, x.snap.rNext, overrate⟩

/-- A marker's formation: the overrate flag passes into it, and an incomplete marker enters the marker queue, where a
full queue drops its oldest and voids the gate in progress (R13, R15). -/
def formMarker (x : PendingEdge) (s : State) : State :=
  let m := markerOf x s.trk.overrate
  let full := decide (Config.markerCapacity ≤ s.trk.queue.length)
  let q := if m.rNext.isSome then s.trk.queue
    else (if full then s.trk.queue.drop 1 else s.trk.queue) ++ [m]
  takeMarker m (m.rNext.isNone && full) { s with trk := { s.trk with overrate := false, queue := q } }

/-- A pending edge qualifies (R9): the front end's stamps, the marker, and the point runner's window count. -/
def qualify (x : PendingEdge) (s : State) : State :=
  countPulse x.t (formMarker x { s with fe := { s.fe with
    edge := none
    lastQualified := some x.t
    intervalTimer := intervalExpiry s.fe.now x } })

/-- The pending edge of a rising edge now, with the settings in force and its snapshot (R5, R8, R12). -/
def newEdge (s : State) : PendingEdge where
  t := s.fe.now
  width := stepsToTicks s.cmd.setup.mutWidth
  interval := stepsToTicks s.cmd.setup.mutInterval
  snap := ⟨s.trk.count, s.trk.last, none⟩

/-- A rising edge on MUT (R5). -/
def mutRise (s : State) : State :=
  if s.pins.present && intervalPassed s then
    if (newEdge s).width = 0 then qualify (newEdge s) s
    else { s with fe := { s.fe with edge := some (newEdge s) } }
  else s

/-- A fall of MUT (R7). -/
def mutFall (s : State) : State :=
  match s.fe.edge with
  | some x =>
    if elapsed s.fe.now x.t < x.width then { s with fe := { s.fe with edge := none } } else qualify x s
  | none => s

/-- The end of the width timer with MUT still high (R7). -/
def widthExpiry (s : State) : State :=
  match s.fe.edge with
  | some x => if s.pins.mutHigh then qualify x s else s
  | none => s

/-! ### PRESENT -/

/-- The grace expiry delivered to the point runner, after which the timer stops (R11, R66). -/
def graceExpires (s : State) : State :=
  closeRun .scanner { s with fe := { s.fe with absenceTimer := none } }

/-- The absence timer started now for a grace in seconds; a grace of 0 has expired already (R11). -/
def startAbsence (now : Stamp) (grace : Nat) : Option AbsenceTimer :=
  if grace = 0 then none else some ⟨now, later now (grace * Config.second)⟩

/-- PRESENT goes low (R10, R11, R23). -/
def presentFalls (s : State) : State :=
  let s := { s with fe := { s.fe with
    edge := none
    lastQualified := none
    intervalTimer := none
    absent := true
    absenceTimer := startAbsence s.fe.now s.cmd.setup.scannerGrace
    stoppedGrace := none } }
  let s := scannerLoss (raiseNotice .scannerAbsent s)
  if s.cmd.setup.scannerGrace = 0 then graceExpires s else s

/-- The absence timer whose expiry falls on this very tick and has not been taken (R11, R82). -/
def graceDueNow (fe : FrontEnd) : Option AbsenceTimer := fe.absenceTimer.filter fun a => a.expiry == fe.now

/-- The expiry of a stopped absence timer is spent (R11, R82). -/
def spendGrace (s : State) : State := { s with fe := { s.fe with stoppedGrace := none } }

/-- PRESENT goes high (R10, R11). The absence timer stops, so that an expiry due on this very tick and not yet taken is
not delivered; once an edge of this tick decides the open run, R82 has it delivered, which is left open (`restoreGrace`,
log 35). -/
def presentRises (s : State) : State :=
  clearNotice .scannerAbsent { s with fe := { s.fe with
    absent := false
    absenceTimer := none
    stoppedGrace := graceDueNow s.fe } }

/-! ### Meanings -/

/-- REF_RISING_EDGE (R3). -/
def execRefRisingEdge (s : State) : Host.Outcome State Fault Refusal := .next (whenRunning refEdge s)

/-- MUT_RISING_EDGE (R5). -/
def execMutRisingEdge (s : State) : Host.Outcome State Fault Refusal :=
  .next (whenRunning mutRise { s with pins := { s.pins with mutHigh := true } })

/-- MUT_FALLING_EDGE (R7). -/
def execMutFallingEdge (s : State) : Host.Outcome State Fault Refusal :=
  .next (whenRunning mutFall { s with pins := { s.pins with mutHigh := false } })

/-- WIDTH_TIMER_EXPIRY (R7). -/
def execWidthTimerExpiry (s : State) : Host.Outcome State Fault Refusal :=
  .next (whenDue (fun s => s.fe.edge.map fun x => later x.t x.width) widthExpiry s)

/-- INTERVAL_TIMER_EXPIRY (R6). -/
def execIntervalTimerExpiry (s : State) : Host.Outcome State Fault Refusal :=
  .next (whenDue (fun s => s.fe.intervalTimer) (fun s => { s with fe := { s.fe with intervalTimer := none } }) s)

/-- DELAYED_GATE_EVALUATION (R21): the gate whose end marker waits is evaluated. -/
def execDelayedGateEvaluation (s : State) : Host.Outcome State Fault Refusal :=
  .next (whenDue (fun s => evaluationDue s.ec) evaluateGate s)

/-- PRESENT_FALL (R10): a change of level; in a reset the level alone changes (R171). -/
def execPresentFall (s : State) : Host.Outcome State Fault Refusal :=
  .next (if s.pins.present then
    whenRunning presentFalls { s with pins := { s.pins with present := false } } else s)

/-- PRESENT_RISE (R10). -/
def execPresentRise (s : State) : Host.Outcome State Fault Refusal :=
  .next (if s.pins.present then s else
    whenRunning presentRises { s with pins := { s.pins with present := true } })

/-- GRACE_EXPIRY (R11, R66). One taken between the rise of PRESENT and a deciding edge of the tick is not delivered, and
leaves none for the edge (R11, R82, log 35). -/
def execGraceExpiry (s : State) : Host.Outcome State Fault Refusal :=
  .next (whenDue (fun s => s.fe.absenceTimer.map AbsenceTimer.expiry) graceExpires (whenRunning spendGrace s))

/-- POINT_TIMER_EXPIRY (R68, R79): the open run closes by time. -/
def execPointTimerExpiry (s : State) : Host.Outcome State Fault Refusal :=
  .next (whenDue (fun s => s.run.run.map Run.pointTimer) (closeRun .time) s)

end Sys2Proof.Machine
end

