-- ==== Sys2Proof/Machine/TestPlan.lean ====
section
/-! DEFINITION. The test plan: change marks, copies into the active plan, the plan commands (R36 to R53), and the load
announcements (R49 to R51). -/

namespace Sys2Proof.Machine

/-! ### Copies -/

/-- Whether copying an index changes the active entry (R52). -/
def copyChanges (plan : PlanStore) (p : Nat) : Bool := slotGet plan.staged p != slotGet plan.active p

/-- Whether copying an index marks a record stale (R52). -/
def copyStales (s : State) (p : Nat) : Bool :=
  copyChanges s.plan p && (slotGet s.meter.records p).isSome

/-- A record marked stale. -/
def markStale (records : Slots PointRecord) (p : Nat) : Slots PointRecord :=
  slotSet records p ((slotGet records p).map fun x => { x with stale := true })

/-- One staged entry copied into the active plan, its mark CLEAN (R52). -/
def copyEntry (plan : PlanStore) (p : Nat) : PlanStore :=
  { plan with
    active := slotSet plan.active p (slotGet plan.staged p)
    marks := markSet plan.marks p .clean }

/-- Copies made together at one apply opportunity; the meter record is evaluated once if a record was marked stale
(R52). -/
def copyEntries (ps : List Nat) (s : State) : State :=
  let stale := ps.filter (copyStales s)
  let s := { s with
    plan := ps.foldl copyEntry s.plan
    meter := { s.meter with records := stale.foldl markStale s.meter.records } }
  if stale.isEmpty then s else evaluate s

/-- The indexes whose mark satisfies a test, in index order. -/
def markedIndexes (plan : PlanStore) (f : Mark → Bool) : List Nat :=
  (List.range 32).filter fun p => f (markGet plan.marks p)

/-- Entries become ready: copied at once with the load-off flag set, else WAITING after a cut-off and DUE without
(R45, R47, R48). -/
def makeReady (ps : List Nat) (s : State) : State :=
  if s.plan.loadOff then copyEntries ps s
  else
    let m := if s.plan.cutOff then Mark.waiting else Mark.due
    { s with plan := { s.plan with marks := ps.foldl (fun v p => markSet v p m) s.plan.marks } }

/-- The change marks of changed staged entries (R45). -/
def markChanged (ps : List Nat) (s : State) : State :=
  if s.plan.hold then
    { s with plan := { s.plan with marks := ps.foldl (fun v p => markSet v p .held) s.plan.marks } }
  else makeReady ps s

/-- A staged entry replaced; an entry that does not change keeps its mark (R42, R43). -/
def stageEntry (p : Nat) (e : PlanEntry) (s : State) : State :=
  if slotGet s.plan.staged p = some e then s
  else markChanged [p] { s with plan := { s.plan with staged := slotSet s.plan.staged p (some e) } }

/-! ### Plan commands -/

/-- DONE_CLAMPED when a field was brought into range (R41). -/
def doneCode (clamped : Bool) : ReplyCode := if clamped then .doneClamped else .done

/-- PLAN-POINT (R41, R42). -/
def planPointCommand (bs : List Byte) (s : State) : State × ReplyCode :=
  match bs with
  | [] => (s, .badValue)
  | i :: fields =>
    if 31 < i.toNat then (s, .noSuchPoint)
    else
      match readPointPart fields with
      | none => (s, .badValue)
      | some part => (stageEntry i.toNat ⟨clampPoint part, none⟩ s, doneCode (clampPoint part != part))

/-- PLAN-LIMITS (R41, R43). -/
def planLimitsCommand (bs : List Byte) (s : State) : State × ReplyCode :=
  match bs with
  | [] => (s, .badValue)
  | i :: fields =>
    if 31 < i.toNat then (s, .noSuchPoint)
    else
      match readLimits fields with
      | none => (s, .badValue)
      | some l =>
        match slotGet s.plan.staged i.toNat with
        | none => (s, .noSuchPoint)
        | some e =>
          if (clampLimits l).upper < (clampLimits l).lower then (s, .badValue)
          else (stageEntry i.toNat { e with limits := some (clampLimits l) } s, doneCode (clampLimits l != l))

/-- PLAN-CLEAR (R41, R44). -/
def planClearCommand (bs : List Byte) (s : State) : State × ReplyCode :=
  if (bs.take 2).any fun i => decide (31 < i.toNat) then (s, .noSuchPoint)
  else
    match bs with
    | [first, last] =>
      if last.toNat < first.toNat then (s, .badValue)
      else
        let changed := (List.range 32).filter fun p =>
          decide (first.toNat ≤ p ∧ p ≤ last.toNat) && (slotGet s.plan.staged p).isSome
        (if changed.isEmpty then s
          else markChanged changed { s with plan := { s.plan with
            staged := changed.foldl (fun v p => slotSet v p none) s.plan.staged } }, .done)
    | _ => (s, .badValue)

/-- PLAN-HOLD (R46). -/
def planHoldCommand (bs : List Byte) (s : State) : State × ReplyCode :=
  if bs.isEmpty then ({ s with plan := { s.plan with hold := true } }, .done) else (s, .badValue)

/-- PLAN-RELEASE (R47). -/
def planReleaseCommand (bs : List Byte) (s : State) : State × ReplyCode :=
  if bs.isEmpty then
    if s.plan.hold then
      let held := markedIndexes s.plan (· == .held)
      (if held.isEmpty then { s with plan := { s.plan with hold := false } }
        else makeReady held { s with plan := { s.plan with hold := false } }, .done)
    else (s, .done)
  else (s, .badValue)

/-! ### Load announcements -/

/-- LOAD-SETTLED(p, r) (R50): forced close, copy of the DUE entries, opening test. -/
def loadSettled (p r : Nat) (s : State) : State :=
  let s := closeRun .forced s
  let s := copyEntries (markedIndexes s.plan (· == .due)) s
  openOrDecline p r { s with plan := { s.plan with cutOff := false, loadOff := false } }

/-- LOAD-CHANGING (R49, R68). -/
def loadChanging (s : State) : State :=
  let s := closeRun .forced s
  { s with plan := { s.plan with
    marks := s.plan.marks.map fun m => if m = .waiting then .due else m
    cutOff := true
    loadOff := false } }

/-- LOAD-OFF (R51, R68). -/
def loadOff (s : State) : State :=
  let s := closeRun .forced s
  let s := copyEntries (markedIndexes s.plan (fun m => m == .due || m == .waiting)) s
  { s with plan := { s.plan with cutOff := false, loadOff := true } }

end Sys2Proof.Machine
end

