-- ==== Sys2Proof/Machine/Console.lean ====
section
/-! DEFINITION. Console commands: addressing, replies, setup, meter, readings, queries, batch end, notices and restart
(R83, R86 to R88, R90, R98, R145, R163 to R171). -/

namespace Sys2Proof.Machine

/-! ### Addressing and replies -/

/-- How a command is addressed (R163). -/
inductive Addressing where
  | individual | group | other
  deriving DecidableEq, Repr

/-- Own number, POSITIONS or EVERYONE, or any other number (R163). -/
def addressing (dest : Nat) (s : State) : Addressing :=
  if dest = s.line.own then .individual else if dest = 62 ∨ dest = 63 then .group else .other

/-- The REPLY of an individual command (R163). -/
def reply (k : FrameKind) (code : ReplyCode) (s : State) : State := enqueue (.reply k code) s

/-- A group command executed with a field clamped raises PLAN_CLAMPED; no REPLY is queued for it (R163). -/
def groupAnswer (code : ReplyCode) (s : State) : State :=
  if code = .doneClamped then raiseNotice .planClamped s else s

/-- A command taken by its addressing: executed or refused, then answered (R163). -/
def command (k : FrameKind) (dest : Nat) (f : State → State × ReplyCode) (s : State) : State :=
  match addressing dest s with
  | .individual => reply k (f s).2 (f s).1
  | .group => groupAnswer (f s).2 (f s).1
  | .other => s

/-! ### Setup and meter -/

/-- SETUP (R164, R165). -/
def setupCommand (bs : List Byte) (s : State) : State × ReplyCode :=
  match readSetup bs with
  | none => (s, .badValue)
  | some v =>
    if s.meter.batch = .idle then
      ({ s with cmd := { s.cmd with setup := clampSetup v } }, doneCode (clampSetup v != v))
    else (s, .wrongState)

/-- A meter identity is 1 to 12 printable characters (R90). -/
def validIdentity (t : Text) : Bool := 1 ≤ t.length && t.length ≤ 12 && t.all printable

/-- The batch clock started now at 0 (R91). -/
def startClock (now : Stamp) : BatchClock := ⟨0, later now Config.second⟩

/-- SET-METER (R90): in LOADED the pending BEFORE slots are emptied too. -/
def setMeterCommand (bs : List Byte) (s : State) : State × ReplyCode :=
  match readSetMeter bs with
  | none => (s, .badValue)
  | some (constant, identity) =>
    if !validIdentity identity then (s, .badValue)
    else if s.meter.batch = .idle || s.meter.batch = .loaded then
      let c := clampNat 1 (10 ^ 9) constant
      ({ s with
          meter := { s.meter with
            identity := some identity
            constant := some c
            batch := .loaded
            clock := some (startClock s.fe.now) }
          run := { s.run with
            slots := if s.meter.batch = .loaded then Vector.replicate 32 none else s.run.slots } },
        doneCode (c != constant))
    else (s, .wrongState)

/-! ### Readings -/

/-- A BEFORE reading past the checks of R83: refused while a run of its index is open, else stored. -/
def takeBefore (p value : Nat) (s : State) : State × ReplyCode :=
  if s.run.run.any fun x => x.p == p then (s, .wrongState)
  else ({ s with run := { s.run with slots := slotSet s.run.slots p (some value) } }, .done)

/-- An AFTER reading past the checks of R83: it resolves a PENDING record in place, and POINT-RESULT, the restated
standing and the evaluation follow (R86, R87). -/
def takeAfter (p value : Nat) (s : State) : State × ReplyCode :=
  match slotGet s.meter.records p with
  | none => (s, .noSuchPoint)
  | some x =>
    match resolve s.cmd.setup.cRef value x with
    | .inr code => (s, code)
    | .inl y =>
      let s := { s with meter := { s.meter with records := slotSet s.meter.records p (some y) } }
      let s := enqueue (resultOf y) s
      (evaluate (restateStanding y.p y.r s), .done)

/-- READING (R83, R86). -/
def readingCommand (bs : List Byte) (s : State) : State × ReplyCode :=
  match bs with
  | [] => (s, .badValue)
  | i :: fields =>
    if 31 < i.toNat then (s, .noSuchPoint)
    else
      match readReading fields with
      | none => (s, .badValue)
      | some (after, value) =>
        if s.meter.batch = .idle then (s, .wrongState)
        else if after then takeAfter i.toNat value s else takeBefore i.toNat value s

/-! ### Queries -/

/-- Total number of parts of a subject's series; none for a point without a record (R166). -/
def seriesTotal (q : Subject) (s : State) : Option Nat :=
  match q with
  | .meter => some meterTotal
  | .point p => (slotGet s.meter.records p).map recordTotal

/-- Content of a part, read as its record stands (R167). -/
def seriesPart (q : Subject) (part : Nat) (s : State) : List Byte :=
  match q with
  | .meter => meterPart s.meter part
  | .point p => ((slotGet s.meter.records p).map (recordPart · part)).getD []

/-- A series in progress ends for a new QUERY: a queued part leaves the queue without a notice, and nothing follows a
part under attempt (R168). -/
def endSeries (s : State) : State :=
  { s with
    cmd := { s.cmd with series := none }
    line := { s.line with queue := s.line.queue.filterMap fun f =>
      match f.msg with
      | .detail part total content true =>
        if f.sending then some { f with msg := .detail part total content false } else none
      | _ => some f } }

/-- A series begins: part 0 is queued at once, and no REPLY (R166). -/
def beginSeries (q : Subject) (total : Nat) (s : State) : State :=
  enqueue (.detail 0 total (seriesPart q 0 s) true)
    { s with cmd := { s.cmd with series := some ⟨q, 1, total, false⟩ } }

/-- A live part has been sent: the next part, a SUPERSEDED part, or the end of the series (R167). -/
def partSent (s : State) : State :=
  match s.cmd.series with
  | none => s
  | some q =>
    if q.next < q.total then
      if q.superseded then
        enqueue (.detail q.next q.total [] false) { s with cmd := { s.cmd with series := none } }
      else
        enqueue (.detail q.next q.total (seriesPart q.subject q.next s) true)
          { s with cmd := { s.cmd with series := some { q with next := q.next + 1 } } }
    else { s with cmd := { s.cmd with series := none } }

/-- The subject a QUERY names: 255 for the meter (R151). -/
def subjectOf (b : Byte) : Subject := if b = 255 then .meter else .point b.toNat

/-- QUERY, taken only when individual (R163, R166). -/
def takeQuery (dest : Nat) (bs : List Byte) (s : State) : State :=
  match addressing dest s with
  | .individual =>
    match bs with
    | [b] =>
      let s := endSeries s
      match seriesTotal (subjectOf b) s with
      | some total => beginSeries (subjectOf b) total s
      | none => reply .query .noSuchPoint s
    | _ => reply .query .badValue s
  | .group | .other => s

/-! ### Batch end, seal retry, notices, restart -/

/-- A point series is superseded when END-BATCH clears the slots (R168). -/
def supersedeAll (c : Option Series) : Option Series :=
  c.map fun q => match q.subject with
    | .point _ => { q with superseded := true }
    | .meter => q

/-- The batch is ended (R98). -/
def clearBatch (s : State) : State :=
  { s with
    meter := MeterRecord.reset
    run := { s.run with slots := Vector.replicate 32 none, standing := .none }
    cmd := { s.cmd with series := supersedeAll s.cmd.series } }

/-- END-BATCH (R98). -/
def endBatchCommand (bs : List Byte) (s : State) : State × ReplyCode :=
  if !bs.isEmpty then (s, .badValue)
  else if s.meter.batch = .pressing then (s, .busy)
  else (clearBatch (discardRun (withdrawClaim s)), .done)

/-- RETRY-SEAL (R145). -/
def retrySealCommand (bs : List Byte) (s : State) : State × ReplyCode :=
  if !bs.isEmpty then (s, .badValue)
  else if s.meter.batch = .sealFault then (returnToAwaitSeal s, .done)
  else (s, .wrongState)

/-- CLEAR-NOTICES (R170). -/
def clearNoticesCommand (bs : List Byte) (s : State) : State × ReplyCode :=
  match readNoticeSet bs with
  | some set => ({ s with cmd := { s.cmd with notices := clearedNotices s set } }, .done)
  | none => (s, .badValue)

/-- NOTICE-MASK (R170). -/
def noticeMaskCommand (bs : List Byte) (s : State) : State × ReplyCode :=
  match readNoticeSet bs with
  | some set => ({ s with cmd := { s.cmd with mask := set } }, .done)
  | none => (s, .badValue)

/-- A reset takes hold: PRESS-DRIVE inactive at once, nothing driven on the bench line (R131, R171). -/
def holdReset (p : Phase) (s : State) : State :=
  { s with
    phase := p
    sealUnit := { s.sealUnit with pressDrive := false }
    line := { s.line with drive := .nothing } }

/-- RESTART, executed only when individual: a command reset begins (R171). -/
def takeRestart (dest : Nat) (bs : List Byte) (s : State) : State :=
  match addressing dest s with
  | .individual => if bs.isEmpty then holdReset .command s else reply .restart .badValue s
  | .group | .other => s

end Sys2Proof.Machine
end

