-- ==== Sys2Proof/Machine/BenchLine.lean ====
section
/-! DEFINITION. The bench line: attempts, line states, the receive filter and delivery by kind
(R105 to R118, R152 to R161). -/

namespace Sys2Proof.Machine

/-! ### Line states -/

/-- Frames that stay queued when the line leaves ON-LINE (R157). -/
def keptOffLine (m : TxMsg) : Bool :=
  match m.kind with
  | .pointResult | .sealed => true
  | _ => false

/-- A live DETAIL part is among the frames (R167). -/
def holdsLivePart (q : List TxFrame) : Bool :=
  q.any fun f => match f.msg with | .detail _ _ _ live => live | _ => false

/-- The emptying of the transmit queue as the line leaves ON-LINE, its controller in line state `st`: POINT-RESULT and
SEALED frames stay in order, TX_DROPPED is raised once if a frame was removed, and the command handler ends a series
whose part was removed (R157, R159, R167). -/
def emptyQueue (st : LineState) (s : State) : State :=
  let removed := s.line.queue.filter fun f => !keptOffLine f.msg
  let beside := s.line.waitingStatus || s.line.waitingNotice.isSome
  let s := { s with
    line := { s.line with
      state := st
      queue := (s.line.queue.filter fun f => keptOffLine f.msg).map fun f => { f with sending := false }
      waitingStatus := false
      waitingNotice := none
      heartbeat := none }
    cmd := { s.cmd with series := if holdsLivePart removed then none else s.cmd.series } }
  if removed.isEmpty && !beside then s else raiseTxDropped s

/-- Entry into LINE-OFF (R157, R137). -/
def enterLineOff (s : State) : State :=
  abandonOffLine (emptyQueue .lineOff { s with line := { s.line with
    faultTally := Config.lineOffTally
    goodFrames := 0 } })

/-- Entry into MUTED on a frame with the own number; in MUTED nothing changes (R117, R159). -/
def enterMuted (s : State) : State :=
  if s.line.state = .muted then s
  else
    let s := emptyQueue .muted { s with line := { s.line with listenTimer := none } }
    abandonOffLine (raiseNotice .duplicateNumber s)

/-- The return to ON-LINE (R158): JOIN RETURN at the head, attempt counts 0, heartbeat, and the blocks told. -/
def returnOnLine (s : State) : State :=
  let s := queueJoin .lineReturn { s with line := { s.line with
    state := .onLine
    faultTally := 0
    goodFrames := 0
    queue := s.line.queue.map fun f => { f with attempts := 0 } } }
  requeueOwed (unprime (startHeartbeat s))

/-- A good frame in LINE-OFF counts toward the return (R158). In LINE-OFF the station sends nothing, so that every frame it
accepts is another node's. -/
def countGood (s : State) : State :=
  if s.line.state = .lineOff then
    if Config.goodFramesToReturn ≤ s.line.goodFrames + 1 then returnOnLine s
    else { s with line := { s.line with goodFrames := s.line.goodFrames + 1 } }
  else s

/-! ### Delivery by kind -/

/-- A JOIN of a peer: its claim leaves after a reset, STATUS is queued on line, and the completion test follows
(R106, R116, R134, log 15). -/
def takeJoin (sender : Nat) (cause : JoinCause) (b : BatchState) (s : State) : State :=
  let s := rosterTakes sender (fun e => { e with batch := some b, progress := none }) s
  let s := if s.line.state = .onLine then enqueue (.status none) s else s
  let s := if cause = .lineReturn then s else removeClaims [sender] s
  completionTest s

/-- A STATUS of a peer (R107); an open run out of range leaves the entry's state as it stood (R105). -/
def takeStatus (sender : Nat) (b : BatchState) (x : Option (Nat × Nat × Progress)) (s : State) : State :=
  match x with
  | none => completionTest (rosterTakes sender (fun e => { e with batch := some b }) s)
  | some (p, r, v) =>
    if rangeOk p r then
      completionTest (rosterTakes sender
        (fun e => { e with batch := some b, progress := some ⟨p, r, v.peer⟩ }) s)
    else rosterMarks sender s

/-- A PROGRESS of a peer (R108). -/
def takeProgress (sender p r : Nat) (v : Progress) (b : BatchState) (s : State) : State :=
  if rangeOk p r then
    completionTest (rosterTakes sender (fun e => { e with batch := some b, progress := some ⟨p, r, v.peer⟩ }) s)
  else rosterMarks sender s

/-- A POINT-RESULT of a peer (R109). -/
def takePointResult (sender p r : Nat) (s : State) : State :=
  if rangeOk p r then
    completionTest (rosterTakes sender (fun e => { e with progress := some ⟨p, r, .closed⟩ }) s)
  else rosterMarks sender s

/-- Delivery of a frame that passed the filter: the roster first, then the block that owns the kind (R155). -/
def deliver (k : FrameKind) (h : Hdr) (bs : List Byte) (s : State) : State :=
  let sender := h.sender.toNat
  let dest := h.dest.toNat
  match k with
  | .loadSettled =>
    match readLoadSettled bs with
    | some (p, r) => loadSettled p r s
    | none => s
  | .loadChanging => loadChanging s
  | .loadOff => loadOff s
  | .sync =>
    match readSync bs with
    | some n => takeSync n s
    | none => s
  | .setup => command k dest (setupCommand bs) s
  | .setMeter => command k dest (setMeterCommand bs) s
  | .planPoint => command k dest (planPointCommand bs) s
  | .planLimits => command k dest (planLimitsCommand bs) s
  | .planClear => command k dest (planClearCommand bs) s
  | .planHold => command k dest (planHoldCommand bs) s
  | .planRelease => command k dest (planReleaseCommand bs) s
  | .reading => command k dest (readingCommand bs) s
  | .query => takeQuery dest bs s
  | .endBatch => command k dest (endBatchCommand bs) s
  | .retrySeal => command k dest (retrySealCommand bs) s
  | .clearNotices => command k dest (clearNoticesCommand bs) s
  | .noticeMask => command k dest (noticeMaskCommand bs) s
  | .restart => takeRestart dest bs s
  | .join =>
    match readJoin bs with
    | some (c, b) => takeJoin sender c b s
    | none => s
  | .status =>
    match readStatus bs with
    | some (b, x) => takeStatus sender b x s
    | none => s
  | .progress =>
    match readProgress bs with
    | some (p, r, v, b) => takeProgress sender p r v b s
    | none => s
  | .pointResult =>
    match readPointResult bs with
    | some (p, r) => takePointResult sender p r s
    | none => s
  | .tally =>
    match readTally bs with
    | some (w, t) => takeTally sender w t (rosterMarks sender s)
    | none => s
  | .claim =>
    match readClaim bs with
    | some (n, number) => takeClaim sender n number (rosterMarks sender s)
    | none => s
  | .release =>
    match readRelease bs with
    | some n => takeRelease sender n (rosterMarks sender s)
    | none => s
  | .sealed => takeSealed bs (rosterMarks sender s)
  | .measurement | .notice | .reply | .detail => rosterMarks sender s

/-! ### The receive filter -/

/-- What the filter of Table 10.3 makes of an accepted frame. -/
inductive FilterOutcome where
  | nowhere | discarded | ownNumber | marksOnly
  | delivered (k : FrameKind)
  deriving DecidableEq, Repr

/-- The first row of Table 10.3 that applies (R155). -/
def receiveFilter (f : RxFrame) (s : State) : FilterOutcome :=
  if !validNumber s.line.own then .nowhere
  else if 62 ≤ f.sender.toNat then .discarded
  else if 17 ≤ f.length.toNat then .discarded
  else
    match FrameKind.ofNumber f.kind.toNat with
    | none => .discarded
    | some k =>
      if f.cls.toNat ≠ k.cls then .discarded
      else if f.sender.toNat = s.line.own then .ownNumber
      else if k.role ≠ roleOf f.sender.toNat then .marksOnly
      else if fits k f.payload then .delivered k
      else .marksOnly

/-- What becomes of an accepted frame (R155). -/
def filtered (f : RxFrame) (s : State) : State :=
  match receiveFilter f s with
  | .nowhere | .discarded => s
  | .ownNumber => enterMuted s
  | .marksOnly => rosterMarks f.sender.toNat s
  | .delivered k => deliver k ⟨f.sender, f.dest⟩ f.payload s

/-- What a receiver drives: with invalid straps neither slot (R156), but the objection run like every receiver (R149,
log 28). -/
def receiverDrives (d : ReceiverDrive) (own : Nat) : ReceiverDrive :=
  match d with
  | .objectionRun => .objectionRun
  | .acknowledgeSlot | .objectionSlot | .nothing => if validNumber own then d else .nothing

/-- What the station drives as the receiver of a frame. The line is not idle while the frame is on it, nor at its end bit
(R149, R152, R154). -/
def driveAs (d : ReceiverDrive) (s : State) : State :=
  { s with line := { s.line with drive := receiverDrives d s.line.own, idle := false } }

/-- An accepted frame: the acknowledge slot was driven, the frame counts in LINE-OFF whether or not the filter discards it,
and the filter decides. So the 64th good frame finds the line returned. A station that waits for the line to be idle takes
no frame (R149, R154, R155, R158, log 7, log 9). -/
def receive (f : RxFrame) (s : State) : State :=
  if s.line.awaitingIdle then s else filtered f (countGood (driveAs .acknowledgeSlot s))

/-- The frame of a kind that a row carries (R150). -/
def frameOfKind (k : FrameKind) (h : Hdr) (bs : List Byte) : RxFrame where
  cls := BitVec.ofNat 2 k.cls
  sender := h.sender
  kind := BitVec.ofNat 6 k.number
  dest := h.dest
  length := BitVec.ofNat 5 bs.length
  payload := bs

/-- An accepted frame of a kind. -/
def receiveKind (k : FrameKind) (h : Hdr) (bs : List Byte) (s : State) : State :=
  whenRunning (receive (frameOfKind k h bs)) s

/-! ### Attempts -/

/-- The head of the queue: a JOIN, else the most urgent class, and in it the frame that entered first (R160). -/
def headOf (q : List TxFrame) : Option Nat :=
  match q.findIdx? fun f => f.msg.kind == .join with
  | some i => some i
  | none =>
    (q.zipIdx.foldl
      (fun (best : Option (Nat × Nat)) (x : TxFrame × Nat) =>
        if best.all fun b => decide (x.1.msg.cls < b.1) then some (x.1.msg.cls, x.2) else best)
      none).map Prod.snd

/-- What a STATUS carries now (R55, R116). -/
def statusNow (s : State) : StatusContent where
  batch := s.meter.batch
  openRun := s.run.run.map fun x => (x.p, x.r, x.progress)
  notices := s.cmd.notices

/-- STATUS and JOIN are filled at the start of an attempt (R152, R156). -/
def fillMsg (s : State) : TxMsg → TxMsg
  | .status _ => .status (some (statusNow s))
  | .join c _ => .join c (some s.meter.batch)
  | m => m

/-- Whether an attempt of the own station is in progress. -/
def attempting (q : List TxFrame) : Bool := q.any TxFrame.sending

/-- The frame under attempt. -/
def underAttempt (q : List TxFrame) : Option TxFrame := q.find? TxFrame.sending

/-- An attempt begins with the head of the queue on an idle line, which its start bit ends (R152, log 9). -/
def beginAttempt (s : State) : State :=
  if s.line.state = .onLine && s.line.idle && !s.line.awaitingIdle && !attempting s.line.queue then
    match headOf s.line.queue with
    | some i => { s with line := { s.line with
        idle := false
        queue := s.line.queue.modify i fun f => { f with msg := fillMsg s f.msg, sending := true } } }
    | none => s
  else s

/-- The queue without the frame under attempt. -/
def dropSending (q : List TxFrame) : List TxFrame := q.filter fun f => !f.sending

/-- The attempt ends and its frame stays queued, with attempts counted. -/
def endAttempt (failed : Nat) (q : List TxFrame) : List TxFrame :=
  q.map fun f => if f.sending then { f with sending := false, attempts := f.attempts + failed } else f

/-- A frame waiting beside the queue enters it, or replaces the frame of its kind that stayed queued (R161). -/
def releaseWaiting (s : State) : State :=
  let waits := s.line.waitingStatus
  let set := s.line.waitingNotice
  let s := { s with line := { s.line with waitingStatus := false, waitingNotice := none } }
  let s := match set with
    | some x => enqueue (.notice x) s
    | none => s
  if waits then enqueue (.status none) s else s

/-- The owner of a sent frame is told (R135, R138, R153, R167). -/
def tellSent (m : TxMsg) (s : State) : State :=
  match m with
  | .claim n _ => ownClaimSent n s
  | .release n _ => ownReleaseSent n s
  | .detail _ _ _ live => if live then partSent s else s
  | _ => s

/-- A success at the end bit (R153): the owner is told, then a frame waiting beside the queue enters, then an owed
RELEASE that is not queued is queued again (R138, R161, log 38). -/
def succeed (f : TxFrame) (s : State) : State :=
  let s := startHeartbeat { s with line := { s.line with
    queue := dropSending s.line.queue
    faultTally := s.line.faultTally - 1 } }
  requeueOwed (releaseWaiting (tellSent f.msg s))

/-- A failure at the instant it is found: counts, the drop at the fourth attempt, the frame waiting beside the queue, then
LINE-OFF at a fault tally of 32 (R153, R157, R161, log 6). At a drop the waiting frame enters before TX_DROPPED is raised,
so that the NOTICE with the latest set is the one queued (R169, log 14). -/
def fail (f : TxFrame) (s : State) : State :=
  let s := { s with line := { s.line with faultTally := s.line.faultTally + 1 } }
  let s :=
    if Config.maxAttempts ≤ f.attempts + 1 then
      frameLost f.msg (releaseWaiting { s with line := { s.line with queue := dropSending s.line.queue } })
    else releaseWaiting { s with line := { s.line with queue := endAttempt 1 s.line.queue } }
  if Config.lineOffTally ≤ s.line.faultTally && s.line.state = .onLine then enterLineOff s else s

/-! ### Aging -/

/-- An aging expiry (R110, R111). -/
def ageRoster (s : State) : State :=
  let gone := agedOut s.roster.entries
  let lost := s.run.run.any fun x => gone.any fun e => pendingPeer x.p x.r e
  let s := { s with roster := {
    entries := agedEntries s.roster.entries
    agingTimer := later s.fe.now (s.cmd.setup.agingPeriod * Config.second) } }
  if gone.isEmpty then s
  else
    let s := if lost then raiseNotice .peerLost s else s
    completionTest (earlyJudgment (removeClaims (gone.map RosterEntry.station) s))

end Sys2Proof.Machine
end

