-- ==== Sys2Proof/Machine/Frames.lean ====
section
/-! DEFINITION. Meanings of the rows that are accepted frames. Each runs the receive filter on the frame of its kind
(R155, log 5) and, where the frame is delivered, the owning block. -/

namespace Sys2Proof.Machine

/-- The level of STROKE-DONE at a command that may grant a press slot (R139, log 4). -/
def withStrokeDone (level : Bool) (s : State) : State := { s with pins := { s.pins with strokeDone := level } }

/-- LOAD_SETTLED (R50, R56, R68). -/
def execLoadSettled (h : Hdr) (payload : List Byte) (s : State) : Host.Outcome State Fault Refusal :=
  .next (receiveKind .loadSettled h payload s)

/-- LOAD_CHANGING (R49, R68). -/
def execLoadChanging (h : Hdr) (payload : List Byte) (s : State) : Host.Outcome State Fault Refusal :=
  .next (receiveKind .loadChanging h payload s)

/-- LOAD_OFF (R51, R68). -/
def execLoadOff (h : Hdr) (payload : List Byte) (s : State) : Host.Outcome State Fault Refusal :=
  .next (receiveKind .loadOff h payload s)

/-- SYNC (R120). -/
def execSync (h : Hdr) (payload : List Byte) (s : State) : Host.Outcome State Fault Refusal :=
  .next (receiveKind .sync h payload s)

/-- TALLY_RECEIVED (R122). -/
def execTallyReceived (h : Hdr) (payload : List Byte) (s : State) : Host.Outcome State Fault Refusal :=
  .next (receiveKind .tally h payload s)

/-- STATUS_RECEIVED (R107). -/
def execStatusReceived (h : Hdr) (payload : List Byte) (s : State) : Host.Outcome State Fault Refusal :=
  .next (receiveKind .status h payload s)

/-- PROGRESS_RECEIVED (R108). -/
def execProgressReceived (h : Hdr) (payload : List Byte) (s : State) : Host.Outcome State Fault Refusal :=
  .next (receiveKind .progress h payload s)

/-- POINT_RESULT_RECEIVED (R109). -/
def execPointResultReceived (h : Hdr) (payload : List Byte) (s : State) : Host.Outcome State Fault Refusal :=
  .next (receiveKind .pointResult h payload s)

/-- SEALED_RECEIVED (R144). -/
def execSealedReceived (h : Hdr) (payload : List Byte) (s : State) : Host.Outcome State Fault Refusal :=
  .next (receiveKind .sealed h payload s)

/-- SETUP (R165). -/
def execSetup (h : Hdr) (payload : List Byte) (s : State) : Host.Outcome State Fault Refusal :=
  .next (receiveKind .setup h payload s)

/-- SET_METER (R90). -/
def execSetMeter (h : Hdr) (payload : List Byte) (s : State) : Host.Outcome State Fault Refusal :=
  .next (receiveKind .setMeter h payload s)

/-- PLAN_POINT (R42). -/
def execPlanPoint (h : Hdr) (payload : List Byte) (s : State) : Host.Outcome State Fault Refusal :=
  .next (receiveKind .planPoint h payload s)

/-- PLAN_LIMITS (R43). -/
def execPlanLimits (h : Hdr) (payload : List Byte) (s : State) : Host.Outcome State Fault Refusal :=
  .next (receiveKind .planLimits h payload s)

/-- PLAN_CLEAR (R44). -/
def execPlanClear (h : Hdr) (payload : List Byte) (s : State) : Host.Outcome State Fault Refusal :=
  .next (receiveKind .planClear h payload s)

/-- PLAN_HOLD (R46). -/
def execPlanHold (h : Hdr) (payload : List Byte) (s : State) : Host.Outcome State Fault Refusal :=
  .next (receiveKind .planHold h payload s)

/-- PLAN_RELEASE (R47). -/
def execPlanRelease (h : Hdr) (payload : List Byte) (s : State) : Host.Outcome State Fault Refusal :=
  .next (receiveKind .planRelease h payload s)

/-- READING_BEFORE (R83; the word in the payload is not AFTER, log 22). -/
def execReadingBefore (h : Hdr) (payload : List Byte) (s : State) : Host.Outcome State Fault Refusal :=
  .next (receiveKind .reading h payload s)

/-- READING_AFTER (R86; the word in the payload is AFTER, log 22). -/
def execReadingAfter (h : Hdr) (payload : List Byte) (s : State) : Host.Outcome State Fault Refusal :=
  .next (receiveKind .reading h payload s)

/-- QUERY (R166). -/
def execQuery (h : Hdr) (payload : List Byte) (s : State) : Host.Outcome State Fault Refusal :=
  .next (receiveKind .query h payload s)

/-- END_BATCH (R98). -/
def execEndBatch (h : Hdr) (payload : List Byte) (s : State) : Host.Outcome State Fault Refusal :=
  .next (receiveKind .endBatch h payload s)

/-- RETRY_SEAL (R145). -/
def execRetrySeal (h : Hdr) (payload : List Byte) (s : State) : Host.Outcome State Fault Refusal :=
  .next (receiveKind .retrySeal h payload s)

/-- CLEAR_NOTICES (R170). -/
def execClearNotices (h : Hdr) (payload : List Byte) (s : State) : Host.Outcome State Fault Refusal :=
  .next (receiveKind .clearNotices h payload s)

/-- NOTICE_MASK (R170). -/
def execNoticeMask (h : Hdr) (payload : List Byte) (s : State) : Host.Outcome State Fault Refusal :=
  .next (receiveKind .noticeMask h payload s)

/-- RESTART (R171). -/
def execRestart (h : Hdr) (payload : List Byte) (s : State) : Host.Outcome State Fault Refusal :=
  .next (receiveKind .restart h payload s)

/-- JOIN_RECEIVED (R106, R116, R134). -/
def execJoinReceived (h : Hdr) (payload : List Byte) (strokeDone : Bool) (s : State) : Host.Outcome State Fault Refusal :=
  .next (receiveKind .join h payload (withStrokeDone strokeDone s))

/-- CLAIM_RECEIVED (R133). -/
def execClaimReceived (h : Hdr) (payload : List Byte) (strokeDone : Bool) (s : State) : Host.Outcome State Fault Refusal :=
  .next (receiveKind .claim h payload (withStrokeDone strokeDone s))

/-- RELEASE_RECEIVED (R134). -/
def execReleaseReceived (h : Hdr) (payload : List Byte) (strokeDone : Bool) (s : State) : Host.Outcome State Fault Refusal :=
  .next (receiveKind .release h payload (withStrokeDone strokeDone s))

/-- The frame kind of a row MEASUREMENT_RECEIVED. -/
def marksKind : MarksKind → FrameKind
  | .measurement => .measurement
  | .notice => .notice
  | .reply => .reply
  | .detail => .detail

/-- MEASUREMENT_RECEIVED, and NOTICE, REPLY and DETAIL of a peer (R105). -/
def execMeasurementReceived (k : MarksKind) (h : Hdr) (payload : List Byte) (s : State) :
    Host.Outcome State Fault Refusal :=
  .next (receiveKind (marksKind k) h payload s)

/-- DUPLICATE_NUMBER_FRAME: an accepted frame whose sender is the own number (R117, R159). -/
def execDuplicateNumberFrame (cls : BitVec 2) (kind dest : BitVec 6) (length : BitVec 5) (payload : List Byte)
    (s : State) : Host.Outcome State Fault Refusal :=
  .next (whenRunning (receive ⟨cls, BitVec.ofNat 6 s.line.own, kind, dest, length, payload⟩) s)

/-- FRAME_FILTERED: an accepted frame with every header field free goes through the filter (R155, log 32). -/
def execFrameFiltered (f : RxFrame) (s : State) : Host.Outcome State Fault Refusal :=
  .next (whenRunning (receive f) s)

end Sys2Proof.Machine
end

