-- ==== Sys2Proof/Machine/Line.lean ====
section
/-! DEFINITION. Meanings of the line controller's own rows and of the roster's aging (R110, R149, R152 to R161). -/

namespace Sys2Proof.Machine

/-- FRAME_DISCARD: the station drives the objection slot when its own check failed, hands the frame to no block, sets the
good-frame count to 0, and waits for the line to be idle (R149, R154, R158). -/
def execFrameDiscard (cause : DiscardCause) (s : State) : Host.Outcome State Fault Refusal :=
  .next (whenRunning (fun s =>
    let s := driveAs (if cause = .ownCheck then .objectionSlot else .acknowledgeSlot) s
    { s with line := { s.line with goodFrames := 0, awaitingIdle := true } }) s)

/-- STUFFING_VIOLATION: the frame is discarded, an objection run is driven, the good-frame count is 0, and the station
waits for the line to be idle (R149, R158). -/
def execStuffingViolation (s : State) : Host.Outcome State Fault Refusal :=
  .next (whenRunning (fun s =>
    let s := driveAs .objectionRun s
    { s with line := { s.line with goodFrames := 0, awaitingIdle := true } }) s)

/-- LINE_IDLE: the station may again take a start bit or begin a frame (R149). -/
def execLineIdle (s : State) : Host.Outcome State Fault Refusal :=
  .next (whenRunning (fun s => { s with line := { s.line with awaitingIdle := false, idle := true, drive := .nothing } }) s)

/-- HEARTBEAT_EXPIRY: a STATUS is queued while ON-LINE, and the timer restarts (R115). -/
def execHeartbeatExpiry (s : State) : Host.Outcome State Fault Refusal :=
  .next (whenDue (fun s => s.line.heartbeat) (fun s =>
    if s.line.state = .onLine then startHeartbeat (enqueue (.status none) s) else s) s)

/-- LISTEN_TIMER_EXPIRY: JOIN with the reset's cause at the head, ON-LINE, heartbeat (R156). -/
def execListenTimerExpiry (s : State) : Host.Outcome State Fault Refusal :=
  .next (whenDue (fun s => s.line.listenTimer) (fun s =>
    if s.line.state = .listening then
      let s := queueJoin s.line.resetCause s
      startHeartbeat { s with line := { s.line with state := .onLine, listenTimer := none } }
    else s) s)

/-- TRANSMISSION_ATTEMPT (R152). -/
def execTransmissionAttempt (s : State) : Host.Outcome State Fault Refusal := .next (whenRunning beginAttempt s)

/-- LOST_ARBITRATION: the frame stays queued with its attempt count and the fault tally as they were, and the station
takes the rest of the winner's frame as a receiver (R152, log 14). -/
def execLostArbitration (s : State) : Host.Outcome State Fault Refusal :=
  .next (whenRunning (fun s =>
    if attempting s.line.queue then
      releaseWaiting { s with line := { s.line with queue := endAttempt 0 s.line.queue } }
    else s) s)

/-- ATTEMPT_SUCCESS (R153). -/
def execAttemptSuccess (strokeDone : Bool) (s : State) : Host.Outcome State Fault Refusal :=
  .next (whenRunning (fun s =>
    match underAttempt s.line.queue with
    | some f => succeed f s
    | none => s) (withStrokeDone strokeDone s))

/-- ATTEMPT_FAILURE (R153): the three causes have the same effect on the queue and the counts. After a bit error the
station goes on taking the frame as a receiver; after the other two the frame is over at its end. -/
def execAttemptFailure (_cause : FailureCause) (s : State) : Host.Outcome State Fault Refusal :=
  .next (whenRunning (fun s =>
    match underAttempt s.line.queue with
    | some f => fail f s
    | none => s) s)

/-- LINE_OFF_ENTRY: the fault tally reaches 32 while ON-LINE (R157, log 6). -/
def execLineOffEntry (s : State) : Host.Outcome State Fault Refusal :=
  .next (whenRunning (fun s => if s.line.state = .onLine then enterLineOff s else s) s)

/-- LINE_RETURN: 64 consecutive good frames end LINE-OFF (R158, log 7). -/
def execLineReturn (s : State) : Host.Outcome State Fault Refusal :=
  .next (whenRunning (fun s => if s.line.state = .lineOff then returnOnLine s else s) s)

/-- AGING_EXPIRY (R110, R111). -/
def execAgingExpiry (strokeDone : Bool) (s : State) : Host.Outcome State Fault Refusal :=
  .next (whenDue (fun s => some s.roster.agingTimer) ageRoster (withStrokeDone strokeDone s))

end Sys2Proof.Machine
end

