-- ==== Sys2Proof/Machine/Resets.lean ====
section
/-! DEFINITION. Resets, the batch clock, the lamp clock and the tick of the timebase (R1, R91, R102, R131, R156, R171). -/

namespace Sys2Proof.Machine

/-! ### Resets -/

/-- The cause that the JOIN after a reset carries (R156). -/
def Phase.joinCause : Phase → JoinCause
  | .running | .powerOn => .power
  | .pin => .pin
  | .command => .command

/-- The absence timer of a reset that ends with PRESENT low: from stamp 0, with the grace in force after the reset
(R11). -/
def resetAbsence (present : Bool) (grace : Nat) : Option AbsenceTimer :=
  if present then none else startAbsence 0 grace

/-- Every block in the state its chapter gives for the reset that held the station: a command reset keeps the setup
values, the notice mask and the seal log (R8, R131, R165, R169, R171). -/
def resetBlocks (phase : Phase) (straps : BitVec 6) (present midFrame : Bool) (s : State) : State :=
  let setup := if phase = .command then s.cmd.setup else Setup.default
  let mask := if phase = .command then s.cmd.mask else BitVec.allOnes 10
  let log := if phase = .command then s.sealUnit.log else []
  { pins := { s.pins with straps := straps, present := present }
    phase := .running
    fe := { FrontEnd.reset with absent := !present, absenceTimer := resetAbsence present setup.scannerGrace }
    trk := Tracker.reset
    ec := .idle
    plan := PlanStore.reset
    run := PointRunner.reset
    meter := MeterRecord.reset
    lamp := LampClock.reset
    roster := Roster.reset setup.agingPeriod
    xc := CrossCheck.reset
    sealUnit := SealUnit.reset log
    sealRx := SealReceiver.reset
    line := LineController.reset straps phase.joinCause midFrame
    cmd := CommandHandler.reset setup mask
    pending := s.pending }

/-- POWER_ON_RESET: the station is held, PRESS-DRIVE inactive, the stamp counter stopped, the lamps off (R1, R102,
R131). -/
def execPowerOnReset (s : State) : Host.Outcome State Fault Refusal := .next (holdReset .powerOn s)

/-- PIN_RESET: the same for RESET-N. A power-on reset that holds the station stays one (log 16). -/
def execPinReset (s : State) : Host.Outcome State Fault Refusal :=
  .next (if s.phase = .powerOn then s else holdReset .pin s)

/-- RESET_END: the blocks take their reset state; with PRESENT low SCANNER_ABSENT is set and queues a NOTICE under the
mask (R11, R156, R169). Outside a reset there is none to end. -/
def execResetEnd (straps : BitVec 6) (present midFrame : Bool) (s : State) : Host.Outcome State Fault Refusal :=
  .next (if s.phase = .running then s
    else if present then resetBlocks s.phase straps present midFrame s
    else raiseNotice .scannerAbsent (resetBlocks s.phase straps present midFrame s))

/-! ### Clocks -/

/-- The batch clock advances by one second and stays at its largest value (R91). -/
def advanceClock (c : BatchClock) : BatchClock :=
  ⟨min Config.maxClock (c.seconds + 1), later c.nextAt Config.second⟩

/-- BATCH_CLOCK_TICK (R91): the clock runs in every batch state but IDLE. -/
def execBatchClockTick (s : State) : Host.Outcome State Fault Refusal :=
  .next (whenDue (fun s => s.meter.clock.map BatchClock.nextAt)
    (fun s => { s with meter := { s.meter with clock := s.meter.clock.map advanceClock } }) s)

/-- LAMP_CLOCK_TICK (R102): a half period has passed. -/
def execLampClockTick (s : State) : Host.Outcome State Fault Refusal :=
  .next (whenDue (fun s => some s.lamp.toggleAt) (fun s =>
    { s with lamp := ⟨!s.lamp.lit, later s.lamp.toggleAt Config.lampHalfPeriod⟩ }) s)

/-! ### The tick -/

/-- The expiries that fall due at a stamp, as commands, in an order of the model's choice (log 1). The AGING_EXPIRY made
here samples STROKE-DONE at the level last given: the table has no row for its fall, and a fall that no command has told
leaves that level high (log 4). -/
def dueCommands (now : Stamp) (s : State) : List Instr :=
  [ (dueAt now s.fe.intervalTimer, Instr.intervalTimerExpiry),
    (dueAt now (s.fe.edge.map fun x => later x.t x.width), .widthTimerExpiry),
    (dueAt now (evaluationDue s.ec), .delayedGateEvaluation),
    (dueAt now (s.fe.absenceTimer.map AbsenceTimer.expiry), .graceExpiry),
    (dueAt now (s.run.run.map Run.pointTimer), .pointTimerExpiry),
    (dueAt now s.line.listenTimer, .listenTimerExpiry),
    (dueAt now s.line.heartbeat, .heartbeatExpiry),
    (dueAt now (some s.roster.agingTimer), .agingExpiry s.pins.strokeDone),
    (dueAt now s.sealRx.timer, .sealInTimeout),
    (dueAt now s.sealUnit.strokeTimer, .strokeTimerExpiry),
    (dueAt now (s.meter.clock.map BatchClock.nextAt), .batchClockTick),
    (dueAt now (some s.lamp.toggleAt), .lampClockTick) ].filterMap
    fun x => if x.1 then some x.2 else none

/-- The stamp counter advances by one, and the tick of a stopped absence timer is over (R1, R82). -/
def advance (s : State) : State := { s with fe := { s.fe with now := s.fe.now + 1, stoppedGrace := none } }

/-- One tick of the timebase, on an empty queue: the stamp counter advances and the expiries that fall due are put in the
queue; a command reset ends; while supply or RESET-N holds the station nothing runs (R1, R171, log 1). -/
def tick (s : State) : State :=
  match s.phase with
  | .powerOn | .pin => s
  | .command => { advance s with pending := [.resetEnd s.pins.straps s.pins.present false] }
  | .running => { advance s with pending := dueCommands (s.fe.now + 1) s }

end Sys2Proof.Machine
end

