-- ==== Sys2Proof/Machine/Dispatch.lean ====
section
/-! DEFINITION. One arm for each command. -/

namespace Sys2Proof.Machine

def exec (i : Instr) (s : State) : Host.Outcome State Fault Refusal :=
  match i with
  | .powerOnReset => Sys2Proof.Machine.execPowerOnReset s
  | .pinReset => Sys2Proof.Machine.execPinReset s
  | .resetEnd straps present midFrame => Sys2Proof.Machine.execResetEnd straps present midFrame s
  | .refRisingEdge => Sys2Proof.Machine.execRefRisingEdge s
  | .mutRisingEdge => Sys2Proof.Machine.execMutRisingEdge s
  | .mutFallingEdge => Sys2Proof.Machine.execMutFallingEdge s
  | .widthTimerExpiry => Sys2Proof.Machine.execWidthTimerExpiry s
  | .intervalTimerExpiry => Sys2Proof.Machine.execIntervalTimerExpiry s
  | .delayedGateEvaluation => Sys2Proof.Machine.execDelayedGateEvaluation s
  | .presentFall => Sys2Proof.Machine.execPresentFall s
  | .presentRise => Sys2Proof.Machine.execPresentRise s
  | .graceExpiry => Sys2Proof.Machine.execGraceExpiry s
  | .loadSettled h payload => Sys2Proof.Machine.execLoadSettled h payload s
  | .loadChanging h payload => Sys2Proof.Machine.execLoadChanging h payload s
  | .loadOff h payload => Sys2Proof.Machine.execLoadOff h payload s
  | .pointTimerExpiry => Sys2Proof.Machine.execPointTimerExpiry s
  | .sync h payload => Sys2Proof.Machine.execSync h payload s
  | .tallyReceived h payload => Sys2Proof.Machine.execTallyReceived h payload s
  | .joinReceived h payload strokeDone => Sys2Proof.Machine.execJoinReceived h payload strokeDone s
  | .statusReceived h payload => Sys2Proof.Machine.execStatusReceived h payload s
  | .progressReceived h payload => Sys2Proof.Machine.execProgressReceived h payload s
  | .pointResultReceived h payload => Sys2Proof.Machine.execPointResultReceived h payload s
  | .measurementReceived k h payload => Sys2Proof.Machine.execMeasurementReceived k h payload s
  | .claimReceived h payload strokeDone => Sys2Proof.Machine.execClaimReceived h payload strokeDone s
  | .releaseReceived h payload strokeDone => Sys2Proof.Machine.execReleaseReceived h payload strokeDone s
  | .sealedReceived h payload => Sys2Proof.Machine.execSealedReceived h payload s
  | .duplicateNumberFrame cls kind dest length payload => Sys2Proof.Machine.execDuplicateNumberFrame cls kind dest length payload s
  | .frameDiscard cause => Sys2Proof.Machine.execFrameDiscard cause s
  | .agingExpiry strokeDone => Sys2Proof.Machine.execAgingExpiry strokeDone s
  | .heartbeatExpiry => Sys2Proof.Machine.execHeartbeatExpiry s
  | .listenTimerExpiry => Sys2Proof.Machine.execListenTimerExpiry s
  | .transmissionAttempt => Sys2Proof.Machine.execTransmissionAttempt s
  | .lostArbitration => Sys2Proof.Machine.execLostArbitration s
  | .attemptSuccess strokeDone => Sys2Proof.Machine.execAttemptSuccess strokeDone s
  | .attemptFailure cause => Sys2Proof.Machine.execAttemptFailure cause s
  | .lineOffEntry => Sys2Proof.Machine.execLineOffEntry s
  | .lineReturn => Sys2Proof.Machine.execLineReturn s
  | .sealInCharacter levels stop rested => Sys2Proof.Machine.execSealInCharacter levels stop rested s
  | .sealInTimeout => Sys2Proof.Machine.execSealInTimeout s
  | .strokeDoneRise => Sys2Proof.Machine.execStrokeDoneRise s
  | .strokeTimerExpiry => Sys2Proof.Machine.execStrokeTimerExpiry s
  | .batchClockTick => Sys2Proof.Machine.execBatchClockTick s
  | .lampClockTick => Sys2Proof.Machine.execLampClockTick s
  | .setup h payload => Sys2Proof.Machine.execSetup h payload s
  | .setMeter h payload => Sys2Proof.Machine.execSetMeter h payload s
  | .planPoint h payload => Sys2Proof.Machine.execPlanPoint h payload s
  | .planLimits h payload => Sys2Proof.Machine.execPlanLimits h payload s
  | .planClear h payload => Sys2Proof.Machine.execPlanClear h payload s
  | .planHold h payload => Sys2Proof.Machine.execPlanHold h payload s
  | .planRelease h payload => Sys2Proof.Machine.execPlanRelease h payload s
  | .readingBefore h payload => Sys2Proof.Machine.execReadingBefore h payload s
  | .readingAfter h payload => Sys2Proof.Machine.execReadingAfter h payload s
  | .query h payload => Sys2Proof.Machine.execQuery h payload s
  | .endBatch h payload => Sys2Proof.Machine.execEndBatch h payload s
  | .retrySeal h payload => Sys2Proof.Machine.execRetrySeal h payload s
  | .clearNotices h payload => Sys2Proof.Machine.execClearNotices h payload s
  | .noticeMask h payload => Sys2Proof.Machine.execNoticeMask h payload s
  | .restart h payload => Sys2Proof.Machine.execRestart h payload s
  | .frameFiltered f => Sys2Proof.Machine.execFrameFiltered f s
  | .stuffingViolation => Sys2Proof.Machine.execStuffingViolation s
  | .lineIdle => Sys2Proof.Machine.execLineIdle s

end Sys2Proof.Machine
end

