-- ==== Sys2Proof/Machine/Wire.lean ====
section
/-! DEFINITION. The bits of the bench line: levels (R147), frame layout and check (R148), stuffing (R149). A bit is a
Bool; dominant is logic 0, false. -/

namespace Sys2Proof.Machine

/-! ### Levels -/

/-- What a receiver reads at a differential in mV: dominant from 0.9 V, recessive up to 0.5 V; between them R147 states
no reading, and it is a free value (log 23). -/
def receiverReads (mV : Int) : Bool :=
  if 900 ≤ mV then false else if mV ≤ 500 then true else Config.undecidedLevel mV

/-- The differential in mV while `k` nodes drive dominant: the pair released by all rests at 0 V, and a dominant bit is at
least 1.5 V; how far above that it lies is a free value (R147, log 23). -/
def drivenDifferential (k : Nat) : Int :=
  if k = 0 then 0 else (Config.dominantLeast : Int) + Config.dominantExcess k

/-- The differential of the line when the nodes send the given levels. -/
def lineDifferential (levels : List Bool) : Int := drivenDifferential (levels.countP fun l => !l)

/-- Level of the line when the given nodes drive: dominant wins (chapter 10). -/
def wiredAnd (levels : List Bool) : Bool := levels.all id

/-- The bits sampled from the levels that are read, one level for each tick: each bit once, 70 % of the bit time from its
start, and a recessive-to-dominant transition starts a bit (R147). `prev` is the level of the tick before, `phase` the
ticks since the bit began. -/
def sampleFrom (prev : Bool) (phase : Nat) : List Bool → List Bool
  | [] => []
  | l :: ls =>
    let phase := if prev && !l then 0 else phase
    let rest := sampleFrom l ((phase + 1) % Config.bitTime) ls
    if phase = Config.samplePoint then l :: rest else rest

/-- The bits sampled from the first bit after an idle line on. -/
def sample (levels : List Bool) : List Bool := sampleFrom true 0 levels

/-! ### Fields, check and stuffing -/

/-- The `w` bits of a number, most significant first (R148). -/
def bitsMsb : Nat → Nat → List Bool
  | 0, _ => []
  | w + 1, n => bitsMsb w (n / 2) ++ [n % 2 == 1]

/-- The number whose bits are given most significant first. -/
def ofBitsMsb (bs : List Bool) : Nat := bs.foldl (fun n b => 2 * n + b.toNat) 0

/-- One bit of the CRC register, generator x^16 + x^12 + x^5 + 1 (R148). -/
def crcStep (r : BitVec 16) (b : Bool) : BitVec 16 :=
  let shifted := r <<< 1
  if r.msb != b then shifted ^^^ 0x1021#16 else shifted

/-- The check over the bits of class to payload: register from all ones, no final inversion (R148). -/
def crc (bits : List Bool) : BitVec 16 := bits.foldl crcStep (BitVec.allOnes 16)

/-- The bits of class to payload of a frame (Table 10.1). -/
def headerAndPayload (f : RxFrame) : List Bool :=
  bitsMsb 2 f.cls.toNat ++ bitsMsb 6 f.sender.toNat ++ bitsMsb 6 f.kind.toNat ++ bitsMsb 6 f.dest.toNat ++
    bitsMsb 5 f.length.toNat ++ f.payload.flatMap fun b => bitsMsb 8 b.toNat

/-- The frame from its start bit to its last check bit, before stuffing (R148). -/
def plainBits (f : RxFrame) : List Bool :=
  let body := headerAndPayload f
  false :: body ++ bitsMsb 16 (crc body).toNat

/-- Stuffing: after every run of 6 equal bits, stuff bits counted, a bit of the opposite level (R149), also where the run
ends at the last bit of the check field (log 37). `n` bits of level `lvl` stand before. -/
def stuffFrom (lvl : Bool) (n : Nat) : List Bool → List Bool
  | [] => []
  | b :: bs =>
    let n' := if b = lvl then n + 1 else 1
    if n' = 6 then b :: (!b) :: stuffFrom (!b) 1 bs else b :: stuffFrom b n' bs

/-- The stuffed span of a frame. -/
def stuff (bits : List Bool) : List Bool := stuffFrom false 0 bits

/-- What a receiver makes of a stuffed span: the stuff bits are removed, and a seventh bit of equal level is a stuffing
violation, none (R149). -/
def destuffFrom (lvl : Bool) (n : Nat) : List Bool → Option (List Bool)
  | [] => some []
  | b :: bs =>
    if n = 6 then (if b = lvl then none else destuffFrom b 1 bs)
    else (destuffFrom b (if b = lvl then n + 1 else 1) bs).map (b :: ·)

/-- The received bits of a span without its stuff bits. -/
def destuff (bits : List Bool) : Option (List Bool) := destuffFrom false 0 bits

/-- `n` payload bytes read from a list of bits, with the bits that follow. -/
def takeBytes : Nat → List Bool → Option (List Byte × List Bool)
  | 0, bits => some ([], bits)
  | n + 1, bits =>
    if bits.length < 8 then none
    else (takeBytes n (bits.drop 8)).map fun (bs, rest) => (BitVec.ofNat 8 (ofBitsMsb (bits.take 8)) :: bs, rest)

/-- The frame in a destuffed span: the payload's extent is taken from the length field, and the check must match
(R148, R154). -/
def frameOfBits (bits : List Bool) : Option RxFrame :=
  match bits with
  | false :: b =>
    if b.length < 41 then none
    else
      let length := BitVec.ofNat 5 (ofBitsMsb ((b.drop 20).take 5))
      match takeBytes length.toNat (b.drop 25) with
      | some (payload, check) =>
        let f : RxFrame :=
          { cls := BitVec.ofNat 2 (ofBitsMsb (b.take 2))
            sender := BitVec.ofNat 6 (ofBitsMsb ((b.drop 2).take 6))
            kind := BitVec.ofNat 6 (ofBitsMsb ((b.drop 8).take 6))
            dest := BitVec.ofNat 6 (ofBitsMsb ((b.drop 14).take 6))
            length := length
            payload := payload }
        if check = bitsMsb 16 (crc (headerAndPayload f)).toNat then some f else none
      | none => none
  | _ => none

/-- What a receiver takes from the bits of a stuffed span: a frame, or none at a stuffing violation or a failed check. -/
def receiveBits (bits : List Bool) : Option RxFrame := (destuff bits).bind frameOfBits

/-- The frame that carries a message of the station with number `own` (R148, R150). -/
def frameOf (own : Nat) (m : TxMsg) : RxFrame where
  cls := BitVec.ofNat 2 m.cls
  sender := BitVec.ofNat 6 own
  kind := BitVec.ofNat 6 m.kind.number
  dest := BitVec.ofNat 6 m.kind.sendsTo
  length := BitVec.ofNat 5 m.payload.length
  payload := m.payload

/-- The bits the station puts on the line for a frame: the stuffed span, then the slots and the end field sent
recessive (R148). -/
def sentBits (own : Nat) (m : TxMsg) : List Bool := stuff (plainBits (frameOf own m)) ++ List.replicate 9 true

/-- The bits a receiver drives: in the acknowledge slot and the objection slot after the check field, or from the bit after
a stuffing violation on (R148, R149, R154). -/
def receiverBits : ReceiverDrive → List Bool
  | .nothing => []
  | .acknowledgeSlot => [false, true]
  | .objectionSlot => [true, false]
  | .objectionRun => List.replicate Config.objectionBits false

/-- What the station has on the line as a transmitter: the frame under attempt, and nothing in a reset (R152, R171). -/
def wireOutput (s : State) : Option (List Bool) :=
  if s.phase = .running then (s.line.queue.find? TxFrame.sending).map fun f => sentBits s.line.own f.msg else none

end Sys2Proof.Machine
end

