-- ==== Sys2Proof/Safety.lean ====
section
/-! DEFINITION. The terms the statements use: when a station takes a frame, whom a frame comes from, the effect of an
accepted frame that every row shares, and what the station keeps in every state it reaches. -/

namespace Sys2Proof.Machine

/-! ### Accepted frames -/

/-- The station runs with valid straps and takes frames, in any line state but LINE-OFF, where each good frame counts
toward the return as well (R155, R156, R158). -/
abbrev Hears (s : State) : Prop :=
  s.phase = .running ∧ validNumber s.line.own = true ∧ s.line.awaitingIdle = false ∧ s.line.state ≠ .lineOff

/-- A frame of the source node (R150). -/
abbrev FromSource (h : Hdr) : Prop := h.sender.toNat = 0

/-- A frame of the console (R150). -/
abbrev FromConsole (h : Hdr) : Prop := h.sender.toNat = 61

/-- A frame of a position peer (R150). -/
abbrev FromPeer (h : Hdr) (s : State) : Prop :=
  1 ≤ h.sender.toNat ∧ h.sender.toNat ≤ 60 ∧ h.sender.toNat ≠ s.line.own

/-- A command for this station alone (R163). -/
abbrev ToThis (h : Hdr) (s : State) : Prop := h.dest.toNat = s.line.own

/-- A command for a group this station is in (R150, R163). -/
abbrev ToGroup (h : Hdr) : Prop := h.dest.toNat = 62 ∨ h.dest.toNat = 63

/-- The state once the acknowledge slot of an accepted frame has been driven; the line is not idle at its end bit
(R149, R154). -/
def acked (s : State) : State := { s with line := { s.line with drive := .acknowledgeSlot, idle := false } }

/-- Whether a marked entry is the whole of what a station's roster holds of a peer, and every other peer's entry is as
it was. -/
abbrev EntryIs (station : Nat) (e : RosterEntry) (before after : Roster) : Prop :=
  (∀ x ∈ after.entries, x.station = station → x = e) ∧ e ∈ after.entries ∧
    ∀ x : RosterEntry, x.station ≠ station → (x ∈ after.entries ↔ x ∈ before.entries)

/-- The command qualifies the edge: a fall after its minimum width, the end of its width timer with MUT high, or a rise
that passes the interval test under a minimum width of 0 (R5, R7). -/
abbrev QualifiesBy (i : Instr) (x : PendingEdge) (s : State) : Prop :=
  (i = .mutFallingEdge ∧ s.fe.edge = some x ∧ x.width ≤ elapsed s.fe.now x.t) ∨
  (i = .widthTimerExpiry ∧ s.fe.edge = some x ∧ s.pins.mutHigh = true ∧ x.t + BitVec.ofNat 48 x.width = s.fe.now) ∨
  (i = .mutRisingEdge ∧ s.pins.present = true ∧ intervalPassed s = true ∧ s.cmd.setup.mutWidth = 0 ∧
    x = ⟨s.fe.now, 0, s.cmd.setup.mutInterval * 1000, ⟨s.trk.count, s.trk.last, none⟩⟩)

/-- The command evaluates the gate from A to B, of N pulses: the evaluation of an end marker that waits, one tick after
its stamp, or the command that qualifies an edge whose marker is the end marker and forms later than its own stamp, where
no full marker queue voids the gate (R21, R22, R24). -/
abbrev EvaluatesGate (i : Instr) (n minRef : Nat) (a b : Marker) (overrate : Bool) (s : State) : Prop :=
  (i = .delayedGateEvaluation ∧ (∃ k, s.ec = .gating n minRef ⟨a, k, overrate, some b⟩) ∧ b.t + 1 = s.fe.now) ∨
  ∃ (x : PendingEdge) (k : Nat) (spoiled : Bool), QualifiesBy i x s ∧ x.t ≠ s.fe.now ∧
    s.ec = .gating n minRef ⟨a, k, spoiled, none⟩ ∧ n ≤ k + 1 ∧
    (x.snap.rNext ≠ none ∨ s.trk.queue.length < Config.markerCapacity) ∧ overrate = (spoiled || s.trk.overrate) ∧
    b = ⟨x.t, x.snap.c, x.snap.rPrev, x.snap.rNext, s.trk.overrate⟩

/-! ### Runs, verdicts and judgments -/

/-- A peer that a completion of run (p, r) waits for: RUNNING, and not reported SETTLED, WITHDRAWN or CLOSED for it
(R113). -/
abbrev PeerPending (p r : Nat) (s : State) : Prop :=
  ∃ e ∈ s.roster.entries, e.batch = some .running ∧
    (e.progress.all fun q => !(q.p == p && q.r == r &&
      (q.value == .settled || q.value == .withdrawn || q.value == .closed))) = true

/-- An index of the seal-relevant set (R94). -/
abbrev SealRelevant (s : State) (p : Nat) : Prop :=
  ((slotGet s.plan.active p).any fun e => e.limits.any Limits.sealRelevant) = true

/-- An overall verdict exists (R94). -/
abbrev VerdictExists (s : State) : Prop :=
  s.run.run = none ∧ (∃ p, p < 32 ∧ SealRelevant s p) ∧
    ∀ p < 32, SealRelevant s p → ((slotGet s.meter.records p).any fun x => !x.stale && x.verdict != .pending) = true

/-- Every record of a seal-relevant index is PASS (R94). -/
abbrev AllPass (s : State) : Prop :=
  ∀ p < 32, SealRelevant s p → ((slotGet s.meter.records p).any fun x => x.verdict == .pass) = true

/-- Verdict and batch state as an evaluation in RUNNING, REJECTED or AWAIT_SEAL leaves them (Table 6.3). -/
abbrev Evaluated (s : State) : Prop :=
  (¬ VerdictExists s → s.meter.verdict = none ∧ s.meter.batch = .running) ∧
  (VerdictExists s → AllPass s → s.meter.verdict = some .eligible ∧ s.meter.batch = .awaitSeal) ∧
  (VerdictExists s → ¬ AllPass s → s.meter.verdict = some .rejected ∧ s.meter.batch = .rejected)

/-- A seal number is in the seal log or claimed by another station (R132). -/
abbrev SealTaken (number : Text) (s : State) : Prop :=
  number ∈ s.sealUnit.log ∨ ∃ c ∈ s.sealUnit.pressList, c.station ≠ s.line.own ∧ c.sealNo = number

/-- What the seal check of a held number leaves in AWAIT_SEAL, from the seal unit as it stood before: a taken number is
discarded with SEAL_REUSED, any other is claimed with the next claim number (R96, R132). -/
abbrev SealChecked (number : Text) (before after : State) : Prop :=
  let next := if before.sealUnit.claimNumber = 255 then 1 else before.sealUnit.claimNumber + 1
  (SealTaken number before → after.meter.batch = .awaitSeal ∧ after.meter.held = none ∧
    after.sealUnit = before.sealUnit ∧ hasNotice after.cmd.notices .sealReused = true) ∧
  (¬ SealTaken number before → after.meter.batch = .claiming ∧ after.meter.held = some number ∧
    after.sealUnit = { before.sealUnit with claimNumber := next, current := some ⟨next, number, false⟩ } ∧
    ∃ f ∈ after.line.queue, f.msg = .claim next number)

/-- What the grant test of the sent own claim leaves, with the given claims in the list: behind the first K it waits, among
them the stroke begins with STROKE-DONE low, and is refused as a press fault with STROKE-DONE high (R136, R139). -/
abbrev GrantTested (c : OwnClaim) (place : Nat) (strokeDone : Bool) (list : List Claim) (before after : State) : Prop :=
  let unit := { before.sealUnit with pressList := list }
  (before.cmd.setup.pressBudget ≤ place → after.sealUnit = unit ∧ after.meter = before.meter) ∧
  (place < before.cmd.setup.pressBudget → strokeDone = false →
    after.meter = { before.meter with batch := .pressing } ∧
    after.sealUnit = { unit with
      pressDrive := true
      strokeTimer := some (before.fe.now + BitVec.ofNat 48 (before.cmd.setup.strokeTimeout * 100000000)) }) ∧
  (place < before.cmd.setup.pressBudget → strokeDone = true →
    after.meter = { before.meter with batch := .sealFault } ∧ after.sealUnit.current = none ∧
    after.sealUnit.pressDrive = before.sealUnit.pressDrive ∧ after.sealUnit.owed = some ⟨c.number, .fault⟩ ∧
    hasNotice after.cmd.notices .pressFault = true)

/-- The median of 00_scope.md 3.4, the lower middle one of an even number: a member with no more than half of the others
below it. -/
abbrev IsMedian (med : Nat) (ts : List Nat) : Prop :=
  med ∈ ts ∧ ts.countP (fun t => decide (t < med)) ≤ (ts.length - 1) / 2 ∧
    (ts.length - 1) / 2 < ts.countP (fun t => decide (t ≤ med))

/-- What the judgment of the given tallies does to streak, condition and open run (R124 to R126, Table 8.2). -/
abbrev JudgedBy (own : Nat) (tallies : List Nat) (before after : State) : Prop :=
  (tallies.length < 3 →
    after.xc.suspect = before.xc.suspect ∧ after.xc.streak = before.xc.streak ∧ after.run = before.run) ∧
  ∀ med, IsMedian med tallies → 3 ≤ tallies.length →
    let off := max own med - min own med
    (max 8 (med * before.cmd.setup.tolPpm / 1000000) < off →
      after.xc.suspect = true ∧ after.xc.streak = 0 ∧
      (before.xc.suspect = false → hasNotice after.cmd.notices .refSuspect = true ∧
        after.run = { before.run with run := before.run.run.map fun x => { x with void := true } }) ∧
      (before.xc.suspect = true → after.run = before.run)) ∧
    (off ≤ max 8 (med * before.cmd.setup.tolPpm / 1000000) → before.xc.streak ≤ 3 →
      after.run = before.run ∧
      (before.xc.suspect = false → after.xc.suspect = false ∧ after.xc.streak = min 3 (before.xc.streak + 1)) ∧
      (before.xc.suspect = true → before.xc.streak < 2 →
        after.xc.suspect = true ∧ after.xc.streak = before.xc.streak + 1) ∧
      (before.xc.suspect = true → before.xc.streak = 2 → after.xc.suspect = false ∧ after.xc.streak = 3 ∧
        hasNotice after.cmd.notices .refSuspect = false))

/-- The rounding of R28: `e` is the whole number nearest to `x / y`, a half away from zero. -/
abbrev RoundsTo (x : Int) (y : Nat) (e : Int) : Prop :=
  2 * (x - e * y).natAbs ≤ y ∧ (2 * (x - e * y).natAbs = y → x.natAbs < (e * y).natAbs)

/-! ### Frames of the station -/

/-- The numeric fields of the given widths in bytes that stand one after the other from the front of a payload, most
significant byte first (R148, R151). -/
def fieldsOf : List Nat → List Byte → List Nat
  | [], _ => []
  | w :: ws, bs => beNat (bs.take w) :: fieldsOf ws (bs.drop w)

/-- A part of a DETAIL series in progress (R167). -/
abbrev LivePart (m : TxMsg) : Prop := (match m with | .detail _ _ _ live => live | _ => false) = true

/-! ### What every state keeps -/

/-- The number of queued frames of a kind. -/
def queuedOf (k : FrameKind) (q : List TxFrame) : Nat := q.countP fun f => f.msg.kind == k

/-- At most 8 frames, at most one STATUS and one NOTICE (R161, R162). -/
abbrev QueueBound (s : State) : Prop :=
  s.line.queue.length ≤ Config.queueCapacity ∧ queuedOf .status s.line.queue ≤ 1 ∧ queuedOf .notice s.line.queue ≤ 1

/-- At most 128 seal numbers, no two alike (R143). -/
abbrev SealLogBound (s : State) : Prop :=
  s.sealUnit.log.length ≤ Config.sealLogCapacity ∧ s.sealUnit.log.Nodup

/-- At most one claim for a station (R131). -/
abbrev OneClaimEach (s : State) : Prop := (s.sealUnit.pressList.map Claim.station).Nodup

/-- One entry for a station, positions 1 to 60 alone, never the own number (R103). -/
abbrev RosterKeys (s : State) : Prop :=
  (s.roster.entries.map RosterEntry.station).Nodup ∧
    ∀ e ∈ s.roster.entries, 1 ≤ e.station ∧ e.station ≤ 60 ∧ e.station ≠ s.line.own

/-- At most 4 waiting markers, each without its next reference stamp (R14). -/
abbrev MarkersWait (s : State) : Prop :=
  s.trk.queue.length ≤ Config.markerCapacity ∧ ∀ m ∈ s.trk.queue, m.rNext = none

/-- PRESS-DRIVE is active only in PRESSING (R139). -/
abbrev DriveOnlyPressing (s : State) : Prop := s.sealUnit.pressDrive = true → s.meter.batch = .pressing

/-- While a run is open, the batch state is RUNNING (R93). -/
abbrev RunOnlyRunning (s : State) : Prop := s.run.run.isSome = true → s.meter.batch = .running

/-- A kept list of at most 16 entries (R60). -/
abbrev KeptBound (s : State) : Prop := ∀ x, s.run.run = some x → x.kept.length ≤ Config.keptCapacity

end Sys2Proof.Machine
end

