-- ==== Sys2Proof/WellFormed.lean ====
section
/-! DEFINITION. Which commands can come from the bench: the checks a term of `Instr` must pass. -/

namespace Sys2Proof

/-- A frame carries at most 16 payload bytes (R148). -/
def payloadFits (payload : List Byte) : Bool := payload.length ≤ 16

/-- A frame with a free length field carries exactly that many payload bytes (R148: the receiver takes the payload's
extent from the length field, whatever that field holds). -/
def lengthAgrees (length : BitVec 5) (payload : List Byte) : Bool := payload.length = length.toNat

/-- The reading word of a READING payload, 1 for AFTER (R151); absent in a payload too short to hold one. -/
def readingWord (payload : List Byte) : Option Byte := payload[1]?

/-- A character of SEAL-IN begins with a start bit, which is low (R129). -/
def startsLow (levels : BitVec 9) : Bool := !levels.getLsbD 0

/-- The well-formed commands. Row READING_AFTER is a READING whose word is AFTER, row READING_BEFORE any other READING
(log 22); the other frame rows ask only that the payload be one a frame can carry, SEAL_IN_CHARACTER a start bit. -/
def Instr.wellFormed : Instr → Bool
  | .powerOnReset | .pinReset | .resetEnd _ _ _ => true
  | .refRisingEdge | .mutRisingEdge | .mutFallingEdge | .widthTimerExpiry | .intervalTimerExpiry => true
  | .delayedGateEvaluation | .presentFall | .presentRise | .graceExpiry | .pointTimerExpiry => true
  | .loadSettled _ p | .loadChanging _ p | .loadOff _ p | .sync _ p | .tallyReceived _ p => payloadFits p
  | .joinReceived _ p _ | .statusReceived _ p | .progressReceived _ p | .pointResultReceived _ p => payloadFits p
  | .measurementReceived _ _ p | .claimReceived _ p _ | .releaseReceived _ p _ | .sealedReceived _ p => payloadFits p
  | .duplicateNumberFrame _ _ _ l p => lengthAgrees l p
  | .frameFiltered f => lengthAgrees f.length f.payload
  | .frameDiscard _ | .agingExpiry _ | .heartbeatExpiry | .listenTimerExpiry | .transmissionAttempt => true
  | .lostArbitration | .attemptSuccess _ | .attemptFailure _ | .lineOffEntry | .lineReturn => true
  | .sealInCharacter levels _ _ => startsLow levels
  | .sealInTimeout | .strokeDoneRise | .strokeTimerExpiry => true
  | .batchClockTick | .lampClockTick | .stuffingViolation | .lineIdle => true
  | .setup _ p | .setMeter _ p | .planPoint _ p | .planLimits _ p | .planClear _ p | .planHold _ p => payloadFits p
  | .planRelease _ p | .query _ p | .endBatch _ p | .retrySeal _ p | .clearNotices _ p => payloadFits p
  | .noticeMask _ p | .restart _ p => payloadFits p
  | .readingBefore _ p => payloadFits p && readingWord p != some 1
  | .readingAfter _ p => payloadFits p && readingWord p == some 1

end Sys2Proof
end

