-- ==== Sys2Proof/Certificates/Slice0/Obligations.lean ====
section
/-! DEFINITION. The statements for the provers, in the order of OBLIGATIONS.json. -/

open Sys2Proof Sys2Proof.Machine

/-! ### The step, the tick and the resets -/

/-- O1. A step runs the command at the front of the queue, with the queue's rest. The queue is the model's (log 29). -/
def Obligations.StepRunsFrontCommand : Prop :=
  ∀ (c : Instr) (s : State), step { s with pending := c :: s.pending } = exec c s

/-- O2. On an empty queue the stamp counter advances by one, a grace that the past tick stopped is forgotten (log 35),
everything else but the queue is unchanged, and the queue holds, each once, exactly the expiries whose timer stands at the
new stamp. In a command reset it holds the end of that reset, with straps and PRESENT as they stand and a line not in the
middle of a frame. That the tick is the step of an empty queue, that an expiry is queued, and the operands of that end are
the model's choice (logs 1, 3, 4). -/
def Obligations.IdleStationTicks : Prop :=
  ∀ s : State, s.pending = [] →
    (s.phase = .running → ∃ t, step s = .next t ∧
      t = { s with fe := { s.fe with now := s.fe.now + 1, stoppedGrace := none }, pending := t.pending } ∧
      t.pending.Nodup ∧
      (∀ i ∈ t.pending, i ∈ [Instr.intervalTimerExpiry, .widthTimerExpiry, .delayedGateEvaluation, .graceExpiry,
        .pointTimerExpiry, .listenTimerExpiry, .heartbeatExpiry, .agingExpiry s.pins.strokeDone, .sealInTimeout,
        .strokeTimerExpiry, .batchClockTick, .lampClockTick]) ∧
      (Instr.intervalTimerExpiry ∈ t.pending ↔ s.fe.intervalTimer = some (s.fe.now + 1)) ∧
      (Instr.widthTimerExpiry ∈ t.pending ↔
        ∃ x, s.fe.edge = some x ∧ x.t + BitVec.ofNat 48 x.width = s.fe.now + 1) ∧
      (Instr.delayedGateEvaluation ∈ t.pending ↔
        ∃ n m g b, s.ec = .gating n m g ∧ g.endMarker = some b ∧ b.t + 1 = s.fe.now + 1) ∧
      (Instr.graceExpiry ∈ t.pending ↔ ∃ a, s.fe.absenceTimer = some a ∧ a.expiry = s.fe.now + 1) ∧
      (Instr.pointTimerExpiry ∈ t.pending ↔ ∃ x, s.run.run = some x ∧ x.pointTimer = s.fe.now + 1) ∧
      (Instr.listenTimerExpiry ∈ t.pending ↔ s.line.listenTimer = some (s.fe.now + 1)) ∧
      (Instr.heartbeatExpiry ∈ t.pending ↔ s.line.heartbeat = some (s.fe.now + 1)) ∧
      (Instr.agingExpiry s.pins.strokeDone ∈ t.pending ↔ s.roster.agingTimer = s.fe.now + 1) ∧
      (Instr.sealInTimeout ∈ t.pending ↔ s.sealRx.timer = some (s.fe.now + 1)) ∧
      (Instr.strokeTimerExpiry ∈ t.pending ↔ s.sealUnit.strokeTimer = some (s.fe.now + 1)) ∧
      (Instr.batchClockTick ∈ t.pending ↔ ∃ c, s.meter.clock = some c ∧ c.nextAt = s.fe.now + 1) ∧
      (Instr.lampClockTick ∈ t.pending ↔ s.lamp.toggleAt = s.fe.now + 1)) ∧
    (s.phase = .command → step s = .next { s with
      fe := { s.fe with now := s.fe.now + 1, stoppedGrace := none }
      pending := [.resetEnd s.pins.straps s.pins.present false] })

/-- O3. While a reset lasts, every command but the resets and the end of a reset leaves all but the levels of the pins.
The reading that a level still changes is the model's (log 16). -/
def Obligations.HeldStationTakesPinsOnly : Prop :=
  ∀ (i : Instr) (s : State), s.phase ≠ .running → i ≠ .powerOnReset → i ≠ .pinReset →
    (∀ straps present midFrame, i ≠ .resetEnd straps present midFrame) →
    ∃ t, exec i s = .next t ∧ t = { s with pins := t.pins } ∧ t.pins.straps = s.pins.straps

/-- O4. POWER_ON_RESET and PIN_RESET hold the station with PRESS-DRIVE inactive and nothing driven on the line; the stamp
counter stands still while either lasts. That they change nothing else until the reset ends, and that a PIN_RESET during a
power-on reset changes nothing, is the model's choice (log 16). -/
def Obligations.ResetTakesHold : Prop :=
  ∀ s : State,
    exec .powerOnReset s = .next { s with
      phase := .powerOn
      sealUnit := { s.sealUnit with pressDrive := false }
      line := { s.line with drive := .nothing } } ∧
    (s.phase ≠ .powerOn → exec .pinReset s = .next { s with
      phase := .pin
      sealUnit := { s.sealUnit with pressDrive := false }
      line := { s.line with drive := .nothing } }) ∧
    (s.phase = .powerOn → exec .pinReset s = .next s) ∧
    (s.phase = .powerOn ∨ s.phase = .pin → s.pending = [] → step s = .next s)

/-- O5. The end of a reset: every block takes its reset state, its timers with it, the straps are read, PRESENT is
sampled; with PRESENT low the absence timer runs from stamp 0 and SCANNER_ABSENT is pending, with its NOTICE under the
mask; a command reset keeps the setup values, the notice mask and the seal log, the others return them to their defaults.
That the blocks take these states at the end of the reset, and that outside a reset the row changes nothing, is the
model's choice (log 16), as is the line taken for idle unless it is in the middle of a frame (log 9). -/
def Obligations.ResetEndRestores : Prop :=
  ∀ (straps : BitVec 6) (present midFrame : Bool) (s : State),
    (s.phase = .running → exec (.resetEnd straps present midFrame) s = .next s) ∧
    (s.phase ≠ .running →
    ∃ t, exec (.resetEnd straps present midFrame) s = .next t ∧ t.phase = .running ∧
      t.pins = { s.pins with straps := straps, present := present } ∧ t.pending = s.pending ∧
      t.fe.now = 0 ∧ t.fe.edge = none ∧ t.fe.lastQualified = none ∧ t.fe.intervalTimer = none ∧
      t.fe.absent = !present ∧ t.fe.stoppedGrace = none ∧ (present = true → t.fe.absenceTimer = none) ∧
      (present = false → t.fe.absenceTimer = if t.cmd.setup.scannerGrace = 0 then none
        else some ⟨0, BitVec.ofNat 48 (t.cmd.setup.scannerGrace * 100000000)⟩) ∧
      t.trk = ⟨0, none, false, []⟩ ∧ t.ec = .idle ∧
      (∀ p < 32, slotGet t.plan.staged p = none ∧ slotGet t.plan.active p = none ∧ markGet t.plan.marks p = .clean) ∧
      t.plan.hold = false ∧ t.plan.cutOff = false ∧ t.plan.loadOff = true ∧
      t.run.run = none ∧ t.run.standing = .none ∧ (∀ p < 32, slotGet t.run.slots p = none) ∧
      t.meter.identity = none ∧ t.meter.constant = none ∧ t.meter.batch = .idle ∧ t.meter.verdict = none ∧
      (∀ p < 32, slotGet t.meter.records p = none) ∧ t.meter.held = none ∧ t.meter.sealRecord = none ∧
      t.meter.clock = none ∧ t.lamp = ⟨true, 25000000#48⟩ ∧
      t.roster = ⟨[], BitVec.ofNat 48 (t.cmd.setup.agingPeriod * 100000000)⟩ ∧ t.xc = ⟨none, none, none, 0, false⟩ ∧
      t.sealUnit.pressList = [] ∧ t.sealUnit.claimNumber = 0 ∧ t.sealUnit.current = none ∧ t.sealUnit.owed = none ∧
      t.sealUnit.strokeTimer = none ∧ t.sealUnit.pressDrive = false ∧
      t.sealRx = ⟨[], false, none, false⟩ ∧
      t.line = ⟨.listening, straps.toNat,
        (if present = false ∧ hasNotice t.cmd.mask .scannerAbsent = true then
          [⟨.notice Notice.scannerAbsent.single, 0, 0, false⟩] else []),
        false, none, 0, 0, (if 1 ≤ straps.toNat ∧ straps.toNat ≤ 60 then some 100000000#48 else none), none, midFrame,
        !midFrame, .nothing, (if s.phase = .command then .command else if s.phase = .pin then .pin else .power)⟩ ∧
      t.cmd.series = none ∧ t.cmd.notices = (if present then 0 else Notice.scannerAbsent.single) ∧
      (s.phase = .command → t.cmd.setup = s.cmd.setup ∧ t.cmd.mask = s.cmd.mask ∧ t.sealUnit.log = s.sealUnit.log) ∧
      (s.phase ≠ .command → t.cmd.setup = Setup.default ∧ t.cmd.mask = BitVec.allOnes 10 ∧ t.sealUnit.log = []))

/-- O6. The values the manual gives for the end of a power-on reset, at `State.reset`. The levels of the input pins
there are the model's choice (log 3) and are not stated. -/
def Obligations.ResetStateValues : Prop :=
  let s := State.reset
  s.fe.now = 0 ∧ s.trk = ⟨0, none, false, []⟩ ∧ s.ec = .idle ∧ s.plan.loadOff = true ∧ s.plan.hold = false ∧
  s.plan.cutOff = false ∧ s.run.run = none ∧ s.run.standing = .none ∧ s.meter.batch = .idle ∧ s.meter.verdict = none ∧
  s.meter.held = none ∧ s.meter.clock = none ∧ s.roster.entries = [] ∧ s.roster.agingTimer = 400000000#48 ∧
  s.xc = ⟨none, none, none, 0, false⟩ ∧ s.sealUnit.pressList = [] ∧ s.sealUnit.claimNumber = 0 ∧
  s.sealUnit.log = [] ∧ s.sealUnit.pressDrive = false ∧ s.sealRx.buffer = [] ∧ s.line.state = .listening ∧
  s.line.queue = [] ∧ s.line.faultTally = 0 ∧ s.line.goodFrames = 0 ∧ s.line.listenTimer = some 100000000#48 ∧
  s.line.heartbeat = none ∧ s.cmd.setup = ⟨1000000000, 4, 2, 3, 5, 5, 20, 50, true⟩ ∧ s.cmd.notices = 0 ∧
  s.cmd.mask = BitVec.allOnes 10 ∧ s.cmd.series = none ∧ s.pending = []

/-- O7. What O57 to O60 say every step keeps holds at `State.reset`. -/
def Obligations.ResetKeepsBounds : Prop :=
  QueueBound State.reset ∧ SealLogBound State.reset ∧ OneClaimEach State.reset ∧ DriveOnlyPressing State.reset ∧
  RosterKeys State.reset ∧ MarkersWait State.reset ∧ RunOnlyRunning State.reset ∧ KeptBound State.reset

/-! ### Pulse front end and reference tracker -/

/-- O8. A reference edge 40 ticks or more after the last counted one, or the first one, is counted: the count advances,
the last reference stamp is the edge's, a pending snapshot of an earlier rise without its next reference stamp takes it,
a start marker likewise, and of the waiting markers only those of this very tick stay. A closer edge is not counted: it
sets the REF overrate flag and raises INPUT_OVERRATE. -/
def Obligations.RefEdgeCountedOrRefused : Prop :=
  ∀ s : State, s.phase = .running →
    ((∀ l, s.trk.last = some l → 40 ≤ elapsed s.fe.now l) →
      ∃ t, exec .refRisingEdge s = .next t ∧
        t = { s with trk := t.trk, fe := { s.fe with edge := t.fe.edge }, ec := t.ec } ∧
        t.trk.count = s.trk.count + 1 ∧ t.trk.last = some s.fe.now ∧ t.trk.overrate = s.trk.overrate ∧
        (MarkersWait s → t.trk.queue =
          (s.trk.queue.filter fun m => m.t == s.fe.now).map fun m => { m with c := m.c + 1, rPrev := some s.fe.now }) ∧
        (∀ x, s.fe.edge = some x → x.t = s.fe.now →
          t.fe.edge = some { x with snap := { x.snap with c := x.snap.c + 1, rPrev := some s.fe.now } }) ∧
        (∀ x, s.fe.edge = some x → x.t ≠ s.fe.now → x.snap.rNext = none →
          t.fe.edge = some { x with snap := { x.snap with rNext := some s.fe.now } }) ∧
        (∀ x r, s.fe.edge = some x → x.t ≠ s.fe.now → x.snap.rNext = some r → t.fe.edge = some x) ∧
        (s.fe.edge = none → t.fe.edge = none) ∧
        (∀ n m k o a, s.ec = .gating n m ⟨a, k, o, none⟩ → a.t ≠ s.fe.now → a.rNext = none →
          t.ec = .gating n m ⟨{ a with rNext := some s.fe.now }, k, o, none⟩)) ∧
    (∀ l, s.trk.last = some l → elapsed s.fe.now l < 40 →
      ∃ t, exec .refRisingEdge s = .next t ∧ t.trk = { s.trk with overrate := true } ∧ t.fe = s.fe ∧ t.ec = s.ec ∧
        t.run = s.run ∧ t.plan = s.plan ∧ t.roster = s.roster ∧ t.xc = s.xc ∧ t.sealRx = s.sealRx ∧
        t.cmd.setup = s.cmd.setup ∧ hasNotice t.cmd.notices .inputOverrate = true)

/-- O9. A rising edge on MUT: ignored with PRESENT low or a failed interval test, else pending with its snapshot where
the minimum width is above 0. The interval test passes from exactly the minimum interval after the last qualified edge
on, and fails below it. A fall of MUT before the minimum width drops the pending edge, and a fall with no edge pending
has no effect but on the level. -/
def Obligations.PendingEdgeMadeAndDropped : Prop :=
  ∀ s : State, s.phase = .running →
    (s.pins.present = false ∨ intervalPassed s = false →
      exec .mutRisingEdge s = .next { s with pins := { s.pins with mutHigh := true } }) ∧
    (s.pins.present = true → intervalPassed s = true → s.cmd.setup.mutWidth ≠ 0 →
      exec .mutRisingEdge s = .next { s with
        pins := { s.pins with mutHigh := true }
        fe := { s.fe with edge := some ⟨s.fe.now, s.cmd.setup.mutWidth * 1000, s.cmd.setup.mutInterval * 1000,
          ⟨s.trk.count, s.trk.last, none⟩⟩ } }) ∧
    (s.fe.intervalTimer = none ∨ s.fe.lastQualified = none → intervalPassed s = true) ∧
    (∀ (q : Stamp) (m : Nat), s.fe.lastQualified = some q → m < 2 ^ 48 →
      s.fe.intervalTimer = some (q + BitVec.ofNat 48 m) → (intervalPassed s = true ↔ m ≤ (s.fe.now - q).toNat)) ∧
    (s.fe.edge = none →
      exec .mutFallingEdge s = .next { s with pins := { s.pins with mutHigh := false } }) ∧
    (∀ x, s.fe.edge = some x → elapsed s.fe.now x.t < x.width →
      exec .mutFallingEdge s = .next { s with
        pins := { s.pins with mutHigh := false }
        fe := { s.fe with edge := none } })

/-- O10. A fall after the minimum width, the end of the width timer with MUT high, and a rise under a minimum width of 0
qualify the edge: the last qualified stamp is its rise, the interval timer is set from it, the REF overrate flag passes
into the marker and clears. A marker without its next reference stamp enters the marker queue, and a full queue loses its
oldest marker and voids the gate; that the newer markers stay is the model's reading (log 8). An armed error computer
starts a gate at the marker, a gating one counts it and its overrate mark, and takes the N-th as end marker, which waits
where it forms on its own stamp and is evaluated where it forms later (with the result of O13: the next gate starts at it,
unless the result closes the run); a marker after a waiting end marker is left out (log 11). A WIDTH_TIMER_EXPIRY with no edge at its width, or with MUT low, changes nothing, the model's choice (log 2). -/
def Obligations.QualifiedEdgeFormsMarker : Prop :=
  (∀ (i : Instr) (x : PendingEdge) (s : State), s.phase = .running → QualifiesBy i x s →
    let m : Marker := ⟨x.t, x.snap.c, x.snap.rPrev, x.snap.rNext, s.trk.overrate⟩
    let full := x.snap.rNext = none ∧ 4 ≤ s.trk.queue.length
    let queue := if x.snap.rNext.isSome then s.trk.queue
      else if 4 ≤ s.trk.queue.length then s.trk.queue.drop 1 ++ [m] else s.trk.queue ++ [m]
    ∃ t, exec i s = .next t ∧ t.fe.edge = none ∧ t.fe.lastQualified = some x.t ∧
      t.fe.intervalTimer =
        (if x.interval ≤ elapsed s.fe.now x.t then none else some (x.t + BitVec.ofNat 48 x.interval)) ∧
      t.trk.overrate = false ∧ t.trk.count = s.trk.count ∧ t.trk.last = s.trk.last ∧
      t.plan = s.plan ∧ t.roster = s.roster ∧ t.xc = s.xc ∧ t.sealRx = s.sealRx ∧
      (s.run.run = none → t = { s with pins := t.pins, fe := t.fe, trk := t.trk, ec := t.ec }) ∧
      (s.ec = .idle → t.ec = .idle ∧ t.trk.queue = queue) ∧
      (∀ n r, s.ec = .armed n r → t.ec = .gating n r ⟨m, 0, false, none⟩ ∧ t.trk.queue = queue) ∧
      ∀ n r g, s.ec = .gating n r g →
        (full → t.ec = .gating n r ⟨m, 0, false, none⟩ ∧ t.trk.queue = queue) ∧
        (¬ full → g.endMarker.isSome = true → t.ec = s.ec ∧ t.trk.queue = queue) ∧
        (¬ full → g.endMarker = none → g.k + 1 < n →
          t.ec = .gating n r ⟨g.a, g.k + 1, g.overrate || s.trk.overrate, none⟩ ∧ t.trk.queue = queue) ∧
        (¬ full → g.endMarker = none → n ≤ g.k + 1 → x.t = s.fe.now →
          t.ec = .gating n r ⟨g.a, g.k + 1, g.overrate || s.trk.overrate, some m⟩ ∧ t.trk.queue = queue) ∧
        (¬ full → g.endMarker = none → n ≤ g.k + 1 → x.t ≠ s.fe.now → s.run.run = none →
          t.ec = .gating n r ⟨m, 0, false, none⟩ ∧ t.trk.queue = queue) ∧
        (¬ full → g.endMarker = none → n ≤ g.k + 1 → x.t ≠ s.fe.now →
          (t.ec = .gating n r ⟨m, 0, false, none⟩ ∧ t.trk.queue = queue) ∨
          ∃ y, s.run.run = some y ∧ y.kind = .accuracy ∧ t.run.run = none ∧ t.run.standing = .closed y.p y.r ∧
            t.ec = .idle ∧ t.trk.queue = [])) ∧
  ∀ s : State, s.phase = .running →
    (∀ x, s.fe.edge = some x → x.t + BitVec.ofNat 48 x.width ≠ s.fe.now ∨ s.pins.mutHigh = false) →
    exec .widthTimerExpiry s = .next s

/-- O11. The end of the interval timer stops it; a second of the batch clock adds one, up to its largest value; half a
period of the lamp clock turns its half; LINE_IDLE makes the line idle, which ends the wait for it and whatever the
station drove as a receiver. Nothing else changes. That a row whose timer does not expire at the present stamp, or whose
clock is stopped, changes nothing is the model's choice (log 2). -/
def Obligations.TimersOfNoOtherEffect : Prop :=
  ∀ s : State, s.phase = .running →
    (s.fe.intervalTimer = some s.fe.now →
      exec .intervalTimerExpiry s = .next { s with fe := { s.fe with intervalTimer := none } }) ∧
    (s.fe.intervalTimer ≠ some s.fe.now → exec .intervalTimerExpiry s = .next s) ∧
    (∀ n, s.meter.clock = some ⟨n, s.fe.now⟩ → exec .batchClockTick s = .next { s with meter := { s.meter with
      clock := some ⟨min 4294967295 (n + 1), s.fe.now + 100000000#48⟩ } }) ∧
    ((∀ n, s.meter.clock ≠ some ⟨n, s.fe.now⟩) → exec .batchClockTick s = .next s) ∧
    (s.lamp.toggleAt = s.fe.now →
      exec .lampClockTick s = .next { s with lamp := ⟨!s.lamp.lit, s.fe.now + 25000000#48⟩ }) ∧
    (s.lamp.toggleAt ≠ s.fe.now → exec .lampClockTick s = .next s) ∧
    exec .lineIdle s = .next { s with line := { s.line with awaitingIdle := false, idle := true, drive := .nothing } }

/-- O12. A fall of PRESENT sets the scanner-absent condition and its notice, drops the pending edge, clears the
qualification state, discards the gate in progress, and starts the absence timer, or closes an open run at once under a
grace of 0; a rise clears condition, notice and timer, and a timer that expires on this very tick is held for an edge of
the tick that decides the open run, the model's bookkeeping (log 35, stated at O18). A fall while PRESENT is low and a rise while it is high change
nothing. -/
def Obligations.PresenceIsFollowed : Prop :=
  ∀ s : State, s.phase = .running →
    (s.pins.present = true →
      ∃ t, exec .presentFall s = .next t ∧ t.pins = { s.pins with present := false } ∧
        t.fe = ⟨s.fe.now, none, none, none, true,
          if s.cmd.setup.scannerGrace = 0 then none
          else some ⟨s.fe.now, s.fe.now + BitVec.ofNat 48 (s.cmd.setup.scannerGrace * 100000000)⟩, none⟩ ∧
        hasNotice t.cmd.notices .scannerAbsent = true ∧ t.trk.count = s.trk.count ∧ t.trk.last = s.trk.last ∧
        (s.ec ≠ .idle → t.trk.queue = []) ∧
        (s.cmd.setup.scannerGrace ≠ 0 → t.run = s.run ∧ ∀ n m g, s.ec = .gating n m g → t.ec = .armed n m) ∧
        (s.cmd.setup.scannerGrace = 0 → t.run.run = none)) ∧
    (s.pins.present = false →
      exec .presentFall s = .next s ∧
      exec .presentRise s = .next { s with
        pins := { s.pins with present := true }
        fe := { s.fe with
          absent := false
          absenceTimer := none
          stoppedGrace := s.fe.absenceTimer.filter fun a => a.expiry == s.fe.now }
        cmd := { s.cmd with notices := withoutNotice s.cmd.notices .scannerAbsent } }) ∧
    (s.pins.present = true → exec .presentRise s = .next s)

/-! ### Gates and point runs -/

/-- O13. A gate is evaluated as its end marker forms, where it forms later than its own stamp, within the command that
qualifies its edge, and else one tick after its stamp; the end marker starts the next gate. Its result is discarded with
no run open and by a window or register run, counts down a SKIPPING run, and is kept, numbered and counted by a MEASURING
or SETTLED run. A kept result is offered to the stream, if that is on: queued with fewer than six frames in the queue,
else a stream drop. Then the settlement test: S entries at least, the latest S all VALID, their spread within the limit.
A MEASURING run that settles reports SETTLED and closes by completion when no peer is pending; a SETTLED run that
unsettles reports MEASURING. (What the qualified edge does besides, to pins, front end and tracker, is stated at O10, and
to a window run at O18.) That an evaluation not due at the present stamp changes nothing is the model's choice (log 2). -/
def Obligations.GateEvaluated : Prop :=
  (∀ s : State, s.phase = .running → (∀ n m a k o b, s.ec ≠ .gating n m ⟨a, k, o, some b⟩ ∨ b.t + 1 ≠ s.fe.now) →
    exec .delayedGateEvaluation s = .next s) ∧
  ∀ (i : Instr) (n m : Nat) (a b : Marker) (o : Bool) (s : State), s.phase = .running → EvaluatesGate i n m a b o s →
    let leaves (u : State) : Prop := ∃ t, exec i s = .next t ∧ t = { u with pins := t.pins, fe := t.fe, trk := t.trk } ∧
      (i = .delayedGateEvaluation → t = u)
    let next : ErrorComputer := .gating n m ⟨b, 0, false, none⟩
    (s.run.run = none → leaves { s with ec := next }) ∧
    (∀ x, s.run.run = some x → x.kind ≠ .accuracy →
      (i = .delayedGateEvaluation ∨ x.state ≠ .counting → leaves { s with ec := next }) ∧
      ∃ t, exec i s = .next t ∧ t.ec = next) ∧
    (∀ x, s.run.run = some x → x.kind = .accuracy → x.state = .skipping →
      leaves { s with
        ec := next
        run := { s.run with run := some { x with
          skip := x.skip - 1, state := if x.skip ≤ 1 then .measuring else .skipping } } }) ∧
    ∀ x nn st kk mr lim cMut, s.run.run = some x → x.entry.point = .accuracy nn st kk mr lim →
      x.state = .measuring ∨ x.state = .settled → s.meter.constant = some cMut →
      let q := gateResult n m s.cmd.setup.cRef cMut s.xc.suspect o a b
      let seq := if x.lastSeq = 65535 then 1 else x.lastSeq + 1
      let declined := s.cmd.setup.streaming = true ∧ 6 ≤ s.line.queue.length
      let y : Run := { x with
        lastSeq := seq
        kept := (x.kept ++ [KeptEntry.mk seq q.status q.error]).drop (x.kept.length + 1 - 16)
        completed := min 65535 (x.completed + 1)
        streamDrops := if declined then min 65535 (x.streamDrops + 1) else x.streamDrops }
      let queue : List TxFrame := s.line.queue ++
        if s.cmd.setup.streaming = true ∧ s.line.queue.length < 6 then
          [⟨.measurement x.p x.r seq q.status q.error, s.fe.now, 0, false⟩] else []
      let last := y.kept.drop (y.kept.length - st)
      let settles := st ≤ y.kept.length ∧ (∀ e ∈ last, e.status = .valid) ∧
        ∀ l, x.entry.limits = some l → ∀ u ∈ last.filterMap KeptEntry.error, ∀ v ∈ last.filterMap KeptEntry.error,
          u - v ≤ (l.spread : Int)
      let after (z : Run) (frames : List TxFrame) : State := { s with
        ec := next
        run := { s.run with run := some z }
        line := { s.line with queue := frames } }
      ((x.state = .settled ↔ settles) → leaves (after y queue)) ∧
      (x.state = .settled → ¬ settles → s.line.queue.length < 8 →
        leaves (after { y with state := .measuring, progress := .measuring }
          (queue ++ [⟨.progress x.p x.r .measuring s.meter.batch, s.fe.now, 0, false⟩]))) ∧
      (x.state = .measuring → settles → PeerPending x.p x.r s → s.line.queue.length < 8 →
        leaves (after { y with state := .settled, progress := .settled }
          (queue ++ [⟨.progress x.p x.r .settled s.meter.batch, s.fe.now, 0, false⟩]))) ∧
      (x.state = .measuring → settles → ¬ PeerPending x.p x.r s → x.p < 32 →
        ∃ t, exec i s = .next t ∧ t.run.run = none ∧ t.run.standing = .closed x.p x.r ∧
          t.ec = .idle ∧ slotGet t.meter.records x.p = some (closeRecord .completion s.pins.present s.trk.count
            { y with state := .settled, progress := .settled }))

/-- O14. The error of a gate is the exact quotient of R27 rounded once to the nearest whole number, a half away from
zero: it is 0 or has the numerator's sign. -/
def Obligations.ErrorRoundedOnce : Prop :=
  ∀ n cRef cMut mi ref gate : Nat, 1 ≤ cMut → 2 ≤ mi → 1 ≤ gate →
    let X : Int := (n : Int) * cRef * ref - (cMut : Int) * ((mi : Int) - 1) * gate
    let Y : Int := (cMut : Int) * ((mi : Int) - 1) * gate
    let e := gateError n cRef cMut mi ref gate
    0 < Y ∧ 2 * (10 ^ 6 * X - e * Y).natAbs ≤ Y.natAbs ∧
      (2 * (10 ^ 6 * X - e * Y).natAbs = Y.natAbs → (10 ^ 6 * X).natAbs < (e * Y).natAbs) ∧
      (e = 0 ∨ e.sign = X.sign)

/-- O15. The result of a gate is the first row of Table 2.2 that holds: GATE_LONG above 2^40 ticks, OVERRATE with the gate
overrate flag, NO_REFERENCE below two counts or without the start marker's next reference stamp, all without a value;
else the error of R27, rounded, CLAMPED to ±999,999 outside that range, else SUSPECT under the condition, COARSE below the
minimum reference count, or VALID. The register result is NO_REFERENCE at m_reg 0, else X / m_reg rounded once, half away
from zero, CLAMPED outside the range and VALID in it. -/
def Obligations.GateAndRegisterResults : Prop :=
  let stated (e : Int) (status : GateStatus) : GateResult :=
    if e < -999999 then ⟨.clamped, some (-999999)⟩ else if 999999 < e then ⟨.clamped, some 999999⟩ else ⟨status, some e⟩
  (∀ (n minRef cRef cMut : Nat) (suspect overrate : Bool) (a b : Marker),
    let gate := (b.t - a.t).toNat
    let m := (b.c - a.c).toNat
    let res := gateResult n minRef cRef cMut suspect overrate a b
    (2 ^ 40 < gate → res = ⟨.gateLong, none⟩) ∧
    (gate ≤ 2 ^ 40 → overrate = true → res = ⟨.overrate, none⟩) ∧
    (gate ≤ 2 ^ 40 → overrate = false → m < 2 ∨ a.rNext = none → res = ⟨.noReference, none⟩) ∧
    (∀ x y, gate ≤ 2 ^ 40 → overrate = false → 2 ≤ m → a.rNext = some x → b.rPrev = some y → 1 ≤ cMut → 1 ≤ gate →
      let X : Int := (n : Int) * cRef * (y - x).toNat - (cMut : Int) * ((m : Int) - 1) * gate
      ∃ e : Int, RoundsTo (10 ^ 6 * X) (cMut * (m - 1) * gate) e ∧
        res = stated e (if suspect then .suspect else if m < minRef then .coarse else .valid))) ∧
  ∀ cRef before after mReg : Nat,
    (mReg = 0 → registerResult cRef before after mReg = ⟨.noReference, none⟩) ∧
    (mReg ≠ 0 → ∃ e : Int, RoundsTo (((after : Int) - before) * cRef - 10 ^ 6 * mReg) mReg e ∧
      registerResult cRef before after mReg = stated e .valid)

/-- O16. The record of a close. ACCURACY, by the first row that holds: VOID; INCOMPLETE by the scanner; settled, PASS
inside the limits, both included, FAIL outside, INFO without limits, with the mean and the spread of the latest S kept
values; UNSETTLED at S results or more; INCOMPLETE by time or force; the last two and the scanner's with the mean of the
VALID kept values. So a run passes only when settled and within its limits. A window run: the decided outcome, with
limits, else INFO; undecided at its window end with PRESENT high the outcome of the expiry; else INCOMPLETE. A register
run: INCOMPLETE without a BEFORE or by the scanner, else PENDING. A record is never stale when written. A mean is absent
for no values, else their sum over their number rounded once, half away from zero, and lies in the range of values that
do. -/
def Obligations.CloseRecordFollowsTables : Prop :=
  (∀ (c : CloseCause) (present : Bool) (count : Stamp) (x : Run),
    let y := closeRecord c present count x
    let reads (verdict : Verdict) (cause : Option Cause) (value : Option Int) (spread : Option Nat) : Prop :=
      y.verdict = verdict ∧ y.cause = cause ∧ y.value = value ∧ y.spread = spread
    y.p = x.p ∧ y.r = x.r ∧ y.kind = x.kind ∧ y.stale = false ∧
    (∀ n st k m lim, x.entry.point = .accuracy n st k m lim →
      let valid := mean (x.kept.filterMap fun e => if e.status = .valid then e.error else none)
      let es := (x.kept.drop (x.kept.length - st)).filterMap KeptEntry.error
      y.completed = x.completed ∧ y.streamDrops = x.streamDrops ∧ y.body = .accuracy x.kept ∧
      (x.void = true → reads .void none none none) ∧
      (x.void = false → c = .scanner → reads .incomplete (some .scanner) valid none) ∧
      (x.void = false → c ≠ .scanner →
        (x.state = .settled → es ≠ [] → ∃ (v : Int) (d : Nat), mean es = some v ∧
          (∃ u ∈ es, ∃ w ∈ es, (d : Int) = u - w) ∧ (∀ u ∈ es, ∀ w ∈ es, u - w ≤ (d : Int)) ∧
          (x.entry.limits = none → reads .info none (some v) (some d)) ∧
          ∀ l, x.entry.limits = some l →
            reads (if l.lower ≤ v ∧ v ≤ l.upper then .pass else .fail) none (some v) (some d)) ∧
        (x.state ≠ .settled → st ≤ x.completed → reads .unsettled none valid none) ∧
        (x.state ≠ .settled → x.completed < st →
          (c = .time → reads .incomplete (some .time) valid none) ∧
          (c = .forced → reads .incomplete (some .forced) valid none)))) ∧
    (x.kind = .accuracy → latestErrors x ≠ [] → y.verdict = .pass →
      x.state = .settled ∧ x.void = false ∧ c ≠ .scanner ∧
        ∃ l v, x.entry.limits = some l ∧ y.value = some v ∧ l.lower ≤ v ∧ v ≤ l.upper) ∧
    (x.kind = .creep ∨ x.kind = .start →
      y.completed = x.pulses ∧ y.streamDrops = 0 ∧ y.body = .window x.pulses x.firstOffset ∧
      (∀ o, x.decided = some o ∨ (x.decided = none ∧ c = .time ∧ present = true ∧ o = decide (x.kind = .creep)) →
        reads (if x.entry.limits.isSome then (if o then .pass else .fail) else .info) none none none) ∧
      (x.decided = none → c = .scanner ∨ (c = .time ∧ present = false) → reads .incomplete (some .scanner) none none) ∧
      (x.decided = none → c = .forced → reads .incomplete (some .forced) none none) ∧
      (y.verdict = .pass ↔ x.entry.limits.isSome = true ∧ (x.decided = some true ∨
        (x.decided = none ∧ c = .time ∧ present = true ∧ x.kind = .creep)))) ∧
    (x.kind = .register →
      y.completed = 0 ∧ y.streamDrops = 0 ∧
      y.body = .register x.before none (count - x.openCount).toNat x.entry.limits x.void none ∧
      (x.before = none → reads .incomplete (some .noReading) none none) ∧
      (x.before ≠ none → c = .scanner → reads .incomplete (some .scanner) none none) ∧
      (x.before ≠ none → c ≠ .scanner → reads .pending none none none))) ∧
  mean [] = none ∧
  ∀ xs : List Int, xs ≠ [] → ∃ v, mean xs = some v ∧ RoundsTo xs.sum xs.length v ∧
    ((∀ x ∈ xs, -999999 ≤ x ∧ x ≤ 999999) → -999999 ≤ v ∧ v ≤ 999999)

/-- O17. The point timer, the end of the grace, LOAD_CHANGING, LOAD_OFF and a fall of PRESENT under a grace of 0 close an
open run: no run is open, its index holds the record of the close, and the standing is CLOSED; an ACCURACY run's error
computer is disarmed and the marker queue emptied. PROGRESS WITHDRAWN at a close by the scanner and then POINT-RESULT are
queued, and a DETAIL series of the index is superseded. With no number held verdict and batch state are evaluated; a held
number is checked when the evaluation moves into AWAIT_SEAL. LOAD_SETTLED over an open run writes the record of the forced close as well, before it opens or
declines. A copy that LOAD_OFF or LOAD_SETTLED makes afterwards may mark the record stale. With no run open the point
timer and the end of the grace leave the point runner and the records; that a timer row not due at the present stamp
changes nothing, but for a stopped grace, which GRACE_EXPIRY uses up, is the model's choice (logs 2, 35). -/
def Obligations.EveryCloseWritesRecord : Prop :=
  (∀ (i : Instr) (c : CloseCause) (x : Run) (s : State), s.phase = .running → s.run.run = some x → x.p < 32 →
    ((i = .pointTimerExpiry ∧ c = .time ∧ x.pointTimer = s.fe.now) ∨
      (i = .graceExpiry ∧ c = .scanner ∧ s.fe.absenceTimer.map AbsenceTimer.expiry = some s.fe.now) ∨
      (i = .presentFall ∧ c = .scanner ∧ s.pins.present = true ∧ s.cmd.setup.scannerGrace = 0) ∨
      (∃ h b, Hears s ∧ FromSource h ∧ i = .loadChanging h [b] ∧ c = .forced) ∨
      (∃ h, Hears s ∧ FromSource h ∧ i = .loadOff h [] ∧ c = .forced)) →
    let record := closeRecord c s.pins.present s.trk.count x
    ∃ t y, exec i s = .next t ∧ t.run.run = none ∧ t.run.standing = .closed x.p x.r ∧
      slotGet t.meter.records x.p = some y ∧ { y with stale := false } = record ∧
      (∀ p < 32, p ≠ x.p → (slotGet t.meter.records p).map (fun z => { z with stale := false }) =
        (slotGet s.meter.records p).map (fun z => { z with stale := false })) ∧
      t.run.slots = s.run.slots ∧ t.trk.count = s.trk.count ∧ t.roster = s.roster ∧ t.xc = s.xc ∧
      t.cmd.setup = s.cmd.setup ∧
      (x.kind = .accuracy → s.ec ≠ .idle → t.ec = .idle ∧ t.trk.queue = []) ∧
      (x.kind ≠ .accuracy → i ≠ .presentFall → t.ec = s.ec ∧ t.trk = s.trk) ∧
      (s.meter.held = none → s.line.queue.length ≤ 6 → i ≠ .presentFall → t.line.queue = s.line.queue ++
        (if c = .scanner then [⟨.progress x.p x.r .withdrawn .running, s.fe.now, 0, false⟩] else []) ++
        [⟨.pointResult x.p x.r record.verdict record.value record.spread record.completed, s.fe.now, 0, false⟩] ∧
        t.cmd.series = s.cmd.series.map fun q => if q.subject = .point x.p then { q with superseded := true } else q) ∧
      (s.meter.held = none → s.meter.batch = .running → t.sealUnit = s.sealUnit ∧
        ((∀ h, i ≠ .loadOff h []) → Evaluated t)) ∧
      (∀ number, s.meter.held = some number → s.meter.batch = .running → s.line.queue.length ≤ 5 →
        (i = .pointTimerExpiry ∨ i = .graceExpiry ∨ ∃ h b, i = .loadChanging h [b]) →
        (¬ (VerdictExists t ∧ AllPass t) → Evaluated t ∧ t.meter.held = some number ∧ t.sealUnit = s.sealUnit) ∧
        (VerdictExists t → AllPass t → t.meter.verdict = some .eligible ∧ SealChecked number s t))) ∧
  (∀ (h : Hdr) (p r : Byte) (x : Run) (s : State), Hears s → FromSource h → s.run.run = some x → x.p < 32 →
    s.pins.present = true ∨ p.toNat ≠ x.p →
    ∃ t y, exec (.loadSettled h [p, r]) s = .next t ∧ slotGet t.meter.records x.p = some y ∧
      { y with stale := false } = closeRecord .forced s.pins.present s.trk.count x) ∧
  ∀ s : State, s.phase = .running →
    ((∀ x, s.run.run = some x → x.pointTimer ≠ s.fe.now) → exec .pointTimerExpiry s = .next s) ∧
    ((∀ a, s.fe.absenceTimer = some a → a.expiry ≠ s.fe.now) →
      exec .graceExpiry s = .next { s with fe := { s.fe with stoppedGrace := none } }) ∧
    (∀ a, s.run.run = none → s.fe.absenceTimer = some a → a.expiry = s.fe.now →
      exec .graceExpiry s = .next { s with fe := { s.fe with absenceTimer := none, stoppedGrace := none } })

/-- O18. A qualified edge at or after the opening of a COUNTING run is counted, and the first one sets the offset; a
CREEP run above its allowed pulses is decided FAIL and a START run at its required pulses PASS, with PROGRESS SETTLED
queued; it closes by completion, or waits DECIDED while a peer is pending. A decided run counts no further edge. Two
stamps are compared by how long before now they lie, the model's choice (log 26). On the tick on which the head returns and
its grace expires, under a minimum width of 0: an edge that decides the run is taken after the rise; the expiry after it
closes the run by the scanner with the decided verdict, as R82 has it, or is not delivered, as R11 has it, which of the two
being a free value (log 35); an expiry taken before the rise closes it INCOMPLETE; one taken between rise and edge is not
delivered. -/
def Obligations.WindowRunDecides : Prop :=
  (∀ (i : Instr) (x : PendingEdge) (r : Run) (s : State), s.phase = .running → QualifiesBy i x s →
    s.run.run = some r →
    let report : List TxFrame := [⟨.progress r.p r.r .settled s.meter.batch, s.fe.now, 0, false⟩]
    (r.state = .decided → ∃ t, exec i s = .next t ∧ t.run = s.run) ∧
    (r.state = .counting → elapsed s.fe.now x.t < elapsed s.fe.now r.openStamp + 1 →
      let off := if r.firstOffset.isSome then r.firstOffset else some (elapsed x.t r.openStamp)
      let decided (o : Bool) : Run := { r with
        pulses := r.pulses + 1, firstOffset := off, state := .decided, decided := some o, progress := .settled }
      (∀ w a, r.entry.point = .creep w a → r.pulses + 1 ≤ a →
        ∃ t, exec i s = .next t ∧ t.run = { s.run with run := some { r with pulses := r.pulses + 1, firstOffset := off } }) ∧
      (∀ w q, r.entry.point = .start w q → r.pulses + 1 < q →
        ∃ t, exec i s = .next t ∧ t.run = { s.run with run := some { r with pulses := r.pulses + 1, firstOffset := off } }) ∧
      (∀ w n, (r.entry.point = .creep w n ∧ n < r.pulses + 1) ∨ (r.entry.point = .start w n ∧ n ≤ r.pulses + 1) →
        let o := r.kind == .start
        (PeerPending r.p r.r s → ∃ t, exec i s = .next t ∧ t.run = { s.run with run := some (decided o) } ∧
          (s.line.queue.length < 8 → t.line.queue = s.line.queue ++ report)) ∧
        (¬ PeerPending r.p r.r s → r.p < 32 → ∃ t y, exec i s = .next t ∧ t.run.run = none ∧
          t.run.standing = .closed r.p r.r ∧ slotGet t.meter.records r.p = some y ∧
          y = closeRecord .completion s.pins.present s.trk.count (decided o) ∧
          y.verdict = (if r.entry.limits.isSome then (if o then .pass else .fail) else .info)))) ∧
    (r.state = .counting → elapsed s.fe.now r.openStamp < elapsed s.fe.now x.t →
      ∃ t, exec i s = .next t ∧ t.run = s.run)) ∧
  ∀ (r : Run) (a : AbsenceTimer) (w n : Nat) (s : State), s.phase = .running → s.pins.present = false →
    s.fe.absenceTimer = some a → a.expiry = s.fe.now → s.cmd.setup.mutWidth = 0 → s.fe.lastQualified = none →
    s.run.run = some r → r.state = .counting → r.decided = none → r.p < 32 → PeerPending r.p r.r s →
    (r.entry.point = .creep w n ∧ n < r.pulses + 1) ∨ (r.entry.point = .start w n ∧ n ≤ r.pulses + 1) →
    ∃ rise, exec .presentRise s = .next rise ∧
      (∃ edge done y, exec .mutRisingEdge rise = .next edge ∧
        edge.run.run.map (fun z => (z.state, z.decided)) = some (.decided, some (r.kind == .start)) ∧
        y = closeRecord .scanner true s.trk.count { r with
          pulses := r.pulses + 1, state := .decided, decided := some (r.kind == .start), progress := .settled
          firstOffset := if r.firstOffset.isSome then r.firstOffset else some (elapsed s.fe.now r.openStamp) } ∧
        y.cause = none ∧
        y.verdict = (if r.entry.limits.isSome then (if r.kind == .start then .pass else .fail) else .info) ∧
        exec .graceExpiry edge = .next done ∧
        if Config.graceAfterDecision then
          done.run.run = none ∧ done.run.standing = .closed r.p r.r ∧ slotGet done.meter.records r.p = some y
        else done = edge) ∧
      (∃ done y, exec .graceExpiry s = .next done ∧ done.run.run = none ∧ slotGet done.meter.records r.p = some y ∧
        y.verdict = .incomplete ∧ y.cause = some .scanner) ∧
      ∃ spent edge, exec .graceExpiry rise = .next spent ∧ spent.run = s.run ∧
        exec .mutRisingEdge spent = .next edge ∧ exec .graceExpiry edge = .next edge

/-- O19. LOAD_SETTLED opens a run of a defined entry in LOADED, RUNNING, REJECTED and AWAIT_SEAL, with PRESENT high: the
batch state is RUNNING, the overall verdict absent, the run holds the fields of its opening, and an ACCURACY entry arms
the error computer. An entry that is DUE is opened as it was staged. A run open before it is closed by force first (with
no number held, so that no claim follows the close). With PRESENT low the run is closed at once by the scanner: its
record is INCOMPLETE or VOID, and no OPEN is queued, only WITHDRAWN and POINT-RESULT. -/
def Obligations.LoadSettledOpensRun : Prop :=
  ∀ (h : Hdr) (p r : Byte) (e : PlanEntry) (s : State), Hears s → FromSource h →
    (s.run.run = none ∧ markedIndexes s.plan (· == .due) = []) ∨ s.meter.held = none →
    (s.meter.batch = .loaded ∨ s.meter.batch = .running ∨ s.meter.batch = .rejected ∨ s.meter.batch = .awaitSeal) →
    p.toNat ≤ 31 → r ≠ 0 →
    (if markGet s.plan.marks p.toNat = .due then slotGet s.plan.staged p.toNat
      else slotGet s.plan.active p.toNat) = some e →
    let closed : ErrorComputer := if s.run.run.any fun x => x.kind == .accuracy then .idle else s.ec
    (s.pins.present = true →
    ∃ t x, exec (.loadSettled h [p, r]) s = .next t ∧ t.run.run = some x ∧ t.meter.batch = .running ∧
      t.meter.verdict = none ∧ t.run.standing = .opened p.toNat r.toNat ∧ t.plan.cutOff = false ∧ t.plan.loadOff = false ∧
      x.p = p.toNat ∧ x.r = r.toNat ∧ x.entry = e ∧ x.kept = [] ∧ x.lastSeq = 0 ∧ x.completed = 0 ∧
      x.streamDrops = 0 ∧ x.void = s.xc.suspect ∧ x.openStamp = s.fe.now ∧ x.openCount = s.trk.count ∧
      (∀ n st k m l, e.point = .accuracy n st k m l →
        x.state = (if k = 0 then .measuring else .skipping) ∧ x.skip = k ∧ x.progress = .opened ∧
          x.pointTimer = s.fe.now + BitVec.ofNat 48 (l * 100000000) ∧ t.ec = .armed n m) ∧
      (∀ w a, e.point = .creep w a ∨ e.point = .start w a →
        x.state = .counting ∧ x.pulses = 0 ∧ x.firstOffset = none ∧ x.decided = none ∧ x.progress = .opened ∧
          x.pointTimer = s.fe.now + BitVec.ofNat 48 (w * 100000000) ∧ t.ec = closed) ∧
      (∀ l, e.point = .register l →
        x.state = .accumulating ∧ x.before = slotGet s.run.slots p.toNat ∧ slotGet t.run.slots p.toNat = none ∧
          x.progress = .settled ∧ x.pointTimer = s.fe.now + BitVec.ofNat 48 (l * 100000000) ∧ t.ec = closed) ∧
      (s.run.run = none → markedIndexes s.plan (· == .due) = [] → t.meter.records = s.meter.records) ∧
      t.fe = s.fe ∧ t.trk.count = s.trk.count ∧ t.roster = s.roster ∧ t.xc = s.xc) ∧
    (s.pins.present = false → s.meter.held = none →
    ∃ t y, exec (.loadSettled h [p, r]) s = .next t ∧ t.run.run = none ∧ t.run.standing = .closed p.toNat r.toNat ∧
      slotGet t.meter.records p.toNat = some y ∧ y.p = p.toNat ∧ y.r = r.toNat ∧ y.kind = e.point.kind ∧
      y.value = none ∧ y.spread = none ∧ y.completed = 0 ∧ y.streamDrops = 0 ∧ y.stale = false ∧
      (e.point.kind = .accuracy → y.body = .accuracy [] ∧
        (s.xc.suspect = true → y.verdict = .void ∧ y.cause = none) ∧
        (s.xc.suspect = false → y.verdict = .incomplete ∧ y.cause = some .scanner)) ∧
      (e.point.kind = .creep ∨ e.point.kind = .start →
        y.body = .window 0 none ∧ y.verdict = .incomplete ∧ y.cause = some .scanner) ∧
      (e.point.kind = .register →
        y.body = .register (slotGet s.run.slots p.toNat) none 0 e.limits s.xc.suspect none ∧ y.verdict = .incomplete ∧
        y.cause = some (if slotGet s.run.slots p.toNat = none then .noReading else .scanner)) ∧
      (s.run.run = none → s.line.queue.length ≤ 6 → t.line.queue = s.line.queue ++
        [⟨.progress p.toNat r.toNat .withdrawn .running, s.fe.now, 0, false⟩,
          ⟨.pointResult p.toNat r.toNat y.verdict none none 0, s.fe.now, 0, false⟩]) ∧
      Evaluated t ∧ t.fe = s.fe ∧ t.trk.count = s.trk.count ∧ t.roster = s.roster ∧ t.xc = s.xc)

/-- O20. LOAD_SETTLED opens no run where the list of R56 says so: in IDLE, with an index above 31 or a run number 0 it
only moves the plan's flags; in CLAIMING, PRESSING, SEALED and SEAL_FAULT, and for an empty entry, the answer is PROGRESS
WITHDRAWN carrying the batch state, and the standing is WITHDRAWN. (No run open before it, no entry DUE, a queue with
room.) -/
def Obligations.LoadSettledDeclines : Prop :=
  ∀ (h : Hdr) (p r : Byte) (s : State), Hears s → FromSource h → s.run.run = none →
    markedIndexes s.plan (· == .due) = [] → s.line.queue.length < 8 →
    let plan := { s.plan with cutOff := false, loadOff := false }
    (s.meter.batch = .idle ∨ 31 < p.toNat ∨ r = 0 →
      exec (.loadSettled h [p, r]) s = .next { acked s with plan := plan }) ∧
    (p.toNat ≤ 31 → r ≠ 0 →
      (s.meter.batch = .claiming ∨ s.meter.batch = .pressing ∨ s.meter.batch = .sealed ∨ s.meter.batch = .sealFault ∨
        (s.meter.batch ≠ .idle ∧ slotGet s.plan.active p.toNat = none)) →
      exec (.loadSettled h [p, r]) s = .next { s with
        plan := plan
        run := { s.run with standing := .withdrawn p.toNat r.toNat }
        line := { s.line with
          drive := .acknowledgeSlot
          idle := false
          queue := s.line.queue ++
            [⟨.progress p.toNat r.toNat .withdrawn s.meter.batch, s.fe.now, 0, false⟩] } })

/-! ### The test plan -/

/-- O21. What the load announcements do to each entry, whatever run is open: LOAD_SETTLED copies the DUE entries,
LOAD_OFF the DUE and WAITING ones, LOAD_CHANGING copies none and makes WAITING entries DUE; a copied entry's mark is
CLEAN; staged entries and the hold flag stay; the flags are as R49 to R51 give. A copy that changes the contents marks
the record of its index stale, and no other record changes (said with no run open, and with PRESENT low apart from the
index of LOAD_SETTLED). -/
def Obligations.LoadAnnouncementsMovePlan : Prop :=
  ∀ (h : Hdr) (s : State), Hears s → FromSource h →
    let staled (copied : Prop) (q : Nat) (x : Option PointRecord) (y : Option PointRecord) : Prop :=
      (copied → slotGet s.plan.staged q ≠ slotGet s.plan.active q → y = x.map fun z => { z with stale := true }) ∧
      (¬ copied ∨ slotGet s.plan.staged q = slotGet s.plan.active q → y = x)
    (∀ p r : Byte, ∃ t, exec (.loadSettled h [p, r]) s = .next t ∧ t.plan.staged = s.plan.staged ∧
      t.plan.hold = s.plan.hold ∧ t.plan.cutOff = false ∧ t.plan.loadOff = false ∧
      (∀ q < 32, (markGet s.plan.marks q = .due →
          slotGet t.plan.active q = slotGet s.plan.staged q ∧ markGet t.plan.marks q = .clean) ∧
        (markGet s.plan.marks q ≠ .due →
          slotGet t.plan.active q = slotGet s.plan.active q ∧ markGet t.plan.marks q = markGet s.plan.marks q)) ∧
      (s.run.run = none → ∀ q < 32, s.pins.present = true ∨ q ≠ p.toNat →
        staled (markGet s.plan.marks q = .due) q (slotGet s.meter.records q) (slotGet t.meter.records q))) ∧
    (∀ next : Byte, ∃ t, exec (.loadChanging h [next]) s = .next t ∧ t.plan.staged = s.plan.staged ∧
      t.plan.active = s.plan.active ∧ t.plan.hold = s.plan.hold ∧ t.plan.cutOff = true ∧ t.plan.loadOff = false ∧
      ∀ q < 32, markGet t.plan.marks q =
        if markGet s.plan.marks q = .waiting then .due else markGet s.plan.marks q) ∧
    ∃ t, exec (.loadOff h []) s = .next t ∧ t.plan.staged = s.plan.staged ∧
      t.plan.hold = s.plan.hold ∧ t.plan.cutOff = false ∧ t.plan.loadOff = true ∧
      (∀ q < 32, (markGet s.plan.marks q = .due ∨ markGet s.plan.marks q = .waiting →
          slotGet t.plan.active q = slotGet s.plan.staged q ∧ markGet t.plan.marks q = .clean) ∧
        (markGet s.plan.marks q ≠ .due → markGet s.plan.marks q ≠ .waiting →
          slotGet t.plan.active q = slotGet s.plan.active q ∧ markGet t.plan.marks q = markGet s.plan.marks q)) ∧
      (s.run.run = none → ∀ q < 32,
        staled (markGet s.plan.marks q = .due ∨ markGet s.plan.marks q = .waiting) q (slotGet s.meter.records q)
          (slotGet t.meter.records q))

/-- O22. A plan command that changes a staged entry marks it by R45: HELD with the hold on, copied at once and CLEAN with
the load off, else WAITING after a cut-off and DUE without; one that changes nothing leaves the plan. PLAN_CLEAR does so
for every defined entry from its first index to its last, and leaves the empty ones. Every other entry stays, and so do the
flags. A record goes stale where the copy at once changes the active entry of its index, and nowhere else. Individual or to
a group alike. The numeric fields are brought into the ranges of Tables 3.1 and 3.2. -/
def Obligations.PlanCommandsMark : Prop :=
  (∀ n st k m l : Nat, clampPoint (.accuracy n st k m l) = .accuracy (max 1 (min 65535 n)) (max 2 (min 16 st)) (min 3 k)
      (min 1000000 m) (max 1 (min 65535 l)) ∧
    clampPoint (.creep n k) = .creep (max 1 (min 65535 n)) (min 255 k) ∧
    clampPoint (.start n k) = .start (max 1 (min 65535 n)) (max 1 (min 255 k)) ∧
    clampPoint (.register l) = .register (max 1 (min 65535 l))) ∧
  (∀ l : Limits, clampLimits l = ⟨max (-999999) (min 999999 l.lower), max (-999999) (min 999999 l.upper),
    min 99999 l.spread, l.sealRelevant⟩) ∧
  ∀ (h : Hdr) (i : Byte) (s : State), Hears s → FromConsole h → ToThis h s ∨ ToGroup h → i.toNat ≤ 31 →
    let atOnce := s.plan.hold = false ∧ s.plan.loadOff = true
    let flags (t : State) : Prop :=
      t.plan.hold = s.plan.hold ∧ t.plan.cutOff = s.plan.cutOff ∧ t.plan.loadOff = s.plan.loadOff
    let same (t : State) (q : Nat) : Prop :=
      slotGet t.plan.staged q = slotGet s.plan.staged q ∧ slotGet t.plan.active q = slotGet s.plan.active q ∧
      markGet t.plan.marks q = markGet s.plan.marks q ∧ slotGet t.meter.records q = slotGet s.meter.records q
    let changed (t : State) (q : Nat) (new : Option PlanEntry) : Prop :=
      slotGet t.plan.staged q = new ∧
      markGet t.plan.marks q =
        (if s.plan.hold then .held else if s.plan.loadOff then .clean else if s.plan.cutOff then .waiting else .due) ∧
      slotGet t.plan.active q = (if atOnce then new else slotGet s.plan.active q) ∧
      slotGet t.meter.records q = if atOnce ∧ slotGet s.plan.active q ≠ new then
        (slotGet s.meter.records q).map fun z => { z with stale := true } else slotGet s.meter.records q
    let marked (t : State) (new : Option PlanEntry) : Prop :=
      flags t ∧ (∀ q < 32, q ≠ i.toNat → same t q) ∧
      (slotGet s.plan.staged i.toNat = new → t.plan = s.plan ∧ same t i.toNat) ∧
      (slotGet s.plan.staged i.toNat ≠ new → changed t i.toNat new)
    (∀ part bs, readPointPart bs = some part →
      ∃ t, exec (.planPoint h (i :: bs)) s = .next t ∧ marked t (some ⟨clampPoint part, none⟩)) ∧
    (∀ l bs e, readLimits bs = some l → slotGet s.plan.staged i.toNat = some e →
      (clampLimits l).lower ≤ (clampLimits l).upper →
      ∃ t, exec (.planLimits h (i :: bs)) s = .next t ∧ marked t (some ⟨e.point, some (clampLimits l)⟩)) ∧
    ∀ last : Byte, i.toNat ≤ last.toNat → last.toNat ≤ 31 →
      ∃ t, exec (.planClear h [i, last]) s = .next t ∧ flags t ∧
        (∀ q, i.toNat ≤ q → q ≤ last.toNat → slotGet s.plan.staged q ≠ none → changed t q none) ∧
        (∀ q < 32, q < i.toNat ∨ last.toNat < q ∨ slotGet s.plan.staged q = none → same t q) ∧
        ((∀ q, i.toNat ≤ q → q ≤ last.toNat → slotGet s.plan.staged q = none) → t.plan = s.plan)

/-- O23. PLAN_HOLD sets the hold flag, and with the flag set has no effect; the reply is DONE. PLAN_RELEASE with the flag
clear has no effect, with the reply DONE; with the flag set it clears it and makes the HELD entries ready, all under the
same flags. -/
def Obligations.HoldAndRelease : Prop :=
  ∀ (h : Hdr) (s : State), Hears s → FromConsole h →
    (ToThis h s → exec (.planHold h []) s =
      .next (enqueue (.reply .planHold .done) { acked s with plan := { s.plan with hold := true } })) ∧
    (ToGroup h → exec (.planHold h []) s = .next { acked s with plan := { s.plan with hold := true } }) ∧
    (s.plan.hold = false →
      (ToThis h s → exec (.planRelease h []) s = .next (enqueue (.reply .planRelease .done) (acked s))) ∧
      (ToGroup h → exec (.planRelease h []) s = .next (acked s))) ∧
    (ToThis h s ∨ ToGroup h → s.plan.hold = true → ∃ t, exec (.planRelease h []) s = .next t ∧ t.plan.hold = false ∧
      t.plan.staged = s.plan.staged ∧ t.plan.cutOff = s.plan.cutOff ∧ t.plan.loadOff = s.plan.loadOff ∧
      ∀ q < 32, (markGet s.plan.marks q = .held →
          markGet t.plan.marks q = (if s.plan.loadOff then .clean else if s.plan.cutOff then .waiting else .due) ∧
          slotGet t.plan.active q = (if s.plan.loadOff then slotGet s.plan.staged q else slotGet s.plan.active q)) ∧
        (markGet s.plan.marks q ≠ .held →
          markGet t.plan.marks q = markGet s.plan.marks q ∧ slotGet t.plan.active q = slotGet s.plan.active q))

/-! ### Reference cross-check -/

/-- O24. SYNC: priming, the repeat of a window, the successor (a tally, a new collection) and a gap, by R120 and R121.
With a peer in the roster, which has no tally yet, the new collection waits; with an empty roster it is judged at once,
without an outcome. (For a successor a queue with room. A collection that is not judged yet is judged first, which is
stated apart: here there is none, or it is judged; after a gap with an unjudged one the latches stand as after any gap.) -/
def Obligations.SyncLatches : Prop :=
  ∀ (h : Hdr) (a b : Byte) (s : State), Hears s → FromSource h →
    let n := BitVec.ofNat 16 (a.toNat * 256 + b.toNat)
    (s.xc.latest = none →
      exec (.sync h [a, b]) s = .next { acked s with xc := { s.xc with
        latest := some ⟨n, s.trk.count⟩, earlier := none, collection := none } }) ∧
    (∀ l, s.xc.latest = some l → l.window = n → exec (.sync h [a, b]) s = .next (acked s)) ∧
    (∀ l, s.xc.latest = some l → n = l.window + 1 → RosterKeys s →
      s.line.queue.length < 8 → (∀ c, s.xc.collection = some c → c.judged = true) →
      exec (.sync h [a, b]) s = .next { s with
        xc := { s.xc with
          earlier := some l
          latest := some ⟨n, s.trk.count⟩
          collection := some
            ⟨n, decide (s.roster.entries = []), [⟨s.line.own, (s.trk.count - l.count).toNat⟩]⟩ }
        line := { s.line with
          drive := .acknowledgeSlot
          idle := false
          queue := s.line.queue ++ [⟨.tally n (s.trk.count - l.count).toNat, s.fe.now, 0, false⟩] } }) ∧
    (∀ l, s.xc.latest = some l → n ≠ l.window → n ≠ l.window + 1 →
      (∃ t, exec (.sync h [a, b]) s = .next t ∧ t.xc.latest = some ⟨n, s.trk.count⟩ ∧ t.xc.earlier = none ∧
        t.xc.collection = none) ∧
      ((∀ c, s.xc.collection = some c → c.judged = true) →
        exec (.sync h [a, b]) s = .next { acked s with xc := { s.xc with
          latest := some ⟨n, s.trk.count⟩, earlier := none, collection := none } }))

/-- O25. A SYNC for another window than the latched one, the next or any after a gap, judges an unjudged collection
first: with three tallies or more, an own tally further from the median than the tolerance raises REF_SUSPECT, sets the
streak to 0, makes the notice pending and voids an open run; one within the tolerance adds a good window, and the third
after a raising clears the condition and its notice; with fewer than three tallies nothing changes. -/
def Obligations.JudgmentMovesSuspicion : Prop :=
  ∀ (h : Hdr) (a b : Byte) (s : State) (l : Latch) (c : Collection) (own : Nat), Hears s → FromSource h →
    s.xc.latest = some l → BitVec.ofNat 16 (a.toNat * 256 + b.toNat) ≠ l.window →
    s.xc.collection = some c → c.judged = false → tallyOf s.line.own c = some own →
    ∃ t, exec (.sync h [a, b]) s = .next t ∧ JudgedBy own (c.tallies.map StationTally.tally) s t ∧
      t.fe = s.fe ∧ t.trk = s.trk ∧ t.ec = s.ec ∧ t.plan = s.plan ∧ t.roster = s.roster

/-- O26. A TALLY of a peer sets the sender's marks and enters a collection for its window that is not judged yet, under
the sender's number, in place of an earlier one of that sender; without such a collection it sets the marks alone. While a
roster entry other than the sender's has no tally the collection waits; once every entry has one it is judged early. -/
def Obligations.TallyEntersCollection : Prop :=
  ∀ (h : Hdr) (bs : List Byte) (w : BitVec 16) (v : Nat) (s : State), Hears s → FromPeer h s →
    readTally bs = some (w, v) →
    let roster := { s.roster with entries := hearPeer h.sender.toNat id s.roster.entries }
    ((∀ c, s.xc.collection = some c → c.judged = true ∨ c.window ≠ w) →
      exec (.tallyReceived h bs) s = .next { acked s with roster := roster }) ∧
    (∀ c, s.xc.collection = some c → c.judged = false → c.window = w →
      ∃ t c', exec (.tallyReceived h bs) s = .next t ∧ t.xc.collection = some c' ∧ t.roster = roster ∧
        c'.window = c.window ∧ tallyOf h.sender.toNat c' = some v ∧
        (∀ k, k ≠ h.sender.toNat → tallyOf k c' = tallyOf k c) ∧
        ((∃ e ∈ s.roster.entries, e.station ≠ h.sender.toNat ∧ tallyOf e.station c = none) →
          c'.judged = false ∧ t = { acked s with roster := roster, xc := { s.xc with collection := some c' } }) ∧
        ((∀ e ∈ s.roster.entries, e.station ≠ h.sender.toNat → tallyOf e.station c ≠ none) →
          c'.judged = true ∧
          ∀ own, tallyOf s.line.own c = some own → JudgedBy own (c'.tallies.map StationTally.tally) s t))

/-! ### Roster and completion -/

/-- O27. A JOIN of a peer: the entry takes the carried batch state and loses its progress record, both marks set; other
entries stay. After a reset of the peer its claim leaves the press list, with cause RETURN it stays. On line a STATUS is
queued. (No run open and the station not CLAIMING, so that no completion or grant follows; for the queue: room and no
STATUS in it.) In CLAIMING, with the own claim in the list, the removal of the peer's claim is followed by the grant test:
among the first K the stroke begins, or is refused by the press with STROKE-DONE high, and behind them the claim waits.
The level of STROKE-DONE as an operand is the model's choice (log 4). -/
def Obligations.JoinRenewsPeer : Prop :=
  ∀ (h : Hdr) (bs : List Byte) (level : Bool) (cause : JoinCause) (b : BatchState) (s : State), Hears s →
    FromPeer h s → RosterKeys s → readJoin bs = some (cause, b) → s.run.run = none →
    let left := s.sealUnit.pressList.filter fun c => c.station != h.sender.toNat
    (s.meter.batch ≠ .claiming →
    ∃ t, exec (.joinReceived h bs level) s = .next t ∧
      t = { s with
        pins := { s.pins with strokeDone := level }, roster := t.roster, sealUnit := t.sealUnit
        line := t.line, cmd := t.cmd } ∧
      t.roster.agingTimer = s.roster.agingTimer ∧
      EntryIs h.sender.toNat ⟨h.sender.toNat, some b, none, true, true⟩ s.roster t.roster ∧
      t.sealUnit = { s.sealUnit with pressList :=
        if cause = .lineReturn then s.sealUnit.pressList else left } ∧
      (s.line.state ≠ .onLine → t.line = (acked s).line ∧ t.cmd = s.cmd) ∧
      (s.line.state = .onLine → s.line.queue.length < 8 → (∀ f ∈ s.line.queue, f.msg.kind ≠ .status) →
        t.cmd = s.cmd ∧
        t.line = { s.line with
          drive := .acknowledgeSlot
          idle := false
          queue := s.line.queue ++ [⟨.status none, s.fe.now, 0, false⟩] })) ∧
    (s.meter.batch = .claiming → s.line.queue.length < 8 → cause = .lineReturn ∨ left = s.sealUnit.pressList →
      ∃ t, exec (.joinReceived h bs level) s = .next t ∧ t.sealUnit = s.sealUnit ∧ t.meter = s.meter) ∧
    ∀ c place, s.meter.batch = .claiming → s.line.queue.length < 8 → cause ≠ .lineReturn → left ≠ s.sealUnit.pressList →
      s.sealUnit.current = some c → c.sent = true → (left.findIdx? fun x => x.station == s.line.own) = some place →
      ∃ t, exec (.joinReceived h bs level) s = .next t ∧ GrantTested c place level left s t

/-- O28. STATUS, PROGRESS and POINT_RESULT of a peer update its entry as Table 7.2 gives; a field out of range, a payload
whose length or codes do not fit the frame's kind, and a MEASUREMENT, NOTICE, REPLY or DETAIL whether its payload fits or
not, set the marks alone; other entries stay. (While no run is open, or a peer stays pending for it, so that none closes.)
That a field out of range sets the marks without a completion test is the model's choice (log 20), as is the level of
STROKE-DONE as an operand (log 4). -/
def Obligations.PeerFramesUpdateRoster : Prop :=
  ∀ (h : Hdr) (s : State), Hears s → FromPeer h s → RosterKeys s →
    let k := h.sender.toNat
    let old := (s.roster.entries.find? fun e => e.station == k).getD ⟨k, none, none, false, false⟩
    let becomes (i : Instr) (e : RosterEntry) : Prop :=
      ∃ t, exec i s = .next t ∧ EntryIs k e s.roster t.roster ∧ t.roster.agingTimer = s.roster.agingTimer ∧
        ((∀ x, s.run.run = some x → nonePending x.p x.r t = false) → t = { acked s with roster := t.roster })
    let marksOnly (i : Instr) (base : State) : Prop :=
      ∃ t, exec i s = .next t ∧ t = { acked base with roster := t.roster } ∧
        t.roster.agingTimer = s.roster.agingTimer ∧
        EntryIs k { old with current := true, next := true } s.roster t.roster
    (∀ bs b, readStatus bs = some (b, none) →
      becomes (.statusReceived h bs) { old with batch := some b, current := true, next := true }) ∧
    (∀ bs b p r v, readStatus bs = some (b, some (p, r, v)) → p ≤ 31 → r ≠ 0 →
      becomes (.statusReceived h bs) ⟨k, some b, some ⟨p, r, v.peer⟩, true, true⟩) ∧
    (∀ bs p r v b, readProgress bs = some (p, r, v, b) → p ≤ 31 → r ≠ 0 →
      becomes (.progressReceived h bs) ⟨k, some b, some ⟨p, r, v.peer⟩, true, true⟩) ∧
    (∀ bs p r, readPointResult bs = some (p, r) → p ≤ 31 → r ≠ 0 →
      becomes (.pointResultReceived h bs)
        { old with progress := some ⟨p, r, .closed⟩, current := true, next := true }) ∧
    (∀ bs b p r v, readStatus bs = some (b, some (p, r, v)) → 31 < p ∨ r = 0 → marksOnly (.statusReceived h bs) s) ∧
    (∀ bs p r v b, readProgress bs = some (p, r, v, b) → 31 < p ∨ r = 0 → marksOnly (.progressReceived h bs) s) ∧
    (∀ bs p r, readPointResult bs = some (p, r) → 31 < p ∨ r = 0 → marksOnly (.pointResultReceived h bs) s) ∧
    ∀ bs : List Byte, bs.length ≤ 16 →
      let byte (n : Nat) : Nat := (bs.getD n 0).toNat
      (∀ m, marksOnly (.measurementReceived m h bs) s) ∧
      (bs.length ≠ 6 ∨ 8 < byte 0 ∨ (byte 1 ≠ 255 ∧ 3 < byte 3) → marksOnly (.statusReceived h bs) s) ∧
      (bs.length ≠ 4 ∨ 3 < byte 2 ∨ 8 < byte 3 → marksOnly (.progressReceived h bs) s) ∧
      (bs.length ≠ 11 ∨ 6 < byte 2 → marksOnly (.pointResultReceived h bs) s) ∧
      (bs.length ≠ 8 → marksOnly (.tallyReceived h bs) s) ∧
      ∀ level, let base : State := { s with pins := { s.pins with strokeDone := level } }
        (bs.length ≠ 2 ∨ 3 < byte 0 ∨ 8 < byte 1 → marksOnly (.joinReceived h bs level) base) ∧
        (bs.length = 0 → marksOnly (.claimReceived h bs level) base) ∧
        (bs.length ≠ 2 ∨ 2 < byte 1 → marksOnly (.releaseReceived h bs level) base)

/-- O29. The lamps amber, green and red show the first row of Table 6.4 that holds, a flashing lamp lit in the lit half of
the lamp clock. All are off while RESET-N holds the station, and while supply has just arrived; that they are off in a
power-on reset, and show the row of the state as it stands in a command reset, is the model's choice (log 17). -/
def Obligations.LampsShowState : Prop :=
  ∀ s : State,
    (s.phase = .powerOn ∨ s.phase = .pin → lamps s = (false, false, false)) ∧
    (s.phase = .running ∨ s.phase = .command →
      (validNumber s.line.own = false ∨ s.line.state = .muted → lamps s = (s.lamp.lit, false, s.lamp.lit)) ∧
      (validNumber s.line.own = true → s.line.state ≠ .muted →
        (s.fe.absent = true → s.run.run.isSome = true → lamps s = (s.lamp.lit, false, false)) ∧
        (s.fe.absent = false ∨ s.run.run = none →
          (s.meter.batch = .idle → lamps s = (false, false, false)) ∧
          (s.meter.batch = .loaded ∨ s.meter.batch = .running → lamps s = (true, false, false)) ∧
          (s.meter.batch = .rejected → lamps s = (false, false, true)) ∧
          (s.meter.batch = .awaitSeal ∨ s.meter.batch = .claiming → lamps s = (false, s.lamp.lit, false)) ∧
          (s.meter.batch = .pressing ∨ s.meter.batch = .sealed → lamps s = (false, true, false)) ∧
          (s.meter.batch = .sealFault → lamps s = (false, s.lamp.lit, s.lamp.lit)))))

/-- O30. A PROGRESS, STATUS, POINT_RESULT or JOIN of a peer, and an aging expiry that removes a peer, that leave no peer
pending close a SETTLED or DECIDED run by completion, and ones that leave a peer pending leave the run; a run in another
state is not tested. (For the expiry: no collection that still waits to be judged.) -/
def Obligations.CompletionClosesRun : Prop :=
  ∀ (i : Instr) (x : Run) (s : State), s.phase = .running → s.run.run = some x → x.p < 32 →
    ((∃ h bs p r v b, Hears s ∧ FromPeer h s ∧ i = .progressReceived h bs ∧ readProgress bs = some (p, r, v, b) ∧
        p ≤ 31 ∧ r ≠ 0) ∨
      (∃ h bs b p r v, Hears s ∧ FromPeer h s ∧ i = .statusReceived h bs ∧
        readStatus bs = some (b, some (p, r, v)) ∧ p ≤ 31 ∧ r ≠ 0) ∨
      (∃ h bs b, Hears s ∧ FromPeer h s ∧ i = .statusReceived h bs ∧ readStatus bs = some (b, none)) ∨
      (∃ h bs p r, Hears s ∧ FromPeer h s ∧ i = .pointResultReceived h bs ∧ readPointResult bs = some (p, r) ∧
        p ≤ 31 ∧ r ≠ 0) ∨
      (∃ h bs level c b, Hears s ∧ FromPeer h s ∧ i = .joinReceived h bs level ∧ readJoin bs = some (c, b)) ∨
      (∃ level, i = .agingExpiry level ∧ s.roster.agingTimer = s.fe.now ∧ (∃ e ∈ s.roster.entries, e.next = false) ∧
        ∀ c, s.xc.collection = some c → c.judged = true)) →
    ∃ t, exec i s = .next t ∧
      (x.state ≠ .settled → x.state ≠ .decided → t.run = s.run) ∧
      (PeerPending x.p x.r t → t.run = s.run) ∧
      (x.state = .settled ∨ x.state = .decided → ¬ PeerPending x.p x.r t →
        t.run.run = none ∧ t.run.standing = .closed x.p x.r ∧
          slotGet t.meter.records x.p = some (closeRecord .completion s.pins.present s.trk.count x))

/-- O31. An aging expiry moves each next mark into the current mark, removes the entries whose marks are then both clear,
and sets the timer one period later; the claims of removed peers leave the press list, and in CLAIMING one grant test
follows a removal from it; PEER_LOST is raised where a removed peer was pending for the open run, and nowhere else. A
removal judges the collection early once every entry left has a tally in it. (The last with no run open that is done for
completion.) That an expiry not due at the present stamp changes only the level of STROKE-DONE is the model's choice
(log 2), as is that level as an operand (log 4). -/
def Obligations.AgingRemovesSilentPeers : Prop :=
  ∀ (level : Bool) (s : State), s.phase = .running →
    let gone := (s.roster.entries.filter fun e => !e.next).map RosterEntry.station
    let left := s.sealUnit.pressList.filter fun c => !gone.contains c.station
    let claims (t : State) : Prop := t.sealUnit = { s.sealUnit with pressList := left }
    let lost : Prop := ∃ x e, s.run.run = some x ∧ e ∈ s.roster.entries ∧ e.next = false ∧ e.batch = some .running ∧
      ∀ q, e.progress = some q → q.p ≠ x.p ∨ q.r ≠ x.r ∨ q.value = .opened ∨ q.value = .measuring
    (s.roster.agingTimer ≠ s.fe.now →
      exec (.agingExpiry level) s = .next { s with pins := { s.pins with strokeDone := level } }) ∧
    (s.roster.agingTimer = s.fe.now →
    ∃ t, exec (.agingExpiry level) s = .next t ∧
      t.roster.entries = (s.roster.entries.filter fun e => e.next).map
        (fun e => { e with current := true, next := false }) ∧
      t.roster.agingTimer = s.fe.now + BitVec.ofNat 48 (s.cmd.setup.agingPeriod * 100000000) ∧
      t.fe = s.fe ∧ t.plan = s.plan ∧ t.trk.count = s.trk.count ∧
      ((∀ e ∈ s.roster.entries, e.next = true) →
        t = { s with pins := { s.pins with strokeDone := level }, roster := t.roster }) ∧
      (s.meter.batch ≠ .claiming → s.run.run = none → claims t) ∧
      (s.meter.batch = .claiming → s.run.run = none → left = s.sealUnit.pressList →
        t.sealUnit = s.sealUnit ∧ t.meter = s.meter) ∧
      (∀ c place, s.meter.batch = .claiming → s.run.run = none → left ≠ s.sealUnit.pressList →
        s.sealUnit.current = some c → c.sent = true →
        (left.findIdx? fun x => x.station == s.line.own) = some place → GrantTested c place level left s t) ∧
      (lost → hasNotice t.cmd.notices .peerLost = true) ∧
      (¬ lost → hasNotice t.cmd.notices .peerLost = hasNotice s.cmd.notices .peerLost) ∧
      (∀ c, s.xc.collection = some c → c.judged = false →
        (∃ e ∈ s.roster.entries, e.next = true ∧ tallyOf e.station c = none) → t.xc = s.xc) ∧
      (∀ c own, s.xc.collection = some c → c.judged = false → gone ≠ [] → tallyOf s.line.own c = some own →
        (∀ e ∈ s.roster.entries, e.next = true → tallyOf e.station c ≠ none) →
        (∀ x, s.run.run = some x → x.state ≠ .settled ∧ x.state ≠ .decided) →
        t.xc.collection = some { c with judged := true } ∧ JudgedBy own (c.tallies.map StationTally.tally) s t) ∧
      (s.run.run = none → s.meter.batch ≠ .claiming → s.xc.collection = none → t.cmd = s.cmd ∧ t.line = s.line))

/-! ### Sealing -/

/-- O32. A CLAIM of a peer: with a claim number and a valid seal number it takes the place of the sender's claim of the
same number, or goes to the end of the press list in place of any other claim of the sender; without them it is ignored.
The other claims keep their order. While the own claim is sent and stands in the list of a CLAIMING station it is then
examined: a claim ahead with its seal number abandons it (SEAL_REUSED, the held number discarded, RELEASE owed, back to
AWAIT_SEAL and evaluated); else it is granted among the first K, and waits behind them. The level of STROKE-DONE as an
operand is the model's choice (log 4), as is the reading of 'stands in the list' (log 21). -/
def Obligations.ClaimEntersPressList : Prop :=
  ∀ (h : Hdr) (n : Byte) (text : Text) (level : Bool) (s : State), Hears s → FromPeer h s → text.length ≤ 15 →
    let k := h.sender.toNat
    let i : Instr := .claimReceived h (n :: text) level
    let base : State := { acked s with
      pins := { s.pins with strokeDone := level }
      roster := { s.roster with entries := hearPeer k id s.roster.entries } }
    let ok := n ≠ 0 ∧ 1 ≤ text.length ∧ text.length ≤ 14 ∧ ∀ c ∈ text, 32 ≤ c.toNat ∧ c.toNat ≤ 126
    let list := if s.sealUnit.pressList.any fun c => c.station == k && c.number == n.toNat then
        s.sealUnit.pressList.map fun c => if c.station = k ∧ c.number = n.toNat then ⟨k, n.toNat, text⟩ else c
      else (s.sealUnit.pressList.filter fun c => c.station != k) ++ [⟨k, n.toNat, text⟩]
    (¬ ok → exec i s = .next base) ∧
    (ok → s.meter.batch ≠ .claiming ∨ (∀ c, s.sealUnit.current = some c → c.sent = false) →
      exec i s = .next { base with sealUnit := { s.sealUnit with pressList := list } }) ∧
    ∀ c place, ok → s.meter.batch = .claiming → s.sealUnit.current = some c → c.sent = true →
      (list.findIdx? fun x => x.station == s.line.own) = some place →
      ((∃ x ∈ list.take place, x.sealNo = c.sealNo) → ∃ t, exec i s = .next t ∧
        t.sealUnit = { s.sealUnit with pressList := list, current := none, owed := some ⟨c.number, .abandoned⟩ } ∧
        t.meter.held = none ∧ Evaluated t ∧ hasNotice t.cmd.notices .sealReused = true ∧
        (s.line.queue.length ≤ 6 → ∃ f ∈ t.line.queue, f.msg = .release c.number .abandoned)) ∧
      ((∀ x ∈ list.take place, x.sealNo ≠ c.sealNo) →
        (s.cmd.setup.pressBudget ≤ place →
          exec i s = .next { base with sealUnit := { s.sealUnit with pressList := list } }) ∧
        (place < s.cmd.setup.pressBudget → level = false →
          exec i s = .next { base with
            sealUnit := { s.sealUnit with
              pressList := list
              pressDrive := true
              strokeTimer := some (s.fe.now + BitVec.ofNat 48 (s.cmd.setup.strokeTimeout * 100000000)) }
            meter := { s.meter with batch := .pressing } }) ∧
        (place < s.cmd.setup.pressBudget → level = true → ∃ t, exec i s = .next t ∧ t.meter.batch = .sealFault ∧
          t.sealUnit.current = none ∧ t.sealUnit.pressDrive = s.sealUnit.pressDrive ∧
          t.sealUnit.owed = some ⟨c.number, .fault⟩ ∧ hasNotice t.cmd.notices .pressFault = true))

/-- O33. A RELEASE of a peer removes the claim it names and is ignored otherwise. After a removal a CLAIMING station whose
sent claim is among the first K begins its stroke: PRESSING, PRESS-DRIVE active and the stroke timer set with STROKE-DONE
low; SEAL_FAULT, PRESS_FAULT and no drive with STROKE-DONE high; further back in the list it waits.
The level of STROKE-DONE as an operand is the model's choice (log 4). -/
def Obligations.ReleaseMayGrant : Prop :=
  ∀ (h : Hdr) (n : Byte) (reason : ReleaseReason) (level : Bool) (s : State), Hears s → FromPeer h s →
    let k := h.sender.toNat
    let i : Instr := .releaseReceived h [n, BitVec.ofNat 8 reason.code] level
    let base : State := { acked s with
      pins := { s.pins with strokeDone := level }
      roster := { s.roster with entries := hearPeer k id s.roster.entries } }
    let left := s.sealUnit.pressList.filter fun c => c.station != k
    ((∀ c ∈ s.sealUnit.pressList, c.station = k → c.number ≠ n.toNat) → exec i s = .next base) ∧
    ((∃ c ∈ s.sealUnit.pressList, c.station = k ∧ c.number = n.toNat) →
      (s.meter.batch ≠ .claiming →
        exec i s = .next { base with sealUnit := { s.sealUnit with pressList := left } }) ∧
      (∀ c place, s.meter.batch = .claiming → s.sealUnit.current = some c → c.sent = true →
        (left.findIdx? fun x => x.station == s.line.own) = some place →
        (s.cmd.setup.pressBudget ≤ place →
          exec i s = .next { base with sealUnit := { s.sealUnit with pressList := left } }) ∧
        (place < s.cmd.setup.pressBudget → level = false →
          exec i s = .next { base with
            sealUnit := { s.sealUnit with
              pressList := left
              pressDrive := true
              strokeTimer := some (s.fe.now + BitVec.ofNat 48 (s.cmd.setup.strokeTimeout * 100000000)) }
            meter := { s.meter with batch := .pressing } }) ∧
        (place < s.cmd.setup.pressBudget → level = true →
          ∃ t, exec i s = .next t ∧ t.meter.batch = .sealFault ∧ t.sealUnit.current = none ∧
            t.sealUnit.pressDrive = s.sealUnit.pressDrive ∧ t.sealUnit.owed = some ⟨c.number, .fault⟩ ∧
            t.meter.sealRecord = s.meter.sealRecord ∧ hasNotice t.cmd.notices .pressFault = true)))

/-- O34. A SEALED of a peer with a valid number enters it in the seal log, unless it is there, and the oldest of 128
leaves; an invalid number is ignored. A CLAIMING station with that number abandons its claim: SEAL_REUSED, the held
number discarded, RELEASE owed. A PRESSING one raises SEAL_REUSED and goes on. -/
def Obligations.SealedEntersLog : Prop :=
  ∀ (h : Hdr) (text : Text) (s : State), Hears s → FromPeer h s → text.length ≤ 16 →
    let base : State := { acked s with
      roster := { s.roster with entries := hearPeer h.sender.toNat id s.roster.entries } }
    let log := if text ∈ s.sealUnit.log then s.sealUnit.log
      else s.sealUnit.log.drop (s.sealUnit.log.length + 1 - 128) ++ [text]
    let ok := 1 ≤ text.length ∧ text.length ≤ 14 ∧ ∀ c ∈ text, 32 ≤ c.toNat ∧ c.toNat ≤ 126
    (¬ ok → exec (.sealedReceived h text) s = .next base) ∧
    (ok → (∀ c, s.sealUnit.current = some c → c.sealNo = text →
        s.meter.batch ≠ .claiming ∧ s.meter.batch ≠ .pressing) →
      exec (.sealedReceived h text) s = .next { base with sealUnit := { s.sealUnit with log := log } }) ∧
    (∀ c, ok → s.sealUnit.current = some c → c.sealNo = text → s.meter.batch = .claiming →
      ∃ t, exec (.sealedReceived h text) s = .next t ∧ t.sealUnit.log = log ∧ t.sealUnit.current = none ∧
        t.meter.held = none ∧ t.sealUnit.owed = some ⟨c.number, .abandoned⟩ ∧
        hasNotice t.cmd.notices .sealReused = true ∧ t.sealUnit.pressList = s.sealUnit.pressList ∧
        (t.meter.batch = .awaitSeal ∨ t.meter.batch = .rejected ∨ t.meter.batch = .running)) ∧
    (∀ c, ok → s.sealUnit.current = some c → c.sealNo = text → s.meter.batch = .pressing →
      ∃ t, exec (.sealedReceived h text) s = .next t ∧ t.sealUnit = { s.sealUnit with log := log } ∧
        t.meter = s.meter ∧ hasNotice t.cmd.notices .sealReused = true)

/-- O35. A rise of STROKE-DONE in PRESSING completes the stroke: PRESS-DRIVE inactive, the stroke timer cleared, the seal
record written with the claim's number and the batch clock, the number in the log, no number held, the RELEASE owed, no
current claim, SEALED. In any other batch state the rise changes the level alone. -/
def Obligations.StrokeCompletes : Prop :=
  ∀ s : State, s.phase = .running →
    (s.meter.batch ≠ .pressing →
      exec .strokeDoneRise s = .next { s with pins := { s.pins with strokeDone := true } }) ∧
    ∀ c k, s.meter.batch = .pressing → s.sealUnit.current = some c → s.meter.clock = some k →
      ∃ t, exec .strokeDoneRise s = .next t ∧
        t.meter = { s.meter with batch := .sealed, held := none, sealRecord := some ⟨c.sealNo, k.seconds⟩ } ∧
        t.sealUnit = { s.sealUnit with
          pressDrive := false
          strokeTimer := none
          current := none
          owed := some ⟨c.number, .done⟩
          log := if c.sealNo ∈ s.sealUnit.log then s.sealUnit.log
            else s.sealUnit.log.drop (s.sealUnit.log.length + 1 - 128) ++ [c.sealNo] } ∧
        t.run = s.run ∧ t.plan = s.plan ∧ t.roster = s.roster ∧
        (s.line.queue.length ≤ 6 → t.cmd = s.cmd ∧ t.line = { s.line with queue := s.line.queue ++
          [⟨.release c.number .done, s.fe.now, 0, false⟩, ⟨.sealed c.sealNo, s.fe.now, 0, false⟩] })

/-- O36. When the stroke timer expires in PRESSING, the stroke has failed: PRESS-DRIVE inactive, PRESS_FAULT raised,
RELEASE with FAULT queued (or lost, with TX_DROPPED pending) and owed, no current claim, SEAL_FAULT, no seal record, the
log and the held number as they were. A rise of STROKE-DONE after it does nothing but change the level; an expiry after
the completion finds no stroke; that it finds none in any batch state but PRESSING, or where it is not due at the present
stamp, is the model's choice (log 2). -/
def Obligations.StrokeTimeoutFails : Prop :=
  ∀ s : State, s.phase = .running →
    (s.meter.batch ≠ .pressing ∨ s.sealUnit.strokeTimer ≠ some s.fe.now → exec .strokeTimerExpiry s = .next s) ∧
    ∀ c, s.meter.batch = .pressing → s.sealUnit.strokeTimer = some s.fe.now → s.sealUnit.current = some c →
      ∃ t, exec .strokeTimerExpiry s = .next t ∧
        t.meter = { s.meter with batch := .sealFault } ∧
        t.sealUnit = { s.sealUnit with
          pressDrive := false, strokeTimer := none, current := none, owed := some ⟨c.number, .fault⟩ } ∧
        hasNotice t.cmd.notices .pressFault = true ∧
        ((∃ f ∈ t.line.queue, f.msg = .release c.number .fault) ∨ hasNotice t.cmd.notices .txDropped = true) ∧
        t.run = s.run ∧ t.plan = s.plan ∧ t.roster = s.roster ∧ t.pins = s.pins ∧
        exec .strokeDoneRise t = .next { t with pins := { t.pins with strokeDone := true } }

/-- O37. A character of SEAL-IN is levels: a low start bit, eight data bits, least significant first, and a stop bit,
low at a framing error. A printable one is appended while the buffer holds fewer
than 14, a fifteenth, any other code or a framing error marks the line bad, a line feed before a line is skipped; CR ends
the line, and an empty or bad line is discarded with SEAL_READ_BAD. The 50 ms timer runs from the last character while a
partial line is held, and its end discards the line with SEAL_READ_BAD: a NOTICE with the whole set is queued where the
notice was clear and its mask bit is on, in the place of a NOTICE that is queued already. That a framing error on the code
of CR marks the line, that levels which begin high are no character, the operand that says whether SEAL-IN has rested
(log 18), and that an end of the timer that is not due changes nothing (log 2), are the model's choice. -/
def Obligations.SealCharactersGather : Prop :=
  ∀ (levels : BitVec 9) (stop rested : Bool) (s : State), s.phase = .running →
    let code : Byte := levels.extractLsb' 1 8
    let framing := stop = false
    let i : Instr := .sealInCharacter levels stop rested
    let line (buffer : Text) (bad : Bool) (timer : Option Stamp) : State :=
      { s with sealRx := ⟨buffer, bad, timer, true⟩ }
    let soon := some (s.fe.now + 5000000#48)
    (levels.getLsbD 0 = true ∨ (s.sealRx.ready = false ∧ rested = false) → exec i s = .next s) ∧
    (levels.getLsbD 0 = false → s.sealRx.ready = true ∨ rested = true →
      ((framing ∨ (code ≠ 13 ∧ ¬ (32 ≤ code.toNat ∧ code.toNat ≤ 126) ∧
          ¬ (code = 10 ∧ s.sealRx.buffer = [] ∧ s.sealRx.bad = false))) →
        exec i s = .next (line s.sealRx.buffer true soon)) ∧
      (¬ framing → 32 ≤ code.toNat → code.toNat ≤ 126 → s.sealRx.buffer.length < 14 →
        exec i s = .next (line (s.sealRx.buffer ++ [code]) s.sealRx.bad soon)) ∧
      (¬ framing → 32 ≤ code.toNat → code.toNat ≤ 126 → 14 ≤ s.sealRx.buffer.length →
        exec i s = .next (line s.sealRx.buffer true soon)) ∧
      (¬ framing → code = 10 → s.sealRx.buffer = [] → s.sealRx.bad = false → exec i s = .next (line [] false none)) ∧
      (¬ framing → code = 13 → s.sealRx.buffer = [] ∨ s.sealRx.bad = true →
        ∃ t, exec i s = .next t ∧ t.sealRx = ⟨[], false, none, true⟩ ∧
          (s.meter.batch ≠ .claiming → t.meter = s.meter) ∧ hasNotice t.cmd.notices .sealReadBad = true)) ∧
    (s.sealRx.timer = some s.fe.now → s.sealRx.buffer ≠ [] ∨ s.sealRx.bad = true →
      let empty : SealReceiver := { s.sealRx with buffer := [], bad := false, timer := none }
      let set := s.cmd.notices ||| 32#10
      let quiet : State := { s with sealRx := empty, cmd := { s.cmd with notices := set } }
      (∃ t, exec .sealInTimeout s = .next t ∧ t.sealRx = empty ∧ hasNotice t.cmd.notices .sealReadBad = true) ∧
      (hasNotice s.cmd.notices .sealReadBad = true ∨ hasNotice s.cmd.mask .sealReadBad = false →
        exec .sealInTimeout s = .next quiet) ∧
      (hasNotice s.cmd.notices .sealReadBad = false → hasNotice s.cmd.mask .sealReadBad = true →
        ((∀ f ∈ s.line.queue, f.msg.kind ≠ .notice) → s.line.queue.length < 8 →
          exec .sealInTimeout s = .next { quiet with line := { s.line with
            queue := s.line.queue ++ [⟨.notice set, s.fe.now, 0, false⟩] } }) ∧
        ((∃ f ∈ s.line.queue, f.msg.kind = .notice) → (∀ f ∈ s.line.queue, f.msg.kind = .notice → f.sending = false) →
          exec .sealInTimeout s = .next { quiet with line := { s.line with
            queue := s.line.queue.map fun f => if f.msg.kind = .notice then { f with msg := .notice set } else f } }) ∧
        ((∃ f ∈ s.line.queue, f.msg.kind = .notice ∧ f.sending = true) →
          exec .sealInTimeout s = .next { quiet with line := { s.line with waitingNotice := some set } }))) ∧
    (s.sealRx.timer ≠ some s.fe.now ∨ (s.sealRx.buffer = [] ∧ s.sealRx.bad = false) → exec .sealInTimeout s = .next s)

/-- O38. A good line ended by CR is taken by the batch state: discarded in CLAIMING and PRESSING; checked at once in
AWAIT_SEAL, where a number in the log or claimed by a peer raises SEAL_REUSED and is not kept, and any other becomes the
current claim with the next claim number, CLAIMING, its CLAIM queued; kept as the held number in every other state. In a
full queue the CLAIM displaces, of the frames not under attempt of the least urgent class below its own, the one that
entered last, with TX_DROPPED, and a series whose part it is ends; where there is none it is dropped itself and the claim
abandoned, its number discarded.
The operand that says whether SEAL-IN has rested (log 18), and TX_DROPPED after the entry of the displacing frame
(log 36), are the model's choice. -/
def Obligations.SealNumberIsTaken : Prop :=
  ∀ (rested : Bool) (s : State), s.phase = .running → s.sealRx.ready = true ∨ rested = true →
    s.sealRx.buffer ≠ [] → s.sealRx.bad = false →
    let i : Instr := .sealInCharacter (serialLevels 13) true rested
    let base : State := { s with sealRx := ⟨[], false, none, true⟩ }
    let number := s.sealRx.buffer
    let next := if s.sealUnit.claimNumber = 255 then 1 else s.sealUnit.claimNumber + 1
    let frame : TxFrame := ⟨.claim next number, s.fe.now, 0, false⟩
    let claiming : State := { base with
      meter := { s.meter with held := some number, batch := .claiming }
      sealUnit := { s.sealUnit with claimNumber := next, current := some ⟨next, number, false⟩ } }
    (s.meter.batch = .claiming ∨ s.meter.batch = .pressing → exec i s = .next base) ∧
    (s.meter.batch ≠ .claiming → s.meter.batch ≠ .pressing → s.meter.batch ≠ .awaitSeal →
      exec i s = .next { base with meter := { s.meter with held := some number } }) ∧
    (s.meter.batch = .awaitSeal → SealTaken number s →
      ∃ t, exec i s = .next t ∧ t.meter = { s.meter with held := none } ∧ t.sealUnit = s.sealUnit ∧
        t.sealRx = base.sealRx ∧ hasNotice t.cmd.notices .sealReused = true) ∧
    (s.meter.batch = .awaitSeal → ¬ SealTaken number s →
      (s.line.queue.length < 8 →
        exec i s = .next { claiming with line := { s.line with queue := s.line.queue ++ [frame] } }) ∧
      (∀ (j : Nat) (g : TxFrame), 8 ≤ s.line.queue.length → s.line.queue[j]? = some g → g.sending = false → 0 < g.msg.cls →
        (∀ l f, s.line.queue[l]? = some f → f.sending = false → f.msg.cls ≤ g.msg.cls ∧ (f.msg.cls = g.msg.cls → l ≤ j)) →
        ∃ t, exec i s = .next t ∧ hasNotice t.cmd.notices .txDropped = true ∧
          (hasNotice s.cmd.notices .txDropped = true ∨ hasNotice s.cmd.mask .txDropped = false →
            t = { claiming with
              cmd := { s.cmd with
                notices := s.cmd.notices ||| 1#10
                series := if LivePart g.msg then none else s.cmd.series }
              line := { s.line with queue := s.line.queue.eraseIdx j ++ [frame] } })) ∧
      (8 ≤ s.line.queue.length → (∀ f ∈ s.line.queue, f.sending = true ∨ f.msg.cls = 0) →
        ∃ t, exec i s = .next t ∧ t.sealUnit = { s.sealUnit with claimNumber := next, current := none } ∧
          t.meter.held = none ∧ Evaluated t ∧ hasNotice t.cmd.notices .txDropped = true ∧
          ∀ f ∈ t.line.queue, f ∈ s.line.queue ∨ f.msg.kind = .notice))

/-! ### The bench line -/

/-- O39. An attempt takes the head of the queue: a JOIN, else the frame of the most urgent class that entered first, with
STATUS and JOIN filled at that instant; its start bit ends the idle line. Off line, on a line that is not idle, during an
attempt and with an empty queue none begins. That the line is idle from a LINE_IDLE row to the next frame on it, and that
a station which waits for an idle line begins none, is the model's reading (log 9). -/
def Obligations.AttemptTakesHead : Prop :=
  ∀ s : State, s.phase = .running →
    (s.line.state ≠ .onLine ∨ s.line.idle = false ∨ s.line.awaitingIdle = true ∨
      (∃ f ∈ s.line.queue, f.sending = true) ∨ s.line.queue = [] → exec .transmissionAttempt s = .next s) ∧
    (s.line.state = .onLine → s.line.idle = true → s.line.awaitingIdle = false →
      (∀ f ∈ s.line.queue, f.sending = false) → s.line.queue ≠ [] →
      ∃ (i : Nat) (f : TxFrame) (m : TxMsg), s.line.queue[i]? = some f ∧
        exec .transmissionAttempt s = .next { s with line := { s.line with
          idle := false
          queue := s.line.queue.set i { f with msg := m, sending := true } } } ∧
        ((f.msg.kind = .join ∧ ∀ j g, j < i → s.line.queue[j]? = some g → g.msg.kind ≠ .join) ∨
          ((∀ g ∈ s.line.queue, g.msg.kind ≠ .join ∧ f.msg.cls ≤ g.msg.cls) ∧
            ∀ j g, j < i → s.line.queue[j]? = some g → f.msg.cls < g.msg.cls)) ∧
        (∀ c b, f.msg = .join c b → m = .join c (some s.meter.batch)) ∧
        (∀ x, f.msg = .status x → m = .status (some
          ⟨s.meter.batch, s.run.run.map (fun y => (y.p, y.r, y.progress)), s.cmd.notices⟩)) ∧
        (f.msg.kind ≠ .join → f.msg.kind ≠ .status → m = f.msg))

/-- O40. A success takes the frame out of the queue, lowers the fault tally and restarts the heartbeat timer. A STATUS or
NOTICE that waits beside the queue then enters it as a new frame, and after it an owed RELEASE that is not queued is queued
again (that order is the model's choice, log 38). The success of the current CLAIM ends another owed RELEASE and puts the
own claim at the end of the press list, where a claim with its seal number ahead abandons it, K others ahead make it wait,
and else it is granted, or refused by the press with STROKE-DONE high; the success of a RELEASE takes the own claim it
names out of the list and ends the owed release; the success of a DETAIL part queues the next part, or a SUPERSEDED one,
which ends the series as the last part does (at the queuing of the SUPERSEDED part, the model's choice, log 34). (The
waiting frame the one of its kind, and room in the queue for all that enters.) The level of STROKE-DONE as an operand is
the model's choice (log 4). -/
def Obligations.AttemptSucceeds : Prop :=
  ∀ (f : TxFrame) (level : Bool) (s : State), s.phase = .running → s.line.queue.find? TxFrame.sending = some f →
    let fresh (m : TxMsg) : TxFrame := ⟨m, s.fe.now, 0, false⟩
    let rest := s.line.queue.filter fun g => !g.sending
    let beside : List TxFrame := (s.line.waitingNotice.map fun set => fresh (.notice set)).toList ++
      if s.line.waitingStatus then [fresh (.status none)] else []
    let again : List TxFrame := match s.sealUnit.owed with
      | some o =>
        if rest.any fun g => match g.msg with | .release n _ => n == o.number | _ => false then []
        else [fresh (.release o.number o.reason)]
      | none => []
    let base (entering : List TxFrame) : State := { s with
      pins := { s.pins with strokeDone := level }
      line := { s.line with
        queue := rest ++ entering
        waitingStatus := false
        waitingNotice := none
        faultTally := s.line.faultTally - 1
        heartbeat := some (s.fe.now + BitVec.ofNat 48 (s.cmd.setup.agingPeriod * 50000000)) } }
    let others := s.sealUnit.pressList.filter fun c => c.station != s.line.own
    (s.line.waitingStatus = true → ∀ g ∈ rest, g.msg.kind ≠ .status) →
    (s.line.waitingNotice ≠ none → ∀ g ∈ rest, g.msg.kind ≠ .notice) →
    beside = [] ∨ rest.length + beside.length ≤ 8 →
    (((f.msg.kind ≠ .claim ∧ f.msg.kind ≠ .release ∧ f.msg.kind ≠ .detail) ∨
        (∃ n number, f.msg = .claim n number ∧
          (s.meter.batch ≠ .claiming ∨ ∀ c, s.sealUnit.current = some c → c.number ≠ n)) ∨
        (∃ part total content live, f.msg = .detail part total content live ∧ (live = false ∨ s.cmd.series = none))) →
      again = [] ∨ rest.length + beside.length < 8 →
      exec (.attemptSuccess level) s = .next (base (beside ++ again))) ∧
    (∀ n r, f.msg = .release n r →
      let left := s.sealUnit.pressList.filter fun c => !(c.station == s.line.own && c.number == n)
      ((∀ o, s.sealUnit.owed = some o → o.number = n) →
        exec (.attemptSuccess level) s =
          .next { base beside with sealUnit := { s.sealUnit with pressList := left, owed := none } }) ∧
      ((∃ o, s.sealUnit.owed = some o ∧ o.number ≠ n) → again = [] ∨ rest.length + beside.length < 8 →
        exec (.attemptSuccess level) s =
          .next { base (beside ++ again) with sealUnit := { s.sealUnit with pressList := left } })) ∧
    (∀ n number c, f.msg = .claim n number → (∀ o, s.sealUnit.owed = some o → o.number ≠ n) →
      s.meter.batch = .claiming → s.sealUnit.current = some c → c.number = n →
      let unit := { s.sealUnit with
        pressList := others ++ [⟨s.line.own, c.number, c.sealNo⟩], current := some { c with sent := true }, owed := none }
      ((∃ x ∈ others, x.sealNo = c.sealNo) → ∃ t, exec (.attemptSuccess level) s = .next t ∧
        t.sealUnit = { unit with current := none, owed := some ⟨c.number, .abandoned⟩ } ∧ t.meter.held = none ∧
        Evaluated t ∧ hasNotice t.cmd.notices .sealReused = true ∧
        (rest.length ≤ 6 → ∃ g ∈ t.line.queue, g.msg = .release c.number .abandoned)) ∧
      ((∀ x ∈ others, x.sealNo ≠ c.sealNo) →
        (s.cmd.setup.pressBudget ≤ others.length →
          exec (.attemptSuccess level) s = .next { base beside with sealUnit := unit }) ∧
        (others.length < s.cmd.setup.pressBudget → level = false →
          exec (.attemptSuccess level) s = .next { base beside with
            sealUnit := { unit with
              pressDrive := true
              strokeTimer := some (s.fe.now + BitVec.ofNat 48 (s.cmd.setup.strokeTimeout * 100000000)) }
            meter := { s.meter with batch := .pressing } }) ∧
        (others.length < s.cmd.setup.pressBudget → level = true → ∃ t, exec (.attemptSuccess level) s = .next t ∧
          t.meter.batch = .sealFault ∧ t.sealUnit.current = none ∧ t.sealUnit.pressDrive = s.sealUnit.pressDrive ∧
          t.sealUnit.owed = some ⟨c.number, .fault⟩ ∧ hasNotice t.cmd.notices .pressFault = true))) ∧
    ∀ part total content q, f.msg = .detail part total content true → s.cmd.series = some q →
      (q.total ≤ q.next → again = [] ∨ rest.length + beside.length < 8 →
        exec (.attemptSuccess level) s = .next { base (beside ++ again) with cmd := { s.cmd with series := none } }) ∧
      (rest.length + beside.length < 8 → again = [] ∨ rest.length + beside.length < 7 → q.next < q.total →
        (q.superseded = true →
          exec (.attemptSuccess level) s = .next { base (fresh (.detail q.next q.total [] false) :: beside ++ again) with
            cmd := { s.cmd with series := none } }) ∧
        (q.superseded = false →
          ∀ bs, (q.subject = .meter ∧ bs = meterPart s.meter q.next) ∨
              (∃ p x, q.subject = .point p ∧ slotGet s.meter.records p = some x ∧ bs = recordPart x q.next) →
            exec (.attemptSuccess level) s = .next { base (fresh (.detail q.next q.total bs true) :: beside ++ again) with
              cmd := { s.cmd with series := some { q with next := q.next + 1 } } }))

/-- O41. A failure counts an attempt and a fault, whatever its cause: below the fourth attempt the frame stays queued in
its place, and a STATUS or NOTICE that waits beside the queue replaces it there, with its entry instant and attempt count;
at the fourth it leaves the queue with TX_DROPPED, and a waiting STATUS enters as a new frame; a fault tally of 32 takes the
line to LINE-OFF, and a waiting frame leaves with the others. The loss of a part ends its series. The drop of the current CLAIM abandons it and discards its
number; a NOTICE dropped while another waits beside the queue leaves one NOTICE with the set of the latest raising. Without
a frame under attempt nothing happens (the model's choice, log 2), and LINE-OFF is entered in the same step (log 6). -/
def Obligations.AttemptFails : Prop :=
  ∀ (cause : FailureCause) (s : State), s.phase = .running →
    ((∀ f ∈ s.line.queue, f.sending = false) → exec (.attemptFailure cause) s = .next s) ∧
    ∀ f, s.line.queue.find? TxFrame.sending = some f →
      let rest := s.line.queue.filter fun g => !g.sending
      let failed (g : TxFrame) : TxFrame :=
        if g.sending then { g with sending := false, attempts := g.attempts + 1 } else g
      let stays (queue : List TxFrame) : State := { s with line := { s.line with
        faultTally := s.line.faultTally + 1, waitingStatus := false, waitingNotice := none, queue := queue } }
      (f.attempts < 3 → s.line.faultTally < 31 → s.line.waitingStatus = false → s.line.waitingNotice = none →
        exec (.attemptFailure cause) s = .next (stays (s.line.queue.map failed))) ∧
      (f.attempts < 3 → s.line.faultTally < 31 → f.msg.kind = .status → s.line.waitingStatus = true →
        s.line.waitingNotice = none → exec (.attemptFailure cause) s = .next (stays (s.line.queue.map fun g =>
          if g.msg.kind = .status then { failed g with msg := .status none } else failed g))) ∧
      (∀ set, f.attempts < 3 → s.line.faultTally < 31 → f.msg.kind = .notice → s.line.waitingNotice = some set →
        s.line.waitingStatus = false → exec (.attemptFailure cause) s = .next (stays (s.line.queue.map fun g =>
          if g.msg.kind = .notice then { failed g with msg := .notice set } else failed g))) ∧
      (3 ≤ f.attempts → s.line.faultTally < 31 → s.line.waitingStatus = false → s.line.waitingNotice = none →
        ∃ t, exec (.attemptFailure cause) s = .next t ∧ t.line.faultTally = s.line.faultTally + 1 ∧
          (∀ g ∈ t.line.queue, g.sending = false ∧ (g.msg.kind = .notice ∨ g ∈ s.line.queue)) ∧
          hasNotice t.cmd.notices .txDropped = true ∧ t.run = s.run ∧ t.plan = s.plan ∧ t.roster = s.roster ∧
          (rest.length ≤ 7 → t.cmd.series = if LivePart f.msg then none else s.cmd.series) ∧
          (s.meter.batch ≠ .claiming → t.meter = s.meter ∧ t.sealUnit = s.sealUnit) ∧
          (∀ c, s.meter.batch = .claiming → s.sealUnit.current = some c → f.msg = .claim c.number c.sealNo →
            t.sealUnit = { s.sealUnit with current := none } ∧ t.meter.held = none ∧ Evaluated t)) ∧
      (3 ≤ f.attempts → s.line.faultTally < 31 → f.msg.kind = .status → s.line.waitingStatus = true →
        s.line.waitingNotice = none → (∀ g ∈ rest, g.msg.kind ≠ .status) → rest.length ≤ 7 →
        let entered := rest ++ [⟨.status none, s.fe.now, 0, false⟩]
        ∃ t, exec (.attemptFailure cause) s = .next t ∧ hasNotice t.cmd.notices .txDropped = true ∧
          t.line.waitingStatus = false ∧ (∀ g ∈ t.line.queue, g ∈ entered ∨ g.msg.kind = .notice) ∧
          (rest.length ≤ 6 → ⟨.status none, s.fe.now, 0, false⟩ ∈ t.line.queue) ∧
          (hasNotice s.cmd.notices .txDropped = true ∨ hasNotice s.cmd.mask .txDropped = false →
            t = { stays entered with cmd := { s.cmd with notices := s.cmd.notices ||| 1#10 } })) ∧
      (∀ old new, f.msg = .notice old → 3 ≤ f.attempts → s.line.faultTally < 31 → s.line.waitingNotice = some new →
        s.line.waitingStatus = false → QueueBound s → hasNotice s.cmd.notices .txDropped = false →
        hasNotice s.cmd.mask .txDropped = true →
        ∃ t g, exec (.attemptFailure cause) s = .next t ∧ t.line.waitingNotice = none ∧ g ∈ t.line.queue ∧
          g.msg = .notice (s.cmd.notices ||| 1#10) ∧ ∀ g' ∈ t.line.queue, g'.msg.kind = .notice → g' = g) ∧
      (s.line.state = .onLine → s.line.faultTally = 31 →
        ∃ t, exec (.attemptFailure cause) s = .next t ∧ t.line.state = .lineOff ∧ t.line.faultTally = 32 ∧
          t.line.goodFrames = 0 ∧ t.line.heartbeat = none ∧ t.line.waitingStatus = false ∧
          t.line.waitingNotice = none ∧
          (∀ g ∈ t.line.queue, g.sending = false ∧
            (g.msg.kind = .pointResult ∨ g.msg.kind = .sealed ∨ g.msg.kind = .notice ∨ g.msg.kind = .claim)) ∧
          t.cmd.series = (if ∃ g ∈ s.line.queue, LivePart g.msg then none else s.cmd.series) ∧
          t.run = s.run ∧ t.plan = s.plan ∧ t.roster = s.roster)

/-- O42. Lost arbitration leaves the frame queued with its attempt count and the fault tally as they were, where a STATUS
or NOTICE that waits beside the queue replaces it in its place, the model's reading (log 14); a frame discarded at its end
drives the objection slot when the own check failed, and neither slot with invalid straps; a stuffing violation drives an
objection run, with invalid straps too, the model's reading of R149 beside R156 (log 28); both set the good-frame count
to 0 and make the station wait for an idle line. -/
def Obligations.ArbitrationAndDiscards : Prop :=
  ∀ s : State, s.phase = .running →
    let ended (queue : List TxFrame) : State := { s with line := { s.line with
      waitingStatus := false, waitingNotice := none, queue := queue } }
    let back (g : TxFrame) : TxFrame := { g with sending := false }
    (s.line.waitingStatus = false → s.line.waitingNotice = none →
      exec .lostArbitration s = .next (ended (s.line.queue.map back))) ∧
    (∀ f, s.line.queue.find? TxFrame.sending = some f →
      (f.msg.kind = .status → s.line.waitingStatus = true → s.line.waitingNotice = none →
        exec .lostArbitration s = .next (ended (s.line.queue.map fun g =>
          if g.msg.kind = .status then { back g with msg := .status none } else back g))) ∧
      ∀ set, f.msg.kind = .notice → s.line.waitingNotice = some set → s.line.waitingStatus = false →
        exec .lostArbitration s = .next (ended (s.line.queue.map fun g =>
          if g.msg.kind = .notice then { back g with msg := .notice set } else back g))) ∧
    (∀ cause, exec (.frameDiscard cause) s = .next { s with line := { s.line with
      drive := if validNumber s.line.own = false then .nothing
        else if cause = .ownCheck then .objectionSlot else .acknowledgeSlot
      goodFrames := 0
      awaitingIdle := true
      idle := false } }) ∧
    exec .stuffingViolation s = .next { s with line := { s.line with
      drive := .objectionRun, goodFrames := 0, awaitingIdle := true, idle := false } }

/-- O43. LINE-OFF and MUTED: the POINT-RESULT and SEALED frames stay queued in their order, every other frame leaves, the
heartbeat timer stops, TX_DROPPED is raised when a frame was removed; LINE-OFF sets the good-frame count to 0, MUTED stops
the listen timer and raises DUPLICATE_NUMBER. The frame with the own number reaches no block. A claim in CLAIMING is
abandoned, and owed when it was sent; a series whose part leaves ends. (Entries: LINE_OFF_ENTRY on line, where the fault tally becomes 32, the model's
choice, log 6; an accepted frame of a known kind and class with the own number, but for the 64th good frame in LINE-OFF,
which O45 states. That a claim is abandoned at an entry into
MUTED from LISTENING and from LINE-OFF too is the model's reading, log 10.) -/
def Obligations.LeavingOnLine : Prop :=
  ∀ (i : Instr) (s : State), s.phase = .running →
    (i = .lineOffEntry ∧ s.line.state = .onLine) ∨
      (∃ k dest l bs, i = .duplicateNumberFrame (BitVec.ofNat 2 (FrameKind.cls k)) (BitVec.ofNat 6 k.number) dest l bs ∧
        l.toNat ≤ 16 ∧ validNumber s.line.own = true ∧ s.line.awaitingIdle = false ∧ s.line.state ≠ .muted ∧
        (s.line.state = .lineOff → s.line.goodFrames < 63)) →
    let kept := s.line.queue.filter fun f => f.msg.kind == .pointResult || f.msg.kind == .sealed
    ∃ t, exec i s = .next t ∧
      t.line.state = (if i = .lineOffEntry then .lineOff else .muted) ∧ t.line.heartbeat = none ∧
      t.line.waitingStatus = false ∧ t.line.waitingNotice = none ∧
      (i = .lineOffEntry → t.line.faultTally = 32 ∧ t.line.goodFrames = 0) ∧
      (i ≠ .lineOffEntry → t.line.listenTimer = none ∧ hasNotice t.cmd.notices .duplicateNumber = true) ∧
      ((∃ f ∈ s.line.queue, f.msg.kind ≠ .pointResult ∧ f.msg.kind ≠ .sealed) →
        hasNotice t.cmd.notices .txDropped = true) ∧
      t.cmd.series = (if ∃ f ∈ s.line.queue, LivePart f.msg then none else s.cmd.series) ∧
      (∀ f ∈ t.line.queue, f.msg.kind = .pointResult ∨ f.msg.kind = .sealed ∨
        ((f.msg.kind = .notice ∨ (f.msg.kind = .claim ∧ s.meter.batch = .claiming)) ∧
          f.entered = s.fe.now ∧ f.attempts = 0 ∧ f.sending = false)) ∧
      (s.meter.batch ≠ .claiming ∨ kept.length ≤ 6 →
        (t.line.queue.filter fun f => f.msg.kind == .pointResult || f.msg.kind == .sealed) =
          kept.map fun f => { f with sending := false }) ∧
      (s.meter.batch ≠ .claiming → t.meter = s.meter ∧ t.sealUnit = s.sealUnit) ∧
      (∀ c, s.meter.batch = .claiming → s.sealUnit.current = some c →
        t.sealUnit.owed = (if c.sent then some ⟨c.number, .abandoned⟩ else s.sealUnit.owed) ∧
        t.sealUnit.pressList =
          (if c.sent then s.sealUnit.pressList.filter fun x => x.station != s.line.own else s.sealUnit.pressList)) ∧
      t.run = s.run ∧ t.plan = s.plan ∧ t.roster = s.roster ∧ t.xc = s.xc ∧ t.fe = s.fe ∧ t.trk = s.trk ∧ t.ec = s.ec

/-- O44. The return from LINE-OFF: ON-LINE, fault tally and good-frame count 0, JOIN with cause RETURN queued, the attempt
counts 0, the heartbeat timer started, the latches and the collection of the cross-check gone, and an owed RELEASE that is
not queued queued again. With a full queue the frame that entered last makes room for the JOIN, with TX_DROPPED; that its
NOTICE makes room in its turn where it fills the queue again is the model's reading (log 13). That the row changes nothing
outside LINE-OFF is the model's choice (log 7). -/
def Obligations.LineReturns : Prop :=
  ∀ s : State, s.phase = .running →
    (s.line.state ≠ .lineOff → exec .lineReturn s = .next s) ∧
    (s.line.state = .lineOff → s.line.queue.length ≤ 6 →
      (∀ o f, s.sealUnit.owed = some o → f ∈ s.line.queue → f.msg.kind ≠ .release) →
      exec .lineReturn s = .next { s with
        xc := { s.xc with latest := none, earlier := none, collection := none }
        line := { s.line with
          state := .onLine
          faultTally := 0
          goodFrames := 0
          heartbeat := some (s.fe.now + BitVec.ofNat 48 (s.cmd.setup.agingPeriod * 50000000))
          queue := s.line.queue.map (fun f => { f with attempts := 0 }) ++
            [⟨.join .lineReturn none, s.fe.now, 0, false⟩] ++
            match s.sealUnit.owed with
            | some o => [⟨.release o.number o.reason, s.fe.now, 0, false⟩]
            | none => [] } }) ∧
    (s.line.state = .lineOff → s.line.queue.length = 8 → s.sealUnit.owed = none →
      ∃ t, exec .lineReturn s = .next t ∧ t.line.state = .onLine ∧ t.line.queue.length ≤ 8 ∧
        hasNotice t.cmd.notices .txDropped = true ∧
        t.line.queue.getLast? = some ⟨.join .lineReturn none, s.fe.now, 0, false⟩ ∧
        ∀ f ∈ t.line.queue.dropLast,
          f ∈ s.line.queue.dropLast.map (fun g => { g with attempts := 0 }) ∨ f.msg.kind = .notice)

/-- O45. The filter: an accepted frame of a reserved sender, of length 17 or more, of an unknown kind or of a class not its
kind's is discarded, acknowledged, and counts as a good frame in LINE-OFF alone; a frame of a position whose role its kind
does not have sets the marks of the sender's entry and changes nothing else; a frame of the source node or the console
whose role its kind does not have, or one of the source node whose payload does not fit, changes nothing more. In LINE-OFF
every frame counts, whether or not the filter then discards it; the 64th does what LINE_RETURN does and is then taken on
line. With invalid straps a frame reaches no block and no slot is driven; while the station waits for an idle line it
takes none (log 9). The row of a frame kind does what FRAME_FILTERED does with the frame it stands for (logs 5, 32). -/
def Obligations.FilterDiscards : Prop :=
  (∀ (f : RxFrame) (s : State), s.phase = .running →
    (s.line.awaitingIdle = true → exec (.frameFiltered f) s = .next s) ∧
    (validNumber s.line.own = false → s.line.awaitingIdle = false → s.line.state ≠ .lineOff →
      exec (.frameFiltered f) s = .next { s with line := { s.line with drive := .nothing, idle := false } }) ∧
    (s.line.awaitingIdle = false → s.line.state = .lineOff →
      (s.line.goodFrames < 63 → f.sender.toNat ≠ s.line.own → ∃ t, exec (.frameFiltered f) s = .next t ∧
        t.line.state = .lineOff ∧ t.line.goodFrames = s.line.goodFrames + 1) ∧
      (63 ≤ s.line.goodFrames → ∃ u, exec .lineReturn s = .next u ∧ u.line.state = .onLine ∧
        u.line.goodFrames = 0 ∧ u.line.faultTally = 0 ∧
        (u.sealUnit.owed = none → ∃ g ∈ u.line.queue, g.msg = .join .lineReturn none) ∧
        exec (.frameFiltered f) s = exec (.frameFiltered f) u ∧
        (f.sender.toNat ≠ s.line.own → ∃ t, exec (.frameFiltered f) s = .next t ∧ t.line.state = .onLine ∧
          t.line.goodFrames = 0 ∧ t.line.faultTally = 0))) ∧
    (validNumber s.line.own = true → s.line.awaitingIdle = false → s.line.goodFrames < 63 →
    let counted (l : LineController) : LineController := { l with
      drive := .acknowledgeSlot
      idle := false
      goodFrames := if l.state = .lineOff then l.goodFrames + 1 else l.goodFrames }
    (62 ≤ f.sender.toNat ∨ 17 ≤ f.length.toNat ∨ FrameKind.ofNumber f.kind.toNat = none ∨
        (∃ k, FrameKind.ofNumber f.kind.toNat = some k ∧ f.cls.toNat ≠ k.cls) →
      exec (.frameFiltered f) s = .next { s with line := counted s.line }) ∧
    (∀ k, FrameKind.ofNumber f.kind.toNat = some k → f.cls.toNat = k.cls → f.length.toNat ≤ 16 →
      (1 ≤ f.sender.toNat → f.sender.toNat ≤ 60 → f.sender.toNat ≠ s.line.own → k.role ≠ .position →
        exec (.frameFiltered f) s = .next { s with
          line := counted s.line
          roster := { s.roster with entries := hearPeer f.sender.toNat id s.roster.entries } }) ∧
      ((f.sender.toNat = 0 ∧ k.role ≠ .source) ∨ (f.sender.toNat = 61 ∧ k.role ≠ .console) ∨
          (f.sender.toNat = 0 ∧ ((k = .loadSettled ∧ f.payload.length ≠ 2) ∨ (k = .loadChanging ∧ f.payload.length ≠ 1) ∨
            (k = .loadOff ∧ f.payload.length ≠ 0) ∨ (k = .sync ∧ f.payload.length ≠ 2))) →
        exec (.frameFiltered f) s = .next { s with line := counted s.line })))) ∧
  ∀ (h : Hdr) (bs : List Byte) (s : State),
    let does (i : Instr) (cls kind : Nat) (base : State) : Prop :=
      exec i s = exec (.frameFiltered
        ⟨BitVec.ofNat 2 cls, h.sender, BitVec.ofNat 6 kind, h.dest, BitVec.ofNat 5 bs.length, bs⟩) base
    let level (b : Bool) : State := { s with pins := { s.pins with strokeDone := b } }
    does (.loadSettled h bs) 0 1 s ∧ does (.loadChanging h bs) 0 2 s ∧ does (.loadOff h bs) 0 3 s ∧
    does (.sync h bs) 0 4 s ∧ does (.setup h bs) 2 16 s ∧ does (.setMeter h bs) 2 17 s ∧ does (.planPoint h bs) 2 18 s ∧
    does (.planLimits h bs) 2 19 s ∧ does (.planClear h bs) 2 20 s ∧ does (.planHold h bs) 2 21 s ∧
    does (.planRelease h bs) 2 22 s ∧ does (.readingBefore h bs) 2 23 s ∧ does (.readingAfter h bs) 2 23 s ∧
    does (.query h bs) 2 24 s ∧ does (.endBatch h bs) 2 25 s ∧ does (.retrySeal h bs) 2 26 s ∧
    does (.clearNotices h bs) 2 27 s ∧ does (.noticeMask h bs) 2 28 s ∧ does (.restart h bs) 2 29 s ∧
    (∀ b, does (.joinReceived h bs b) 3 32 (level b) ∧ does (.claimReceived h bs b) 0 38 (level b) ∧
      does (.releaseReceived h bs b) 0 39 (level b)) ∧
    does (.statusReceived h bs) 3 33 s ∧ does (.progressReceived h bs) 1 34 s ∧
    does (.measurementReceived .measurement h bs) 3 35 s ∧ does (.pointResultReceived h bs) 1 36 s ∧
    does (.tallyReceived h bs) 1 37 s ∧ does (.sealedReceived h bs) 1 40 s ∧
    does (.measurementReceived .notice h bs) 2 41 s ∧ does (.measurementReceived .reply h bs) 2 42 s ∧
    does (.measurementReceived .detail h bs) 2 43 s

/-- O46. At the end of half an aging period a STATUS is queued on line and the timer restarts. A STATUS that is queued
already keeps its place, one waits beside the queue while one is under attempt, and in a full queue, with no class less
urgent, it is dropped at its queuing with TX_DROPPED. At the end of the listen period JOIN with the cause of the reset is
queued, the line is ON-LINE and the heartbeat timer starts; in a full queue the frame that entered last makes room, with
TX_DROPPED (and its NOTICE in its turn, the model's reading, log 13). That an expiry changes nothing where it is not due
at the present stamp, HEARTBEAT_EXPIRY off line and LISTEN_TIMER_EXPIRY outside LISTENING, is the model's choice
(log 2). -/
def Obligations.HeartbeatAndListen : Prop :=
  ∀ s : State, s.phase = .running →
    let beat := some (s.fe.now + BitVec.ofNat 48 (s.cmd.setup.agingPeriod * 50000000))
    let beats (queue : List TxFrame) (waits : Bool) : State := { s with line := { s.line with
      heartbeat := beat, queue := queue, waitingStatus := waits } }
    (s.line.state ≠ .onLine ∨ s.line.heartbeat ≠ some s.fe.now → exec .heartbeatExpiry s = .next s) ∧
    (s.line.state = .onLine → s.line.heartbeat = some s.fe.now →
      ((∀ f ∈ s.line.queue, f.msg.kind ≠ .status) → s.line.queue.length < 8 → exec .heartbeatExpiry s =
        .next (beats (s.line.queue ++ [⟨.status none, s.fe.now, 0, false⟩]) s.line.waitingStatus)) ∧
      ((∃ f ∈ s.line.queue, f.msg.kind = .status) → (∀ f ∈ s.line.queue, f.msg.kind = .status → f.sending = false) →
        exec .heartbeatExpiry s = .next (beats
          (s.line.queue.map fun f => if f.msg.kind = .status then { f with msg := .status none } else f)
          s.line.waitingStatus)) ∧
      ((∃ f ∈ s.line.queue, f.msg.kind = .status ∧ f.sending = true) →
        exec .heartbeatExpiry s = .next (beats s.line.queue true)) ∧
      ((∀ f ∈ s.line.queue, f.msg.kind ≠ .status) → 8 ≤ s.line.queue.length →
        ∃ t, exec .heartbeatExpiry s = .next t ∧ hasNotice t.cmd.notices .txDropped = true ∧ t.line.heartbeat = beat ∧
          (∀ f ∈ t.line.queue, f ∈ s.line.queue ∨ f.msg.kind = .notice) ∧
          (hasNotice s.cmd.notices .txDropped = true → t = beats s.line.queue s.line.waitingStatus))) ∧
    (s.line.state ≠ .listening ∨ s.line.listenTimer ≠ some s.fe.now → exec .listenTimerExpiry s = .next s) ∧
    (s.line.state = .listening → s.line.listenTimer = some s.fe.now →
      (s.line.queue.length < 8 →
        exec .listenTimerExpiry s = .next { s with line := { s.line with
          state := .onLine
          listenTimer := none
          heartbeat := beat
          queue := s.line.queue ++ [⟨.join s.line.resetCause none, s.fe.now, 0, false⟩] } }) ∧
      (s.line.queue.length = 8 → ∃ t, exec .listenTimerExpiry s = .next t ∧ t.line.state = .onLine ∧
        t.line.listenTimer = none ∧ t.line.heartbeat = beat ∧ t.line.queue.length ≤ 8 ∧
        hasNotice t.cmd.notices .txDropped = true ∧
        t.line.queue.getLast? = some ⟨.join s.line.resetCause none, s.fe.now, 0, false⟩ ∧
        ∀ f ∈ t.line.queue.dropLast, f ∈ s.line.queue.dropLast ∨ f.msg.kind = .notice))

/-! ### Console commands -/

/-- O47. A command to the station's own number is executed or refused and a REPLY with its code queued; a group command is
executed or refused without one, and raises PLAN_CLAMPED when a field was clamped; to any other number it is ignored. A
refused command changes nothing. QUERY and RESTART, which answer otherwise, are ignored from a group. The codes are those of
R41, R83, R86, R90, R98, R145, R164 and R165, the first failing check deciding; that an empty payload is refused with
BAD_VALUE where its index would be checked first is the model's reading (log 33). -/
def Obligations.CommandsAnswered : Prop :=
  ∀ (h : Hdr) (bs : List Byte) (s : State), Hears s → FromConsole h → bs.length ≤ 16 →
    let answers (i : Instr) (k : FrameKind) (f : State → State × ReplyCode) : Prop :=
      (ToThis h s → exec i s = .next (enqueue (.reply k (f (acked s)).2) (f (acked s)).1)) ∧
      (ToGroup h → exec i s = .next
        (if (f (acked s)).2 = .doneClamped then raiseNotice .planClamped (f (acked s)).1 else (f (acked s)).1)) ∧
      (¬ ToThis h s → ¬ ToGroup h → exec i s = .next (acked s)) ∧
      ((f (acked s)).2 ≠ .done → (f (acked s)).2 ≠ .doneClamped → (f (acked s)).1 = acked s)
    answers (.setup h bs) .setup (setupCommand bs) ∧
    answers (.setMeter h bs) .setMeter (setMeterCommand bs) ∧
    answers (.planPoint h bs) .planPoint (planPointCommand bs) ∧
    answers (.planLimits h bs) .planLimits (planLimitsCommand bs) ∧
    answers (.planClear h bs) .planClear (planClearCommand bs) ∧
    answers (.planHold h bs) .planHold (planHoldCommand bs) ∧
    answers (.planRelease h bs) .planRelease (planReleaseCommand bs) ∧
    answers (.readingBefore h bs) .reading (readingCommand bs) ∧
    answers (.readingAfter h bs) .reading (readingCommand bs) ∧
    answers (.endBatch h bs) .endBatch (endBatchCommand bs) ∧
    answers (.retrySeal h bs) .retrySeal (retrySealCommand bs) ∧
    answers (.clearNotices h bs) .clearNotices (clearNoticesCommand bs) ∧
    answers (.noticeMask h bs) .noticeMask (noticeMaskCommand bs) ∧
    (¬ ToThis h s → exec (.query h bs) s = .next (acked s) ∧ exec (.restart h bs) s = .next (acked s)) ∧
    (ToThis h s →
      (bs.length ≠ 1 → exec (.query h bs) s = .next (enqueue (.reply .query .badValue) (acked s))) ∧
      (bs ≠ [] → exec (.restart h bs) s = .next (enqueue (.reply .restart .badValue) (acked s)))) ∧
    let code (f : List Byte → State → State × ReplyCode) : ReplyCode := (f bs (acked s)).2
    let byte (k : Nat) : Nat := (bs.getD k 0).toNat
    let num (start width : Nat) : Nat := beNat ((bs.drop start).take width)
    let whole (start : Nat) : Int := if num start 3 < 2 ^ 23 then num start 3 else (num start 3 : Int) - 2 ^ 24
    let near (x : Int) : Int := max (-999999) (min 999999 x)
    let none_ : ReplyCode := if bs = [] then .done else .badValue
    let two : ReplyCode := if bs.length = 2 then .done else .badValue
    (code setupCommand = if bs.length ≠ 15 ∨ 1 < byte 14 then .badValue
      else if s.meter.batch ≠ .idle then .wrongState
      else if 1 ≤ num 0 5 ∧ num 0 5 ≤ 10 ^ 12 ∧ 1 ≤ byte 5 ∧ byte 5 ≤ 60 ∧ 1 ≤ byte 6 ∧ byte 6 ≤ 8 ∧ 1 ≤ byte 7 ∧
        byte 7 ≤ 10 ∧ byte 8 ≤ 30 ∧ 1 ≤ num 12 2 ∧ num 12 2 ≤ 10000 then .done else .doneClamped) ∧
    (code setMeterCommand = if bs.length < 5 ∨ ∃ x ∈ bs.drop 4, x.toNat < 32 ∨ 126 < x.toNat then .badValue
      else if s.meter.batch ≠ .idle ∧ s.meter.batch ≠ .loaded then .wrongState
      else if 1 ≤ num 0 4 ∧ num 0 4 ≤ 10 ^ 9 then .done else .doneClamped) ∧
    (code planPointCommand = if bs = [] then .badValue else if 31 < byte 0 then .noSuchPoint
      else if byte 1 = 0 ∧ bs.length = 12 then
        (if 1 ≤ num 2 2 ∧ 2 ≤ byte 4 ∧ byte 4 ≤ 16 ∧ byte 5 ≤ 3 ∧ num 6 4 ≤ 1000000 ∧ 1 ≤ num 10 2 then .done
          else .doneClamped)
      else if byte 1 = 1 ∧ bs.length = 5 then (if 1 ≤ num 2 2 then .done else .doneClamped)
      else if byte 1 = 2 ∧ bs.length = 5 then (if 1 ≤ num 2 2 ∧ 1 ≤ byte 4 then .done else .doneClamped)
      else if byte 1 = 3 ∧ bs.length = 4 then (if 1 ≤ num 2 2 then .done else .doneClamped)
      else .badValue) ∧
    (code planLimitsCommand = if bs = [] then .badValue else if 31 < byte 0 then .noSuchPoint
      else if bs.length ≠ 11 ∨ 1 < byte 10 then .badValue
      else if slotGet s.plan.staged (byte 0) = none then .noSuchPoint
      else if near (whole 4) < near (whole 1) then .badValue
      else if near (whole 1) = whole 1 ∧ near (whole 4) = whole 4 ∧ num 7 3 ≤ 99999 then .done else .doneClamped) ∧
    (code planClearCommand = if ∃ x ∈ bs.take 2, 31 < x.toNat then .noSuchPoint
      else if bs.length ≠ 2 ∨ byte 1 < byte 0 then .badValue else .done) ∧
    code planHoldCommand = none_ ∧ code planReleaseCommand = none_ ∧
    code clearNoticesCommand = two ∧ code noticeMaskCommand = two ∧
    (code endBatchCommand = if bs ≠ [] then .badValue else if s.meter.batch = .pressing then .busy else .done) ∧
    (code retrySealCommand = if bs ≠ [] then .badValue else if s.meter.batch = .sealFault then .done else .wrongState) ∧
    (bs = [] → code readingCommand = .badValue) ∧
    (bs ≠ [] → 31 < byte 0 → code readingCommand = .noSuchPoint) ∧
    (bs ≠ [] → byte 0 ≤ 31 →
      (bs.length ≠ 7 ∨ 1 < byte 1 ∨ 10 ^ 12 ≤ num 2 5 → code readingCommand = .badValue) ∧
      (bs.length = 7 → byte 1 ≤ 1 → num 2 5 < 10 ^ 12 →
        (s.meter.batch = .idle → code readingCommand = .wrongState) ∧
        (s.meter.batch ≠ .idle → byte 1 = 0 →
          code readingCommand = if s.run.run.map Run.p = some (byte 0) then .wrongState else .done) ∧
        (s.meter.batch ≠ .idle → byte 1 = 1 →
          (slotGet s.meter.records (byte 0) = none → code readingCommand = .noSuchPoint) ∧
          ∀ x, slotGet s.meter.records (byte 0) = some x →
            (x.verdict ≠ .pending → code readingCommand = .wrongState) ∧
            ∀ b a m limits void st, x.verdict = .pending → x.body = .register (some b) a m limits void st →
              code readingCommand = if num 2 5 < b then .badValue else .done)))

/-- O48. SETUP in IDLE replaces every setup value by the one carried, brought into its range; in any other batch state it
changes none. Individual or to a group alike. -/
def Obligations.SetupReplacesValues : Prop :=
  ∀ (h : Hdr) (bs : List Byte) (v : Setup) (s : State), Hears s → FromConsole h → ToThis h s ∨ ToGroup h →
    readSetup bs = some v →
    ∃ t, exec (.setup h bs) s = .next t ∧
      t = { s with line := t.line, cmd := t.cmd, meter := t.meter, sealUnit := t.sealUnit } ∧
      t.cmd.mask = s.cmd.mask ∧
      (s.meter.batch ≠ .idle → t.cmd.setup = s.cmd.setup) ∧
      (s.meter.batch = .idle → t.meter = s.meter ∧ t.sealUnit = s.sealUnit ∧ t.cmd.setup =
        ⟨max 1 (min (10 ^ 12) v.cRef), max 1 (min 60 v.agingPeriod), max 1 (min 8 v.pressBudget),
          max 1 (min 10 v.strokeTimeout), max 0 (min 30 v.scannerGrace), max 0 (min 255 v.mutWidth),
          max 0 (min 65535 v.mutInterval), max 1 (min 10000 v.tolPpm), v.streaming⟩)

/-- O49. SET_METER in IDLE and LOADED stores identity and constant (brought into 1 to 10^9), starts the batch clock at 0
and leaves LOADED; in LOADED it also empties the BEFORE slots; the held number is kept. In any other batch state, or with
an identity that is empty, too long or not printable, the meter record is unchanged. -/
def Obligations.SetMeterLoads : Prop :=
  ∀ (h : Hdr) (bs : List Byte) (c : Nat) (identity : Text) (s : State), Hears s → FromConsole h →
    ToThis h s ∨ ToGroup h → bs.length ≤ 16 → readSetMeter bs = some (c, identity) → s.meter.batch ≠ .claiming →
    let ok := 1 ≤ identity.length ∧ identity.length ≤ 12 ∧ ∀ x ∈ identity, 32 ≤ x.toNat ∧ x.toNat ≤ 126
    ∃ t, exec (.setMeter h bs) s = .next t ∧
      t = { s with line := t.line, cmd := t.cmd, meter := t.meter, run := t.run } ∧ t.cmd.setup = s.cmd.setup ∧
      (¬ ok ∨ (s.meter.batch ≠ .idle ∧ s.meter.batch ≠ .loaded) → t.meter = s.meter ∧ t.run = s.run) ∧
      (ok → s.meter.batch = .idle ∨ s.meter.batch = .loaded →
        t.meter = { s.meter with
          identity := some identity
          constant := some (max 1 (min (10 ^ 9) c))
          batch := .loaded
          clock := some ⟨0, s.fe.now + 100000000#48⟩ } ∧
        t.run.run = s.run.run ∧ t.run.standing = s.run.standing ∧
        ∀ p < 32, slotGet t.run.slots p = if s.meter.batch = .loaded then none else slotGet s.run.slots p)

/-- O50. Readings outside IDLE: a BEFORE of an index with no run open fills its slot, and of an open run's index changes
nothing; an AFTER at or above the BEFORE of a PENDING record resolves it in place, with the register result, queues its
POINT-RESULT and restates the latest point standing, and the meter record is evaluated; one below it, or for a record not
PENDING or absent, changes no record. -/
def Obligations.ReadingsTaken : Prop :=
  ∀ (h : Hdr) (p : Byte) (digits : List Byte) (s : State), Hears s → FromConsole h → ToThis h s ∨ ToGroup h →
    p.toNat ≤ 31 → digits.length = 5 → beNat digits < 10 ^ 12 → s.meter.batch ≠ .idle → s.meter.batch ≠ .claiming →
    let q := p.toNat
    let v := beNat digits
    (∃ t, exec (.readingBefore h (p :: 0 :: digits)) s = .next t ∧
      t = { s with line := t.line, cmd := t.cmd, run := t.run } ∧ t.cmd.setup = s.cmd.setup ∧
      t.run.run = s.run.run ∧ t.run.standing = s.run.standing ∧
      ((∃ x, s.run.run = some x ∧ x.p = q) → t.run.slots = s.run.slots) ∧
      ((∀ x, s.run.run = some x → x.p ≠ q) → slotGet t.run.slots q = some v ∧
        ∀ k < 32, k ≠ q → slotGet t.run.slots k = slotGet s.run.slots k)) ∧
    ∃ t, exec (.readingAfter h (p :: 1 :: digits)) s = .next t ∧ t.run = s.run ∧ t.plan = s.plan ∧
      t.fe = s.fe ∧ t.trk = s.trk ∧ t.ec = s.ec ∧ t.roster = s.roster ∧
      (∀ k < 32, k ≠ q → slotGet t.meter.records k = slotGet s.meter.records k) ∧
      (∀ x b m limits void st, slotGet s.meter.records q = some x → x.verdict = .pending →
        x.body = .register (some b) none m limits void st → b ≤ v →
        let res := registerResult s.cmd.setup.cRef b v m
        ∃ y, slotGet t.meter.records q = some y ∧
          y = { x with
            verdict := y.verdict
            value := y.value
            body := .register (some b) (some v) m limits void (some res.status) } ∧
          (void = true ∨ res.status = .noReference → y.verdict = .void ∧ y.value = none) ∧
          (void = false → res.status = .clamped →
            y.verdict = (if limits.isSome then .fail else .info) ∧ y.value = res.error) ∧
          (void = false → res.status = .valid → y.value = res.error ∧
            (limits = none → y.verdict = .info) ∧
            ∀ l e, limits = some l → res.error = some e →
              y.verdict = if l.lower ≤ e ∧ e ≤ l.upper then .pass else .fail) ∧
          (s.meter.held = none → s.meter.batch = .running ∨ s.meter.batch = .rejected ∨ s.meter.batch = .awaitSeal →
            Evaluated t) ∧
          (ToGroup h → ¬ ToThis h s → s.meter.held = none → s.line.queue.length ≤ 6 →
            let queues (restated : List TxMsg) : Prop := t.line.queue = s.line.queue ++
              (.pointResult y.p y.r y.verdict y.value y.spread y.completed :: restated).map
                fun m => ⟨m, s.fe.now, 0, false⟩
            (s.run.standing = .none → queues []) ∧
            (∀ p' r', s.run.standing = .withdrawn p' r' → queues [.progress p' r' .withdrawn s.meter.batch]) ∧
            (∀ p' r' z, s.run.standing = .opened p' r' → s.run.run = some z →
              queues [.progress z.p z.r z.progress s.meter.batch]) ∧
            (s.run.standing = .closed x.p x.r → queues []) ∧
            ∀ p' r' z, s.run.standing = .closed p' r' → p' ≠ x.p → p' ≠ q → slotGet s.meter.records p' = some z →
              z.p = p' → queues [.pointResult p' z.r z.verdict z.value z.spread z.completed])) ∧
      ((∀ x, slotGet s.meter.records q = some x → x.verdict ≠ .pending) → t.meter.records = s.meter.records) ∧
      (∀ x b a m limits void st, slotGet s.meter.records q = some x → x.verdict = .pending →
        x.body = .register (some b) a m limits void st → v < b → t.meter.records = s.meter.records)

/-- O51. QUERY of the meter or of an index with a record ends any series and begins one of the total of Table 11.4, with
part 0 queued and no REPLY; of an index without a record, or above 31, it is answered NO_SUCH_POINT. A queued part of the
series that ends leaves the queue without a notice; one under attempt stays, and nothing follows it. A queued SUPERSEDED part stays as well: that its
series has ended at its queuing, so that the QUERY does not remove it, is the model's choice (log 34). (Room in the queue
after that.) -/
def Obligations.QueryBeginsSeries : Prop :=
  ∀ (h : Hdr) (b : Byte) (s : State), Hears s → FromConsole h → ToThis h s →
    let rest := s.line.queue.filterMap fun f => match f.msg with
      | .detail part total content true =>
        if f.sending then some { f with msg := .detail part total content false } else none
      | _ => some f
    rest.length < 8 →
    let answer (series : Option Series) (m : TxMsg) : Prop :=
      exec (.query h [b]) s = .next { s with
        cmd := { s.cmd with series := series }
        line := { s.line with
          drive := .acknowledgeSlot
          idle := false
          queue := rest ++ [⟨m, s.fe.now, 0, false⟩] } }
    (b = 255 → answer (some ⟨.meter, 1, 5, false⟩) (.detail 0 5 (meterPart s.meter 0) true)) ∧
    (b ≠ 255 → slotGet s.meter.records b.toNat = none → answer none (.reply .query .noSuchPoint)) ∧
    ∀ x, b ≠ 255 → slotGet s.meter.records b.toNat = some x →
      (∀ kept, x.body = .accuracy kept → answer (some ⟨.point b.toNat, 1, 1 + (kept.length + 1) / 2, false⟩)
        (.detail 0 (1 + (kept.length + 1) / 2) (recordPart x 0) true)) ∧
      (∀ n off, x.body = .window n off → answer (some ⟨.point b.toNat, 1, 1, false⟩)
        (.detail 0 1 (recordPart x 0) true)) ∧
      (∀ r1 r2 m l v st, x.body = .register r1 r2 m l v st → answer (some ⟨.point b.toNat, 1, 3, false⟩)
        (.detail 0 3 (recordPart x 0) true))

/-- O52. END_BATCH outside PRESSING clears the meter record, the BEFORE slots and the standing, supersedes a DETAIL
series of a point and leaves one of the meter, discards an open run without a record, and withdraws a claim with its RELEASE owed; plans, setup values, seal log and roster stay. In PRESSING
it changes no block but the transmit queue. That a number held in IDLE is cleared as well is the model's choice (log 24).
RETRY_SEAL in SEAL_FAULT returns to AWAIT_SEAL and evaluates; a number held is then checked if the verdict is still
ELIGIBLE, and kept unchecked if not. In any other batch state it changes no record. -/
def Obligations.BatchEndsAndRetries : Prop :=
  ∀ (h : Hdr) (s : State), Hears s → FromConsole h → ToThis h s ∨ ToGroup h →
    (s.meter.batch ≠ .pressing → ∃ t, exec (.endBatch h []) s = .next t ∧
      t.meter.identity = none ∧ t.meter.constant = none ∧ t.meter.batch = .idle ∧ t.meter.verdict = none ∧
      t.meter.held = none ∧ t.meter.sealRecord = none ∧ t.meter.clock = none ∧
      (∀ p < 32, slotGet t.meter.records p = none ∧ slotGet t.run.slots p = none) ∧
      t.run.run = none ∧ t.run.standing = .none ∧ t.plan = s.plan ∧ t.cmd.setup = s.cmd.setup ∧
      t.cmd.mask = s.cmd.mask ∧ t.sealUnit.log = s.sealUnit.log ∧ t.roster = s.roster ∧
      t.sealUnit.pressList = s.sealUnit.pressList ∧
      (s.line.queue.length ≤ 6 → t.cmd.series = s.cmd.series.map fun q =>
        if q.subject = .meter then q else { q with superseded := true }) ∧
      (∀ c, s.meter.batch = .claiming → s.sealUnit.current = some c →
        t.sealUnit.current = none ∧ t.sealUnit.owed = some ⟨c.number, .abandoned⟩) ∧
      ∀ x, s.run.run = some x → x.kind = .accuracy → t.ec = .idle) ∧
    (s.meter.batch = .pressing → ∃ t, exec (.endBatch h []) s = .next t ∧
      t = { s with line := t.line, cmd := t.cmd } ∧ t.cmd.setup = s.cmd.setup) ∧
    (s.meter.batch = .sealFault → s.meter.held = none →
      ∃ t, exec (.retrySeal h []) s = .next t ∧ t = { s with line := t.line, cmd := t.cmd, meter := t.meter } ∧
        t.meter = { s.meter with verdict := t.meter.verdict, batch := t.meter.batch } ∧ Evaluated t) ∧
    (∀ number, s.meter.batch = .sealFault → s.meter.held = some number → s.line.queue.length ≤ 6 →
      ∃ t, exec (.retrySeal h []) s = .next t ∧ t.meter.records = s.meter.records ∧ t.run = s.run ∧ t.plan = s.plan ∧
        (¬ (VerdictExists s ∧ AllPass s) →
          Evaluated t ∧ t.meter.held = some number ∧ t.sealUnit = s.sealUnit) ∧
        (VerdictExists s → AllPass s → t.meter.verdict = some .eligible ∧ SealChecked number s t)) ∧
    (s.meter.batch ≠ .sealFault → s.meter.batch ≠ .claiming → ∃ t, exec (.retrySeal h []) s = .next t ∧
      t = { s with line := t.line, cmd := t.cmd })

/-- O53. CLEAR_NOTICES clears every named notice, and a named level notice whose condition holds is pending again without
a NOTICE; the others are untouched. NOTICE_MASK makes the mask the carried set, and no NOTICE is queued by the change.
Both are answered DONE, and taken from a group without a REPLY. RESTART to this station begins a command reset, with
PRESS-DRIVE inactive, nothing driven on the line and no REPLY; that the blocks keep their values until it ends is the
model's choice (log 16). -/
def Obligations.NoticeCommandsAndRestart : Prop :=
  ∀ (h : Hdr) (hi lo : Byte) (s : State), Hears s → FromConsole h →
    let set : BitVec 10 := BitVec.ofNat 10 (hi.toNat * 256 + lo.toNat)
    let masked : State := { acked s with cmd := { s.cmd with mask := set } }
    (∃ notices, let cleared : State := { acked s with cmd := { s.cmd with notices := notices } }
      (ToThis h s → exec (.clearNotices h [hi, lo]) s = .next (enqueue (.reply .clearNotices .done) cleared)) ∧
      (ToGroup h → exec (.clearNotices h [hi, lo]) s = .next cleared) ∧
      ∀ n : Notice, hasNotice notices n =
        if hasNotice set n then
          (decide (n = .refSuspect) && s.xc.suspect) || (decide (n = .scannerAbsent) && s.fe.absent) ||
            (decide (n = .duplicateNumber) && decide (s.line.state = .muted))
        else hasNotice s.cmd.notices n) ∧
    (ToThis h s → exec (.noticeMask h [hi, lo]) s = .next (enqueue (.reply .noticeMask .done) masked)) ∧
    (ToGroup h → exec (.noticeMask h [hi, lo]) s = .next masked) ∧
    (ToThis h s → exec (.restart h []) s = .next { s with
      phase := .command
      sealUnit := { s.sealUnit with pressDrive := false }
      line := { s.line with drive := .nothing, idle := false } })

/-! ### Encodings -/

/-- O54. Every frame whose length field is its payload's length comes back from its stuffed bits, with every header field
and payload byte, whatever they hold. What the station has on the line in an attempt is received as a frame of its own
number, of the class, kind number and destination of Table 10.2, with its payload; the slots and the end are recessive;
outside an attempt and in a reset it has nothing on the line. A receiver drives one slot or the eight bits of an objection
run. A line that any node drives dominant is dominant, at 1500 mV or more, and else at 0 V; a receiver reads dominant from
900 mV on and recessive up to 500 mV, so that it reads the level of the line; the bits sampled from levels that hold for
a bit time each are those bits. -/
def Obligations.FrameRoundTrip : Prop :=
  (∀ f : RxFrame, lengthAgrees f.length f.payload = true → receiveBits (stuff (plainBits f)) = some f) ∧
  (∀ (s : State) (f : TxFrame), s.phase = .running → s.line.queue.find? TxFrame.sending = some f →
    f.msg.payload.length ≤ 16 → s.line.own < 64 →
    ∃ bits g, wireOutput s = some (bits ++ List.replicate 9 true) ∧ receiveBits bits = some g ∧
      g.sender.toNat = s.line.own ∧ g.length.toNat = f.msg.payload.length ∧ g.payload = f.msg.payload ∧
      (g.cls.toNat, g.kind.toNat, g.dest.toNat) = match f.msg with
        | .join _ _ => (3, 32, 63) | .status _ => (3, 33, 63) | .progress _ _ _ _ => (1, 34, 63)
        | .measurement _ _ _ _ _ => (3, 35, 61) | .pointResult _ _ _ _ _ _ => (1, 36, 63) | .tally _ _ => (1, 37, 63)
        | .claim _ _ => (0, 38, 63) | .release _ _ => (0, 39, 63) | .sealed _ => (1, 40, 63) | .notice _ => (2, 41, 61)
        | .reply _ _ => (2, 42, 61) | .detail _ _ _ _ => (2, 43, 61)) ∧
  (∀ s : State, s.phase ≠ .running ∨ (∀ f ∈ s.line.queue, f.sending = false) → wireOutput s = none) ∧
  (receiverBits .acknowledgeSlot = [false, true] ∧ receiverBits .objectionSlot = [true, false] ∧
    receiverBits .objectionRun = List.replicate 8 false ∧ receiverBits .nothing = []) ∧
  (∀ levels : List Bool, (wiredAnd levels = false ↔ false ∈ levels) ∧
    (false ∈ levels → 1500 ≤ lineDifferential levels) ∧ (false ∉ levels → lineDifferential levels = 0) ∧
    receiverReads (lineDifferential levels) = wiredAnd levels) ∧
  (∀ mV : Int, (900 ≤ mV → receiverReads mV = false) ∧ (mV ≤ 500 → receiverReads mV = true)) ∧
  ∀ bits : List Bool, sample (bits.flatMap (List.replicate 200)) = bits

/-- O55. A stuffed span holds no run of seven equal bits, so a receiver meets no stuffing violation in it and gets back the
bits that were stuffed. -/
def Obligations.StuffingBoundsRuns : Prop :=
  ∀ bits : List Bool, destuff (stuff bits) = some bits ∧ ∀ b : Bool, ¬ List.replicate 7 b <:+: stuff bits

/-- O56. The console payloads come back from their bytes: setup values, point parts and limits of any value their fields
can carry. The payloads the station sends hold the fields of Tables 10.7 and 11.4 in their order, each of its width, most
significant byte first, with the codes of Table 10.8 and the absent codes, a signed field in two's complement. -/
def Obligations.PayloadRoundTrips : Prop :=
  let is (bs : List Byte) (widths values : List Nat) : Prop := bs.length = widths.sum ∧ fieldsOf widths bs = values
  let signed (x : Option Int) : Nat := ((x.getD (-8388608)) % 2 ^ 24).toNat
  ([BatchState.idle, .loaded, .running, .rejected, .awaitSeal, .claiming, .pressing, .sealed, .sealFault].map
      BatchState.code = [0, 1, 2, 3, 4, 5, 6, 7, 8] ∧
    [Progress.opened, .measuring, .settled, .withdrawn].map Progress.code = [0, 1, 2, 3] ∧
    [Verdict.pass, .fail, .info, .unsettled, .incomplete, .void, .pending].map Verdict.code = [0, 1, 2, 3, 4, 5, 6] ∧
    [none, some Overall.eligible, some .rejected].map overallCode = [0, 1, 2] ∧
    [none, some Cause.scanner, some .time, some .forced, some .noReading].map causeCode = [0, 1, 2, 3, 4] ∧
    [GateStatus.valid, .coarse, .suspect, .clamped, .noReference, .overrate, .gateLong].map GateStatus.code =
      [0, 1, 2, 3, 4, 5, 6] ∧
    [PlanKind.accuracy, .creep, .start, .register].map PlanKind.code = [0, 1, 2, 3] ∧
    [JoinCause.power, .pin, .command, .lineReturn].map JoinCause.code = [0, 1, 2, 3] ∧
    [ReleaseReason.done, .fault, .abandoned].map ReleaseReason.code = [0, 1, 2] ∧
    [ReplyCode.done, .doneClamped, .busy, .wrongState, .noSuchPoint, .badValue].map ReplyCode.code = [0, 1, 2, 3, 4, 5]) ∧
  (∀ p r : Nat, p < 256 → r < 256 →
    (∀ c b, is (TxMsg.join c (some b)).payload [1, 1] [c.code, b.code]) ∧
    (∀ b v (set : BitVec 10),
      is (TxMsg.status (some ⟨b, some (p, r, v), set⟩)).payload [1, 1, 1, 1, 2] [b.code, p, r, v.code, set.toNat] ∧
      is (TxMsg.status (some ⟨b, none, set⟩)).payload [1, 1, 1, 1, 2] [b.code, 255, 0, 0, set.toNat] ∧
      is (TxMsg.progress p r v b).payload [1, 1, 1, 1] [p, r, v.code, b.code] ∧
      is (TxMsg.notice set).payload [2] [set.toNat]) ∧
    (∀ q st e, q < 65536 → is (TxMsg.measurement p r q st e).payload [1, 1, 2, 1, 3] [p, r, q, st.code, signed e]) ∧
    (∀ v x sp n, n < 65536 → (∀ d, sp = some d → d < 2 ^ 24) → is (TxMsg.pointResult p r v x sp n).payload
      [1, 1, 1, 3, 3, 2] [p, r, v.code, signed x, sp.getD 16777215, n]) ∧
    (∀ (w : BitVec 16) k, k < 2 ^ 48 → is (TxMsg.tally w k).payload [2, 6] [w.toNat, k]) ∧
    (∀ text, is ((TxMsg.claim r text).payload.take 1) [1] [r] ∧ (TxMsg.claim r text).payload.drop 1 = text ∧
      (TxMsg.sealed text).payload = text) ∧
    (∀ reason, is (TxMsg.release r reason).payload [1, 1] [r, reason.code]) ∧
    (∀ k c, is (TxMsg.reply k c).payload [1, 1] [k.number, c.code]) ∧
    ∀ part total content live, part < 16 → total < 16 →
      is ((TxMsg.detail part total content live).payload.take 1) [1] [part * 16 + total] ∧
      (TxMsg.detail part total content live).payload.drop 1 = content) ∧
  (∀ x : PointRecord, x.p < 256 → x.r < 256 → x.completed < 65536 → x.streamDrops < 65536 →
    (∀ d, x.spread = some d → d < 2 ^ 24) →
    let head := [x.p, x.r, x.kind.code + (if x.stale then 128 else 0), x.verdict.code, causeCode x.cause]
    (∀ kept, x.body = .accuracy kept →
      is (recordPart x 0) [1, 1, 1, 1, 1, 3, 3, 2, 2]
        (head ++ [signed x.value, x.spread.getD 16777215, x.completed, x.streamDrops]) ∧
      ∀ k a, kept[2 * k]? = some a → a.seq < 65536 →
        (kept.length = 2 * k + 1 → is (recordPart x (k + 1)) [2, 1, 3] [a.seq, a.status.code, signed a.error]) ∧
        ∀ b, kept[2 * k + 1]? = some b → b.seq < 65536 → is (recordPart x (k + 1)) [2, 1, 3, 2, 1, 3]
          [a.seq, a.status.code, signed a.error, b.seq, b.status.code, signed b.error]) ∧
    (∀ n off, x.body = .window n off → n < 65536 → (∀ d, off = some d → d < 2 ^ 48) →
      is (recordPart x 0) [1, 1, 1, 1, 1, 2, 6] (head ++ [n, off.getD (2 ^ 48 - 1)])) ∧
    ∀ before after m limits void st, x.body = .register before after m limits void st → m < 2 ^ 48 →
      (∀ d, before = some d ∨ after = some d → d < 2 ^ 40) →
      is (recordPart x 0) [1, 1, 1, 1, 1, 3] (head ++ [signed x.value]) ∧
      is (recordPart x 1) [5, 5] [before.getD (2 ^ 40 - 1), after.getD (2 ^ 40 - 1)] ∧
      is (recordPart x 2) [6, 1, 1] [m, (st.map GateStatus.code).getD 255, if void then 1 else 0]) ∧
  (∀ m : MeterRecord, (∀ c, m.constant = some c → c < 2 ^ 32) → (∀ c, m.clock = some c → c.seconds < 2 ^ 40) →
    (∀ c, m.sealRecord = some c → c.clock < 2 ^ 40) →
    is (meterPart m 0) [1, 1, 5, 4] [m.batch.code, overallCode m.verdict,
      (m.clock.map BatchClock.seconds).getD (2 ^ 40 - 1), m.constant.getD 0] ∧
    meterPart m 1 = m.identity.getD [] ∧ meterPart m 2 = m.held.getD [] ∧
    meterPart m 3 = (m.sealRecord.map SealRecord.number).getD [] ∧
    is (meterPart m 4) [5] [(m.sealRecord.map SealRecord.clock).getD (2 ^ 40 - 1)]) ∧
  (∀ v : Setup, v.cRef < 2 ^ 40 → v.agingPeriod < 256 → v.pressBudget < 256 → v.strokeTimeout < 256 →
    v.scannerGrace < 256 → v.mutWidth < 256 → v.mutInterval < 65536 → v.tolPpm < 65536 →
    readSetup (writeSetup v) = some v) ∧
  (∀ n st k m l : Nat, n < 65536 → st < 256 → k < 256 → m < 2 ^ 32 → l < 65536 →
    readPointPart (writePointPart (.accuracy n st k m l)) = some (.accuracy n st k m l)) ∧
  (∀ w a : Nat, w < 65536 → a < 256 →
    readPointPart (writePointPart (.creep w a)) = some (.creep w a) ∧
    readPointPart (writePointPart (.start w a)) = some (.start w a)) ∧
  (∀ l : Nat, l < 65536 → readPointPart (writePointPart (.register l)) = some (.register l)) ∧
  ∀ l : Limits, -(2 : Int) ^ 23 ≤ l.lower → l.lower < 2 ^ 23 → -(2 : Int) ^ 23 ≤ l.upper → l.upper < 2 ^ 23 →
    l.spread < 2 ^ 24 → readLimits (writeLimits l) = some l

/-! ### What every step keeps -/

/-- O57. Every step keeps the transmit queue within 8 frames, one STATUS and one NOTICE. -/
def Obligations.QueueStaysBounded : Prop :=
  ∀ s t : State, QueueBound s → step s = .next t → QueueBound t

/-- O58. Every step keeps the seal log within 128 different numbers, one claim for each station in the press list, and
PRESS-DRIVE active in PRESSING alone. -/
def Obligations.SealUnitStaysSound : Prop :=
  (∀ s t : State, SealLogBound s → step s = .next t → SealLogBound t) ∧
  (∀ s t : State, OneClaimEach s → step s = .next t → OneClaimEach t) ∧
  ∀ s t : State, DriveOnlyPressing s → step s = .next t → DriveOnlyPressing t

/-- O59. Every step keeps one roster entry for each peer, positions alone and never the own number. -/
def Obligations.RosterStaysKeyed : Prop :=
  ∀ s t : State, RosterKeys s → step s = .next t → RosterKeys t

/-- O60. Every step keeps at most 4 waiting markers without their next reference stamp, at most 16 kept results, and the
batch state RUNNING while a run is open. -/
def Obligations.RunsStaySound : Prop :=
  (∀ s t : State, MarkersWait s → step s = .next t → MarkersWait t) ∧
  (∀ s t : State, KeptBound s → step s = .next t → KeptBound t) ∧
  ∀ s t : State, RunOnlyRunning s → step s = .next t → RunOnlyRunning t
end

