-- ==== Sys2Proof/Laws/State.lean ====
section
/-! SUPPORT. One lemma for each field and each named update of the state: what the update leaves and what it writes. -/

namespace Sys2Proof.Machine

/-! ### setRun -/

@[simp] theorem setRun_pins (x : Run) (s : State) : (setRun x s).pins = s.pins := rfl
@[simp] theorem setRun_phase (x : Run) (s : State) : (setRun x s).phase = s.phase := rfl
@[simp] theorem setRun_fe (x : Run) (s : State) : (setRun x s).fe = s.fe := rfl
@[simp] theorem setRun_trk (x : Run) (s : State) : (setRun x s).trk = s.trk := rfl
@[simp] theorem setRun_ec (x : Run) (s : State) : (setRun x s).ec = s.ec := rfl
@[simp] theorem setRun_plan (x : Run) (s : State) : (setRun x s).plan = s.plan := rfl
@[simp] theorem setRun_meter (x : Run) (s : State) : (setRun x s).meter = s.meter := rfl
@[simp] theorem setRun_lamp (x : Run) (s : State) : (setRun x s).lamp = s.lamp := rfl
@[simp] theorem setRun_roster (x : Run) (s : State) : (setRun x s).roster = s.roster := rfl
@[simp] theorem setRun_xc (x : Run) (s : State) : (setRun x s).xc = s.xc := rfl
@[simp] theorem setRun_sealUnit (x : Run) (s : State) : (setRun x s).sealUnit = s.sealUnit := rfl
@[simp] theorem setRun_sealRx (x : Run) (s : State) : (setRun x s).sealRx = s.sealRx := rfl
@[simp] theorem setRun_line (x : Run) (s : State) : (setRun x s).line = s.line := rfl
@[simp] theorem setRun_cmd (x : Run) (s : State) : (setRun x s).cmd = s.cmd := rfl
@[simp] theorem setRun_pending (x : Run) (s : State) : (setRun x s).pending = s.pending := rfl
@[simp] theorem setRun_run (x : Run) (s : State) : (setRun x s).run = { s.run with run := some x } := rfl

/-! ### withStrokeDone -/

@[simp] theorem withStrokeDone_phase (b : Bool) (s : State) : (withStrokeDone b s).phase = s.phase := rfl
@[simp] theorem withStrokeDone_fe (b : Bool) (s : State) : (withStrokeDone b s).fe = s.fe := rfl
@[simp] theorem withStrokeDone_trk (b : Bool) (s : State) : (withStrokeDone b s).trk = s.trk := rfl
@[simp] theorem withStrokeDone_ec (b : Bool) (s : State) : (withStrokeDone b s).ec = s.ec := rfl
@[simp] theorem withStrokeDone_plan (b : Bool) (s : State) : (withStrokeDone b s).plan = s.plan := rfl
@[simp] theorem withStrokeDone_run (b : Bool) (s : State) : (withStrokeDone b s).run = s.run := rfl
@[simp] theorem withStrokeDone_meter (b : Bool) (s : State) : (withStrokeDone b s).meter = s.meter := rfl
@[simp] theorem withStrokeDone_lamp (b : Bool) (s : State) : (withStrokeDone b s).lamp = s.lamp := rfl
@[simp] theorem withStrokeDone_roster (b : Bool) (s : State) : (withStrokeDone b s).roster = s.roster := rfl
@[simp] theorem withStrokeDone_xc (b : Bool) (s : State) : (withStrokeDone b s).xc = s.xc := rfl
@[simp] theorem withStrokeDone_sealUnit (b : Bool) (s : State) : (withStrokeDone b s).sealUnit = s.sealUnit := rfl
@[simp] theorem withStrokeDone_sealRx (b : Bool) (s : State) : (withStrokeDone b s).sealRx = s.sealRx := rfl
@[simp] theorem withStrokeDone_line (b : Bool) (s : State) : (withStrokeDone b s).line = s.line := rfl
@[simp] theorem withStrokeDone_cmd (b : Bool) (s : State) : (withStrokeDone b s).cmd = s.cmd := rfl
@[simp] theorem withStrokeDone_pending (b : Bool) (s : State) : (withStrokeDone b s).pending = s.pending := rfl
@[simp] theorem withStrokeDone_pins (b : Bool) (s : State) :
    (withStrokeDone b s).pins = { s.pins with strokeDone := b } := rfl

/-! ### driveAs -/

@[simp] theorem driveAs_pins (d : ReceiverDrive) (s : State) : (driveAs d s).pins = s.pins := rfl
@[simp] theorem driveAs_phase (d : ReceiverDrive) (s : State) : (driveAs d s).phase = s.phase := rfl
@[simp] theorem driveAs_fe (d : ReceiverDrive) (s : State) : (driveAs d s).fe = s.fe := rfl
@[simp] theorem driveAs_trk (d : ReceiverDrive) (s : State) : (driveAs d s).trk = s.trk := rfl
@[simp] theorem driveAs_ec (d : ReceiverDrive) (s : State) : (driveAs d s).ec = s.ec := rfl
@[simp] theorem driveAs_plan (d : ReceiverDrive) (s : State) : (driveAs d s).plan = s.plan := rfl
@[simp] theorem driveAs_run (d : ReceiverDrive) (s : State) : (driveAs d s).run = s.run := rfl
@[simp] theorem driveAs_meter (d : ReceiverDrive) (s : State) : (driveAs d s).meter = s.meter := rfl
@[simp] theorem driveAs_lamp (d : ReceiverDrive) (s : State) : (driveAs d s).lamp = s.lamp := rfl
@[simp] theorem driveAs_roster (d : ReceiverDrive) (s : State) : (driveAs d s).roster = s.roster := rfl
@[simp] theorem driveAs_xc (d : ReceiverDrive) (s : State) : (driveAs d s).xc = s.xc := rfl
@[simp] theorem driveAs_sealUnit (d : ReceiverDrive) (s : State) : (driveAs d s).sealUnit = s.sealUnit := rfl
@[simp] theorem driveAs_sealRx (d : ReceiverDrive) (s : State) : (driveAs d s).sealRx = s.sealRx := rfl
@[simp] theorem driveAs_cmd (d : ReceiverDrive) (s : State) : (driveAs d s).cmd = s.cmd := rfl
@[simp] theorem driveAs_pending (d : ReceiverDrive) (s : State) : (driveAs d s).pending = s.pending := rfl

/-! ### acked -/

@[simp] theorem acked_pins (s : State) : (acked s).pins = s.pins := rfl
@[simp] theorem acked_phase (s : State) : (acked s).phase = s.phase := rfl
@[simp] theorem acked_fe (s : State) : (acked s).fe = s.fe := rfl
@[simp] theorem acked_trk (s : State) : (acked s).trk = s.trk := rfl
@[simp] theorem acked_ec (s : State) : (acked s).ec = s.ec := rfl
@[simp] theorem acked_plan (s : State) : (acked s).plan = s.plan := rfl
@[simp] theorem acked_run (s : State) : (acked s).run = s.run := rfl
@[simp] theorem acked_meter (s : State) : (acked s).meter = s.meter := rfl
@[simp] theorem acked_lamp (s : State) : (acked s).lamp = s.lamp := rfl
@[simp] theorem acked_roster (s : State) : (acked s).roster = s.roster := rfl
@[simp] theorem acked_xc (s : State) : (acked s).xc = s.xc := rfl
@[simp] theorem acked_sealUnit (s : State) : (acked s).sealUnit = s.sealUnit := rfl
@[simp] theorem acked_sealRx (s : State) : (acked s).sealRx = s.sealRx := rfl
@[simp] theorem acked_cmd (s : State) : (acked s).cmd = s.cmd := rfl
@[simp] theorem acked_pending (s : State) : (acked s).pending = s.pending := rfl
@[simp] theorem acked_line (s : State) : (acked s).line =
    { s.line with drive := .acknowledgeSlot, idle := false } := rfl

/-! ### holdReset -/

@[simp] theorem holdReset_pins (p : Phase) (s : State) : (holdReset p s).pins = s.pins := rfl
@[simp] theorem holdReset_fe (p : Phase) (s : State) : (holdReset p s).fe = s.fe := rfl
@[simp] theorem holdReset_trk (p : Phase) (s : State) : (holdReset p s).trk = s.trk := rfl
@[simp] theorem holdReset_ec (p : Phase) (s : State) : (holdReset p s).ec = s.ec := rfl
@[simp] theorem holdReset_plan (p : Phase) (s : State) : (holdReset p s).plan = s.plan := rfl
@[simp] theorem holdReset_run (p : Phase) (s : State) : (holdReset p s).run = s.run := rfl
@[simp] theorem holdReset_meter (p : Phase) (s : State) : (holdReset p s).meter = s.meter := rfl
@[simp] theorem holdReset_lamp (p : Phase) (s : State) : (holdReset p s).lamp = s.lamp := rfl
@[simp] theorem holdReset_roster (p : Phase) (s : State) : (holdReset p s).roster = s.roster := rfl
@[simp] theorem holdReset_xc (p : Phase) (s : State) : (holdReset p s).xc = s.xc := rfl
@[simp] theorem holdReset_sealRx (p : Phase) (s : State) : (holdReset p s).sealRx = s.sealRx := rfl
@[simp] theorem holdReset_cmd (p : Phase) (s : State) : (holdReset p s).cmd = s.cmd := rfl
@[simp] theorem holdReset_pending (p : Phase) (s : State) : (holdReset p s).pending = s.pending := rfl
@[simp] theorem holdReset_phase (p : Phase) (s : State) : (holdReset p s).phase = p := rfl
@[simp] theorem holdReset_sealUnit (p : Phase) (s : State) :
    (holdReset p s).sealUnit = { s.sealUnit with pressDrive := false } := rfl
@[simp] theorem holdReset_line (p : Phase) (s : State) :
    (holdReset p s).line = { s.line with drive := .nothing } := rfl

/-! ### advance -/

@[simp] theorem advance_pins (s : State) : (advance s).pins = s.pins := rfl
@[simp] theorem advance_phase (s : State) : (advance s).phase = s.phase := rfl
@[simp] theorem advance_trk (s : State) : (advance s).trk = s.trk := rfl
@[simp] theorem advance_ec (s : State) : (advance s).ec = s.ec := rfl
@[simp] theorem advance_plan (s : State) : (advance s).plan = s.plan := rfl
@[simp] theorem advance_run (s : State) : (advance s).run = s.run := rfl
@[simp] theorem advance_meter (s : State) : (advance s).meter = s.meter := rfl
@[simp] theorem advance_lamp (s : State) : (advance s).lamp = s.lamp := rfl
@[simp] theorem advance_roster (s : State) : (advance s).roster = s.roster := rfl
@[simp] theorem advance_xc (s : State) : (advance s).xc = s.xc := rfl
@[simp] theorem advance_sealUnit (s : State) : (advance s).sealUnit = s.sealUnit := rfl
@[simp] theorem advance_sealRx (s : State) : (advance s).sealRx = s.sealRx := rfl
@[simp] theorem advance_line (s : State) : (advance s).line = s.line := rfl
@[simp] theorem advance_cmd (s : State) : (advance s).cmd = s.cmd := rfl
@[simp] theorem advance_pending (s : State) : (advance s).pending = s.pending := rfl
@[simp] theorem advance_fe (s : State) :
    (advance s).fe = { s.fe with now := s.fe.now + 1, stoppedGrace := none } := rfl

/-! ### restoreGrace, spendGrace, presentRises -/

@[simp] theorem restoreGrace_eq (s : State) : restoreGrace s = { s with fe := { s.fe with
    absenceTimer := graceAfterEdge s.fe, stoppedGrace := none } } := rfl

/-- An edge puts no timer back that the rise did not hold, and puts back the held one or none (R11, R82). -/
theorem graceAfterEdge_cases (fe : FrontEnd) : (fe.stoppedGrace = none ∧ graceAfterEdge fe = fe.absenceTimer) ∨
    ∃ a, fe.stoppedGrace = some a ∧ graceAfterEdge fe = if Config.graceAfterDecision then some a else fe.absenceTimer := by
  cases h : fe.stoppedGrace <;> simp [graceAfterEdge, h]

@[simp] theorem spendGrace_eq (s : State) : spendGrace s = { s with fe := { s.fe with stoppedGrace := none } } := rfl
@[simp] theorem presentRises_fe (s : State) : (presentRises s).fe = { s.fe with
    absent := false, absenceTimer := none, stoppedGrace := graceDueNow s.fe } := rfl
@[simp] theorem presentRises_run (s : State) : (presentRises s).run = s.run := rfl
@[simp] theorem presentRises_cmd (s : State) : (presentRises s).cmd = { s.cmd with
    notices := withoutNotice s.cmd.notices .scannerAbsent } := rfl

/-- An absence timer is due now exactly when it expires at the stamp that stands (R11, R82). -/
theorem graceDueNow_eq_some {fe : FrontEnd} {a : AbsenceTimer} :
    graceDueNow fe = some a ↔ fe.absenceTimer = some a ∧ a.expiry = fe.now := by
  simp [graceDueNow, Option.filter_eq_some_iff]

/-! ### startHeartbeat -/

@[simp] theorem startHeartbeat_pins (s : State) : (startHeartbeat s).pins = s.pins := rfl
@[simp] theorem startHeartbeat_phase (s : State) : (startHeartbeat s).phase = s.phase := rfl
@[simp] theorem startHeartbeat_fe (s : State) : (startHeartbeat s).fe = s.fe := rfl
@[simp] theorem startHeartbeat_trk (s : State) : (startHeartbeat s).trk = s.trk := rfl
@[simp] theorem startHeartbeat_ec (s : State) : (startHeartbeat s).ec = s.ec := rfl
@[simp] theorem startHeartbeat_plan (s : State) : (startHeartbeat s).plan = s.plan := rfl
@[simp] theorem startHeartbeat_run (s : State) : (startHeartbeat s).run = s.run := rfl
@[simp] theorem startHeartbeat_meter (s : State) : (startHeartbeat s).meter = s.meter := rfl
@[simp] theorem startHeartbeat_lamp (s : State) : (startHeartbeat s).lamp = s.lamp := rfl
@[simp] theorem startHeartbeat_roster (s : State) : (startHeartbeat s).roster = s.roster := rfl
@[simp] theorem startHeartbeat_xc (s : State) : (startHeartbeat s).xc = s.xc := rfl
@[simp] theorem startHeartbeat_sealUnit (s : State) : (startHeartbeat s).sealUnit = s.sealUnit := rfl
@[simp] theorem startHeartbeat_sealRx (s : State) : (startHeartbeat s).sealRx = s.sealRx := rfl
@[simp] theorem startHeartbeat_cmd (s : State) : (startHeartbeat s).cmd = s.cmd := rfl
@[simp] theorem startHeartbeat_pending (s : State) : (startHeartbeat s).pending = s.pending := rfl
@[simp] theorem startHeartbeat_line (s : State) :
    (startHeartbeat s).line = { s.line with heartbeat := some (later s.fe.now (halfAging s)) } := rfl

/-! ### clearNotice -/

@[simp] theorem clearNotice_pins (n : Notice) (s : State) : (clearNotice n s).pins = s.pins := rfl
@[simp] theorem clearNotice_phase (n : Notice) (s : State) : (clearNotice n s).phase = s.phase := rfl
@[simp] theorem clearNotice_fe (n : Notice) (s : State) : (clearNotice n s).fe = s.fe := rfl
@[simp] theorem clearNotice_trk (n : Notice) (s : State) : (clearNotice n s).trk = s.trk := rfl
@[simp] theorem clearNotice_ec (n : Notice) (s : State) : (clearNotice n s).ec = s.ec := rfl
@[simp] theorem clearNotice_plan (n : Notice) (s : State) : (clearNotice n s).plan = s.plan := rfl
@[simp] theorem clearNotice_run (n : Notice) (s : State) : (clearNotice n s).run = s.run := rfl
@[simp] theorem clearNotice_meter (n : Notice) (s : State) : (clearNotice n s).meter = s.meter := rfl
@[simp] theorem clearNotice_lamp (n : Notice) (s : State) : (clearNotice n s).lamp = s.lamp := rfl
@[simp] theorem clearNotice_roster (n : Notice) (s : State) : (clearNotice n s).roster = s.roster := rfl
@[simp] theorem clearNotice_xc (n : Notice) (s : State) : (clearNotice n s).xc = s.xc := rfl
@[simp] theorem clearNotice_sealUnit (n : Notice) (s : State) : (clearNotice n s).sealUnit = s.sealUnit := rfl
@[simp] theorem clearNotice_sealRx (n : Notice) (s : State) : (clearNotice n s).sealRx = s.sealRx := rfl
@[simp] theorem clearNotice_line (n : Notice) (s : State) : (clearNotice n s).line = s.line := rfl
@[simp] theorem clearNotice_pending (n : Notice) (s : State) : (clearNotice n s).pending = s.pending := rfl
@[simp] theorem clearNotice_cmd (n : Notice) (s : State) :
    (clearNotice n s).cmd = { s.cmd with notices := withoutNotice s.cmd.notices n } := rfl

/-! ### emptySealLine -/

@[simp] theorem emptySealLine_pins (s : State) : (emptySealLine s).pins = s.pins := rfl
@[simp] theorem emptySealLine_phase (s : State) : (emptySealLine s).phase = s.phase := rfl
@[simp] theorem emptySealLine_fe (s : State) : (emptySealLine s).fe = s.fe := rfl
@[simp] theorem emptySealLine_trk (s : State) : (emptySealLine s).trk = s.trk := rfl
@[simp] theorem emptySealLine_ec (s : State) : (emptySealLine s).ec = s.ec := rfl
@[simp] theorem emptySealLine_plan (s : State) : (emptySealLine s).plan = s.plan := rfl
@[simp] theorem emptySealLine_run (s : State) : (emptySealLine s).run = s.run := rfl
@[simp] theorem emptySealLine_meter (s : State) : (emptySealLine s).meter = s.meter := rfl
@[simp] theorem emptySealLine_lamp (s : State) : (emptySealLine s).lamp = s.lamp := rfl
@[simp] theorem emptySealLine_roster (s : State) : (emptySealLine s).roster = s.roster := rfl
@[simp] theorem emptySealLine_xc (s : State) : (emptySealLine s).xc = s.xc := rfl
@[simp] theorem emptySealLine_sealUnit (s : State) : (emptySealLine s).sealUnit = s.sealUnit := rfl
@[simp] theorem emptySealLine_line (s : State) : (emptySealLine s).line = s.line := rfl
@[simp] theorem emptySealLine_cmd (s : State) : (emptySealLine s).cmd = s.cmd := rfl
@[simp] theorem emptySealLine_pending (s : State) : (emptySealLine s).pending = s.pending := rfl
@[simp] theorem emptySealLine_sealRx (s : State) :
    (emptySealLine s).sealRx = { s.sealRx with buffer := [], bad := false, timer := none } := rfl

/-! ### releasePress -/

@[simp] theorem releasePress_pins (s : State) : (releasePress s).pins = s.pins := rfl
@[simp] theorem releasePress_phase (s : State) : (releasePress s).phase = s.phase := rfl
@[simp] theorem releasePress_fe (s : State) : (releasePress s).fe = s.fe := rfl
@[simp] theorem releasePress_trk (s : State) : (releasePress s).trk = s.trk := rfl
@[simp] theorem releasePress_ec (s : State) : (releasePress s).ec = s.ec := rfl
@[simp] theorem releasePress_plan (s : State) : (releasePress s).plan = s.plan := rfl
@[simp] theorem releasePress_run (s : State) : (releasePress s).run = s.run := rfl
@[simp] theorem releasePress_meter (s : State) : (releasePress s).meter = s.meter := rfl
@[simp] theorem releasePress_lamp (s : State) : (releasePress s).lamp = s.lamp := rfl
@[simp] theorem releasePress_roster (s : State) : (releasePress s).roster = s.roster := rfl
@[simp] theorem releasePress_xc (s : State) : (releasePress s).xc = s.xc := rfl
@[simp] theorem releasePress_sealRx (s : State) : (releasePress s).sealRx = s.sealRx := rfl
@[simp] theorem releasePress_line (s : State) : (releasePress s).line = s.line := rfl
@[simp] theorem releasePress_cmd (s : State) : (releasePress s).cmd = s.cmd := rfl
@[simp] theorem releasePress_pending (s : State) : (releasePress s).pending = s.pending := rfl
@[simp] theorem releasePress_sealUnit (s : State) :
    (releasePress s).sealUnit = { s.sealUnit with pressDrive := false, strokeTimer := none } := rfl

/-! ### ownReleaseSent -/

@[simp] theorem ownReleaseSent_pins (n : Nat) (s : State) : (ownReleaseSent n s).pins = s.pins := rfl
@[simp] theorem ownReleaseSent_phase (n : Nat) (s : State) : (ownReleaseSent n s).phase = s.phase := rfl
@[simp] theorem ownReleaseSent_fe (n : Nat) (s : State) : (ownReleaseSent n s).fe = s.fe := rfl
@[simp] theorem ownReleaseSent_trk (n : Nat) (s : State) : (ownReleaseSent n s).trk = s.trk := rfl
@[simp] theorem ownReleaseSent_ec (n : Nat) (s : State) : (ownReleaseSent n s).ec = s.ec := rfl
@[simp] theorem ownReleaseSent_plan (n : Nat) (s : State) : (ownReleaseSent n s).plan = s.plan := rfl
@[simp] theorem ownReleaseSent_run (n : Nat) (s : State) : (ownReleaseSent n s).run = s.run := rfl
@[simp] theorem ownReleaseSent_meter (n : Nat) (s : State) : (ownReleaseSent n s).meter = s.meter := rfl
@[simp] theorem ownReleaseSent_lamp (n : Nat) (s : State) : (ownReleaseSent n s).lamp = s.lamp := rfl
@[simp] theorem ownReleaseSent_roster (n : Nat) (s : State) : (ownReleaseSent n s).roster = s.roster := rfl
@[simp] theorem ownReleaseSent_xc (n : Nat) (s : State) : (ownReleaseSent n s).xc = s.xc := rfl
@[simp] theorem ownReleaseSent_sealRx (n : Nat) (s : State) : (ownReleaseSent n s).sealRx = s.sealRx := rfl
@[simp] theorem ownReleaseSent_line (n : Nat) (s : State) : (ownReleaseSent n s).line = s.line := rfl
@[simp] theorem ownReleaseSent_cmd (n : Nat) (s : State) : (ownReleaseSent n s).cmd = s.cmd := rfl
@[simp] theorem ownReleaseSent_pending (n : Nat) (s : State) : (ownReleaseSent n s).pending = s.pending := rfl

/-! ### voidRun -/

@[simp] theorem voidRun_pins (s : State) : (voidRun s).pins = s.pins := rfl
@[simp] theorem voidRun_phase (s : State) : (voidRun s).phase = s.phase := rfl
@[simp] theorem voidRun_fe (s : State) : (voidRun s).fe = s.fe := rfl
@[simp] theorem voidRun_trk (s : State) : (voidRun s).trk = s.trk := rfl
@[simp] theorem voidRun_ec (s : State) : (voidRun s).ec = s.ec := rfl
@[simp] theorem voidRun_plan (s : State) : (voidRun s).plan = s.plan := rfl
@[simp] theorem voidRun_meter (s : State) : (voidRun s).meter = s.meter := rfl
@[simp] theorem voidRun_lamp (s : State) : (voidRun s).lamp = s.lamp := rfl
@[simp] theorem voidRun_roster (s : State) : (voidRun s).roster = s.roster := rfl
@[simp] theorem voidRun_xc (s : State) : (voidRun s).xc = s.xc := rfl
@[simp] theorem voidRun_sealUnit (s : State) : (voidRun s).sealUnit = s.sealUnit := rfl
@[simp] theorem voidRun_sealRx (s : State) : (voidRun s).sealRx = s.sealRx := rfl
@[simp] theorem voidRun_line (s : State) : (voidRun s).line = s.line := rfl
@[simp] theorem voidRun_cmd (s : State) : (voidRun s).cmd = s.cmd := rfl
@[simp] theorem voidRun_pending (s : State) : (voidRun s).pending = s.pending := rfl
@[simp] theorem voidRun_run (s : State) :
    (voidRun s).run = { s.run with run := s.run.run.map fun x => { x with void := true } } := rfl

/-! ### prime -/

@[simp] theorem prime_pins (n : BitVec 16) (s : State) : (prime n s).pins = s.pins := rfl
@[simp] theorem prime_phase (n : BitVec 16) (s : State) : (prime n s).phase = s.phase := rfl
@[simp] theorem prime_fe (n : BitVec 16) (s : State) : (prime n s).fe = s.fe := rfl
@[simp] theorem prime_trk (n : BitVec 16) (s : State) : (prime n s).trk = s.trk := rfl
@[simp] theorem prime_ec (n : BitVec 16) (s : State) : (prime n s).ec = s.ec := rfl
@[simp] theorem prime_plan (n : BitVec 16) (s : State) : (prime n s).plan = s.plan := rfl
@[simp] theorem prime_run (n : BitVec 16) (s : State) : (prime n s).run = s.run := rfl
@[simp] theorem prime_meter (n : BitVec 16) (s : State) : (prime n s).meter = s.meter := rfl
@[simp] theorem prime_lamp (n : BitVec 16) (s : State) : (prime n s).lamp = s.lamp := rfl
@[simp] theorem prime_roster (n : BitVec 16) (s : State) : (prime n s).roster = s.roster := rfl
@[simp] theorem prime_sealUnit (n : BitVec 16) (s : State) : (prime n s).sealUnit = s.sealUnit := rfl
@[simp] theorem prime_sealRx (n : BitVec 16) (s : State) : (prime n s).sealRx = s.sealRx := rfl
@[simp] theorem prime_line (n : BitVec 16) (s : State) : (prime n s).line = s.line := rfl
@[simp] theorem prime_cmd (n : BitVec 16) (s : State) : (prime n s).cmd = s.cmd := rfl
@[simp] theorem prime_pending (n : BitVec 16) (s : State) : (prime n s).pending = s.pending := rfl
@[simp] theorem prime_xc (n : BitVec 16) (s : State) :
    (prime n s).xc = { s.xc with latest := some ⟨n, s.trk.count⟩, earlier := none, collection := none } := rfl

/-! ### unprime -/

@[simp] theorem unprime_pins (s : State) : (unprime s).pins = s.pins := rfl
@[simp] theorem unprime_phase (s : State) : (unprime s).phase = s.phase := rfl
@[simp] theorem unprime_fe (s : State) : (unprime s).fe = s.fe := rfl
@[simp] theorem unprime_trk (s : State) : (unprime s).trk = s.trk := rfl
@[simp] theorem unprime_ec (s : State) : (unprime s).ec = s.ec := rfl
@[simp] theorem unprime_plan (s : State) : (unprime s).plan = s.plan := rfl
@[simp] theorem unprime_run (s : State) : (unprime s).run = s.run := rfl
@[simp] theorem unprime_meter (s : State) : (unprime s).meter = s.meter := rfl
@[simp] theorem unprime_lamp (s : State) : (unprime s).lamp = s.lamp := rfl
@[simp] theorem unprime_roster (s : State) : (unprime s).roster = s.roster := rfl
@[simp] theorem unprime_sealUnit (s : State) : (unprime s).sealUnit = s.sealUnit := rfl
@[simp] theorem unprime_sealRx (s : State) : (unprime s).sealRx = s.sealRx := rfl
@[simp] theorem unprime_line (s : State) : (unprime s).line = s.line := rfl
@[simp] theorem unprime_cmd (s : State) : (unprime s).cmd = s.cmd := rfl
@[simp] theorem unprime_pending (s : State) : (unprime s).pending = s.pending := rfl
@[simp] theorem unprime_xc (s : State) :
    (unprime s).xc = { s.xc with latest := none, earlier := none, collection := none } := rfl

/-! ### countRef -/

@[simp] theorem countRef_pins (s : State) : (countRef s).pins = s.pins := rfl
@[simp] theorem countRef_phase (s : State) : (countRef s).phase = s.phase := rfl
@[simp] theorem countRef_plan (s : State) : (countRef s).plan = s.plan := rfl
@[simp] theorem countRef_run (s : State) : (countRef s).run = s.run := rfl
@[simp] theorem countRef_meter (s : State) : (countRef s).meter = s.meter := rfl
@[simp] theorem countRef_lamp (s : State) : (countRef s).lamp = s.lamp := rfl
@[simp] theorem countRef_roster (s : State) : (countRef s).roster = s.roster := rfl
@[simp] theorem countRef_xc (s : State) : (countRef s).xc = s.xc := rfl
@[simp] theorem countRef_sealUnit (s : State) : (countRef s).sealUnit = s.sealUnit := rfl
@[simp] theorem countRef_sealRx (s : State) : (countRef s).sealRx = s.sealRx := rfl
@[simp] theorem countRef_line (s : State) : (countRef s).line = s.line := rfl
@[simp] theorem countRef_cmd (s : State) : (countRef s).cmd = s.cmd := rfl
@[simp] theorem countRef_pending (s : State) : (countRef s).pending = s.pending := rfl

/-! ### writeRecord -/

@[simp] theorem writeRecord_pins (x : PointRecord) (s : State) : (writeRecord x s).pins = s.pins := rfl
@[simp] theorem writeRecord_phase (x : PointRecord) (s : State) : (writeRecord x s).phase = s.phase := rfl
@[simp] theorem writeRecord_fe (x : PointRecord) (s : State) : (writeRecord x s).fe = s.fe := rfl
@[simp] theorem writeRecord_trk (x : PointRecord) (s : State) : (writeRecord x s).trk = s.trk := rfl
@[simp] theorem writeRecord_ec (x : PointRecord) (s : State) : (writeRecord x s).ec = s.ec := rfl
@[simp] theorem writeRecord_plan (x : PointRecord) (s : State) : (writeRecord x s).plan = s.plan := rfl
@[simp] theorem writeRecord_run (x : PointRecord) (s : State) : (writeRecord x s).run = s.run := rfl
@[simp] theorem writeRecord_lamp (x : PointRecord) (s : State) : (writeRecord x s).lamp = s.lamp := rfl
@[simp] theorem writeRecord_roster (x : PointRecord) (s : State) : (writeRecord x s).roster = s.roster := rfl
@[simp] theorem writeRecord_xc (x : PointRecord) (s : State) : (writeRecord x s).xc = s.xc := rfl
@[simp] theorem writeRecord_sealUnit (x : PointRecord) (s : State) : (writeRecord x s).sealUnit = s.sealUnit := rfl
@[simp] theorem writeRecord_sealRx (x : PointRecord) (s : State) : (writeRecord x s).sealRx = s.sealRx := rfl
@[simp] theorem writeRecord_line (x : PointRecord) (s : State) : (writeRecord x s).line = s.line := rfl
@[simp] theorem writeRecord_pending (x : PointRecord) (s : State) : (writeRecord x s).pending = s.pending := rfl
@[simp] theorem writeRecord_meter (x : PointRecord) (s : State) :
    (writeRecord x s).meter = { s.meter with records := slotSet s.meter.records x.p (some x) } := rfl
@[simp] theorem writeRecord_cmd (x : PointRecord) (s : State) :
    (writeRecord x s).cmd = { s.cmd with series := supersede x.p s.cmd.series } := rfl

/-! ### clearBatch -/

@[simp] theorem clearBatch_pins (s : State) : (clearBatch s).pins = s.pins := rfl
@[simp] theorem clearBatch_phase (s : State) : (clearBatch s).phase = s.phase := rfl
@[simp] theorem clearBatch_fe (s : State) : (clearBatch s).fe = s.fe := rfl
@[simp] theorem clearBatch_trk (s : State) : (clearBatch s).trk = s.trk := rfl
@[simp] theorem clearBatch_ec (s : State) : (clearBatch s).ec = s.ec := rfl
@[simp] theorem clearBatch_plan (s : State) : (clearBatch s).plan = s.plan := rfl
@[simp] theorem clearBatch_lamp (s : State) : (clearBatch s).lamp = s.lamp := rfl
@[simp] theorem clearBatch_roster (s : State) : (clearBatch s).roster = s.roster := rfl
@[simp] theorem clearBatch_xc (s : State) : (clearBatch s).xc = s.xc := rfl
@[simp] theorem clearBatch_sealUnit (s : State) : (clearBatch s).sealUnit = s.sealUnit := rfl
@[simp] theorem clearBatch_sealRx (s : State) : (clearBatch s).sealRx = s.sealRx := rfl
@[simp] theorem clearBatch_line (s : State) : (clearBatch s).line = s.line := rfl
@[simp] theorem clearBatch_pending (s : State) : (clearBatch s).pending = s.pending := rfl
@[simp] theorem clearBatch_meter (s : State) : (clearBatch s).meter = MeterRecord.reset := rfl

/-! ### endSeries -/

@[simp] theorem endSeries_pins (s : State) : (endSeries s).pins = s.pins := rfl
@[simp] theorem endSeries_phase (s : State) : (endSeries s).phase = s.phase := rfl
@[simp] theorem endSeries_fe (s : State) : (endSeries s).fe = s.fe := rfl
@[simp] theorem endSeries_trk (s : State) : (endSeries s).trk = s.trk := rfl
@[simp] theorem endSeries_ec (s : State) : (endSeries s).ec = s.ec := rfl
@[simp] theorem endSeries_plan (s : State) : (endSeries s).plan = s.plan := rfl
@[simp] theorem endSeries_run (s : State) : (endSeries s).run = s.run := rfl
@[simp] theorem endSeries_meter (s : State) : (endSeries s).meter = s.meter := rfl
@[simp] theorem endSeries_lamp (s : State) : (endSeries s).lamp = s.lamp := rfl
@[simp] theorem endSeries_roster (s : State) : (endSeries s).roster = s.roster := rfl
@[simp] theorem endSeries_xc (s : State) : (endSeries s).xc = s.xc := rfl
@[simp] theorem endSeries_sealUnit (s : State) : (endSeries s).sealUnit = s.sealUnit := rfl
@[simp] theorem endSeries_sealRx (s : State) : (endSeries s).sealRx = s.sealRx := rfl
@[simp] theorem endSeries_pending (s : State) : (endSeries s).pending = s.pending := rfl

/-! ### State.withCommand -/

@[simp] theorem State.withCommand_pins (c : Instr) (s : State) : (s.withCommand c).pins = s.pins := rfl
@[simp] theorem State.withCommand_phase (c : Instr) (s : State) : (s.withCommand c).phase = s.phase := rfl
@[simp] theorem State.withCommand_fe (c : Instr) (s : State) : (s.withCommand c).fe = s.fe := rfl
@[simp] theorem State.withCommand_trk (c : Instr) (s : State) : (s.withCommand c).trk = s.trk := rfl
@[simp] theorem State.withCommand_ec (c : Instr) (s : State) : (s.withCommand c).ec = s.ec := rfl
@[simp] theorem State.withCommand_plan (c : Instr) (s : State) : (s.withCommand c).plan = s.plan := rfl
@[simp] theorem State.withCommand_run (c : Instr) (s : State) : (s.withCommand c).run = s.run := rfl
@[simp] theorem State.withCommand_meter (c : Instr) (s : State) : (s.withCommand c).meter = s.meter := rfl
@[simp] theorem State.withCommand_lamp (c : Instr) (s : State) : (s.withCommand c).lamp = s.lamp := rfl
@[simp] theorem State.withCommand_roster (c : Instr) (s : State) : (s.withCommand c).roster = s.roster := rfl
@[simp] theorem State.withCommand_xc (c : Instr) (s : State) : (s.withCommand c).xc = s.xc := rfl
@[simp] theorem State.withCommand_sealUnit (c : Instr) (s : State) : (s.withCommand c).sealUnit = s.sealUnit := rfl
@[simp] theorem State.withCommand_sealRx (c : Instr) (s : State) : (s.withCommand c).sealRx = s.sealRx := rfl
@[simp] theorem State.withCommand_line (c : Instr) (s : State) : (s.withCommand c).line = s.line := rfl
@[simp] theorem State.withCommand_cmd (c : Instr) (s : State) : (s.withCommand c).cmd = s.cmd := rfl
@[simp] theorem State.withCommand_pending (c : Instr) (s : State) :
    (s.withCommand c).pending = c :: s.pending := rfl

end Sys2Proof.Machine
end

