-- ==== Sys2Proof/Laws/Queue.lean ====
section
/-! SUPPORT. What queuing a frame and raising a notice can do: they reach the line controller and the notice set, and
through the owner of a lost frame the series, the claim and the meter record, and nothing else. -/

namespace Sys2Proof.Machine

/-- What queuing can reach: everything else is as it was. -/
def QueuingOnly (s t : State) : Prop :=
  t = { s with line := t.line, cmd := t.cmd, meter := t.meter, sealUnit := t.sealUnit }

theorem QueuingOnly.refl (s : State) : QueuingOnly s s := rfl

theorem QueuingOnly.trans {s t u : State} (h : QueuingOnly s t) (h' : QueuingOnly t u) : QueuingOnly s u := by
  unfold QueuingOnly at *
  rw [h'] ; rw [h]

theorem queuingOnly_intro {s t : State} (h₁ : t.pins = s.pins) (h₂ : t.phase = s.phase) (h₃ : t.fe = s.fe)
    (h₄ : t.trk = s.trk) (h₅ : t.ec = s.ec) (h₆ : t.plan = s.plan) (h₇ : t.run = s.run) (h₈ : t.lamp = s.lamp)
    (h₉ : t.roster = s.roster) (h₁₀ : t.xc = s.xc) (h₁₁ : t.sealRx = s.sealRx) (h₁₂ : t.pending = s.pending) :
    QueuingOnly s t := by
  cases s; cases t; simp_all [QueuingOnly]

theorem raiseTxDropped_queuingOnly (s : State) : QueuingOnly s (raiseTxDropped s) := by
  unfold raiseTxDropped
  split
  · rfl
  · dsimp only; split <;> rfl

theorem evaluateRecord_eq (s : State) :
    evaluateRecord s = { s with meter := (evaluateRecord s).meter } := by
  unfold evaluateRecord; split <;> rfl

theorem abandonDropped_queuingOnly (s : State) : QueuingOnly s (abandonDropped s) := by
  unfold abandonDropped QueuingOnly
  rw [evaluateRecord_eq]

theorem tellOwner_queuingOnly (m : TxMsg) (s : State) : QueuingOnly s (tellOwner m s) := by
  unfold tellOwner
  split
  · split
    · exact abandonDropped_queuingOnly s
    · rfl
  · split <;> rfl
  · rfl

theorem frameLost_queuingOnly (m : TxMsg) (s : State) : QueuingOnly s (frameLost m s) :=
  (raiseTxDropped_queuingOnly s).trans (tellOwner_queuingOnly m _)

theorem enqueue_queuingOnly (m : TxMsg) (s : State) : QueuingOnly s (enqueue m s) := by
  unfold enqueue
  dsimp only
  split
  · exact QueuingOnly.trans (t := { s with line := (queueFrame s.fe.now m s.line).1 }) rfl (frameLost_queuingOnly _ _)
  · rfl

theorem raiseNotice_queuingOnly (n : Notice) (s : State) : QueuingOnly s (raiseNotice n s) := by
  unfold raiseNotice
  split
  · rfl
  · dsimp only; split
    · exact QueuingOnly.trans (t := { s with cmd := { s.cmd with notices := withNotice s.cmd.notices n } }) rfl
        (enqueue_queuingOnly _ _)
    · rfl

/-! ### The fields that queuing leaves -/

@[simp] theorem enqueue_pins (m : TxMsg) (s : State) : (enqueue m s).pins = s.pins := by rw [enqueue_queuingOnly m s]
@[simp] theorem enqueue_phase (m : TxMsg) (s : State) : (enqueue m s).phase = s.phase := by rw [enqueue_queuingOnly m s]
@[simp] theorem enqueue_fe (m : TxMsg) (s : State) : (enqueue m s).fe = s.fe := by rw [enqueue_queuingOnly m s]
@[simp] theorem enqueue_trk (m : TxMsg) (s : State) : (enqueue m s).trk = s.trk := by rw [enqueue_queuingOnly m s]
@[simp] theorem enqueue_ec (m : TxMsg) (s : State) : (enqueue m s).ec = s.ec := by rw [enqueue_queuingOnly m s]
@[simp] theorem enqueue_plan (m : TxMsg) (s : State) : (enqueue m s).plan = s.plan := by rw [enqueue_queuingOnly m s]
@[simp] theorem enqueue_run (m : TxMsg) (s : State) : (enqueue m s).run = s.run := by rw [enqueue_queuingOnly m s]
@[simp] theorem enqueue_lamp (m : TxMsg) (s : State) : (enqueue m s).lamp = s.lamp := by rw [enqueue_queuingOnly m s]
@[simp] theorem enqueue_roster (m : TxMsg) (s : State) : (enqueue m s).roster = s.roster := by rw [enqueue_queuingOnly m s]
@[simp] theorem enqueue_xc (m : TxMsg) (s : State) : (enqueue m s).xc = s.xc := by rw [enqueue_queuingOnly m s]
@[simp] theorem enqueue_sealRx (m : TxMsg) (s : State) : (enqueue m s).sealRx = s.sealRx := by rw [enqueue_queuingOnly m s]
@[simp] theorem enqueue_pending (m : TxMsg) (s : State) : (enqueue m s).pending = s.pending := by rw [enqueue_queuingOnly m s]

@[simp] theorem raiseNotice_pins (n : Notice) (s : State) : (raiseNotice n s).pins = s.pins := by rw [raiseNotice_queuingOnly n s]
@[simp] theorem raiseNotice_phase (n : Notice) (s : State) : (raiseNotice n s).phase = s.phase := by rw [raiseNotice_queuingOnly n s]
@[simp] theorem raiseNotice_fe (n : Notice) (s : State) : (raiseNotice n s).fe = s.fe := by rw [raiseNotice_queuingOnly n s]
@[simp] theorem raiseNotice_trk (n : Notice) (s : State) : (raiseNotice n s).trk = s.trk := by rw [raiseNotice_queuingOnly n s]
@[simp] theorem raiseNotice_ec (n : Notice) (s : State) : (raiseNotice n s).ec = s.ec := by rw [raiseNotice_queuingOnly n s]
@[simp] theorem raiseNotice_plan (n : Notice) (s : State) : (raiseNotice n s).plan = s.plan := by rw [raiseNotice_queuingOnly n s]
@[simp] theorem raiseNotice_run (n : Notice) (s : State) : (raiseNotice n s).run = s.run := by rw [raiseNotice_queuingOnly n s]
@[simp] theorem raiseNotice_lamp (n : Notice) (s : State) : (raiseNotice n s).lamp = s.lamp := by rw [raiseNotice_queuingOnly n s]
@[simp] theorem raiseNotice_roster (n : Notice) (s : State) : (raiseNotice n s).roster = s.roster := by rw [raiseNotice_queuingOnly n s]
@[simp] theorem raiseNotice_xc (n : Notice) (s : State) : (raiseNotice n s).xc = s.xc := by rw [raiseNotice_queuingOnly n s]
@[simp] theorem raiseNotice_sealRx (n : Notice) (s : State) : (raiseNotice n s).sealRx = s.sealRx := by rw [raiseNotice_queuingOnly n s]
@[simp] theorem raiseNotice_pending (n : Notice) (s : State) : (raiseNotice n s).pending = s.pending := by rw [raiseNotice_queuingOnly n s]

@[simp] theorem frameLost_pins (m : TxMsg) (s : State) : (frameLost m s).pins = s.pins := by rw [frameLost_queuingOnly m s]
@[simp] theorem frameLost_phase (m : TxMsg) (s : State) : (frameLost m s).phase = s.phase := by rw [frameLost_queuingOnly m s]
@[simp] theorem frameLost_fe (m : TxMsg) (s : State) : (frameLost m s).fe = s.fe := by rw [frameLost_queuingOnly m s]
@[simp] theorem frameLost_trk (m : TxMsg) (s : State) : (frameLost m s).trk = s.trk := by rw [frameLost_queuingOnly m s]
@[simp] theorem frameLost_ec (m : TxMsg) (s : State) : (frameLost m s).ec = s.ec := by rw [frameLost_queuingOnly m s]
@[simp] theorem frameLost_plan (m : TxMsg) (s : State) : (frameLost m s).plan = s.plan := by rw [frameLost_queuingOnly m s]
@[simp] theorem frameLost_run (m : TxMsg) (s : State) : (frameLost m s).run = s.run := by rw [frameLost_queuingOnly m s]
@[simp] theorem frameLost_lamp (m : TxMsg) (s : State) : (frameLost m s).lamp = s.lamp := by rw [frameLost_queuingOnly m s]
@[simp] theorem frameLost_roster (m : TxMsg) (s : State) : (frameLost m s).roster = s.roster := by rw [frameLost_queuingOnly m s]
@[simp] theorem frameLost_xc (m : TxMsg) (s : State) : (frameLost m s).xc = s.xc := by rw [frameLost_queuingOnly m s]
@[simp] theorem frameLost_sealRx (m : TxMsg) (s : State) : (frameLost m s).sealRx = s.sealRx := by rw [frameLost_queuingOnly m s]
@[simp] theorem frameLost_pending (m : TxMsg) (s : State) : (frameLost m s).pending = s.pending := by rw [frameLost_queuingOnly m s]

@[simp] theorem raiseTxDropped_pins (s : State) : (raiseTxDropped s).pins = s.pins := by rw [raiseTxDropped_queuingOnly s]
@[simp] theorem raiseTxDropped_phase (s : State) : (raiseTxDropped s).phase = s.phase := by rw [raiseTxDropped_queuingOnly s]
@[simp] theorem raiseTxDropped_fe (s : State) : (raiseTxDropped s).fe = s.fe := by rw [raiseTxDropped_queuingOnly s]
@[simp] theorem raiseTxDropped_trk (s : State) : (raiseTxDropped s).trk = s.trk := by rw [raiseTxDropped_queuingOnly s]
@[simp] theorem raiseTxDropped_ec (s : State) : (raiseTxDropped s).ec = s.ec := by rw [raiseTxDropped_queuingOnly s]
@[simp] theorem raiseTxDropped_plan (s : State) : (raiseTxDropped s).plan = s.plan := by rw [raiseTxDropped_queuingOnly s]
@[simp] theorem raiseTxDropped_run (s : State) : (raiseTxDropped s).run = s.run := by rw [raiseTxDropped_queuingOnly s]
@[simp] theorem raiseTxDropped_lamp (s : State) : (raiseTxDropped s).lamp = s.lamp := by rw [raiseTxDropped_queuingOnly s]
@[simp] theorem raiseTxDropped_roster (s : State) : (raiseTxDropped s).roster = s.roster := by rw [raiseTxDropped_queuingOnly s]
@[simp] theorem raiseTxDropped_xc (s : State) : (raiseTxDropped s).xc = s.xc := by rw [raiseTxDropped_queuingOnly s]
@[simp] theorem raiseTxDropped_sealRx (s : State) : (raiseTxDropped s).sealRx = s.sealRx := by rw [raiseTxDropped_queuingOnly s]
@[simp] theorem raiseTxDropped_pending (s : State) : (raiseTxDropped s).pending = s.pending := by rw [raiseTxDropped_queuingOnly s]

/-! ### Outside CLAIMING -/

theorem raiseTxDropped_meter (s : State) : (raiseTxDropped s).meter = s.meter := by
  unfold raiseTxDropped; split
  · rfl
  · dsimp only; split <;> rfl

theorem raiseTxDropped_sealUnit (s : State) : (raiseTxDropped s).sealUnit = s.sealUnit := by
  unfold raiseTxDropped; split
  · rfl
  · dsimp only; split <;> rfl

/-- Outside CLAIMING, a lost frame reaches neither the meter record nor the seal unit. -/
theorem frameLost_of_not_claiming (m : TxMsg) {s : State} (h : s.meter.batch ≠ .claiming) :
    (frameLost m s).meter = s.meter ∧ (frameLost m s).sealUnit = s.sealUnit := by
  unfold frameLost tellOwner
  split
  · rw [raiseTxDropped_meter, if_neg (by simp [h])]
    exact ⟨raiseTxDropped_meter s, raiseTxDropped_sealUnit s⟩
  · split
    · exact ⟨raiseTxDropped_meter s, raiseTxDropped_sealUnit s⟩
    · exact ⟨raiseTxDropped_meter s, raiseTxDropped_sealUnit s⟩
  · exact ⟨raiseTxDropped_meter s, raiseTxDropped_sealUnit s⟩

theorem enqueue_of_not_claiming (m : TxMsg) {s : State} (h : s.meter.batch ≠ .claiming) :
    (enqueue m s).meter = s.meter ∧ (enqueue m s).sealUnit = s.sealUnit := by
  unfold enqueue
  dsimp only
  split
  · exact frameLost_of_not_claiming _ (s := { s with line := (queueFrame s.fe.now m s.line).1 }) h
  · exact ⟨rfl, rfl⟩

theorem raiseNotice_of_not_claiming (n : Notice) {s : State} (h : s.meter.batch ≠ .claiming) :
    (raiseNotice n s).meter = s.meter ∧ (raiseNotice n s).sealUnit = s.sealUnit := by
  unfold raiseNotice
  split
  · exact ⟨rfl, rfl⟩
  · dsimp only; split
    · exact enqueue_of_not_claiming _ (s := { s with cmd := { s.cmd with notices := withNotice s.cmd.notices n } }) h
    · exact ⟨rfl, rfl⟩

/-! ### A queue with room -/

/-- A frame of a kind that does not coalesce enters a queue with room at its end, and nothing else happens (R162). -/
theorem enqueue_room (m : TxMsg) (s : State) (hm : coalesces m.kind = false)
    (h : s.line.queue.length < Config.queueCapacity) :
    enqueue m s = { s with line := { s.line with queue := s.line.queue ++ [newFrame s.fe.now m] } } := by
  simp [enqueue, queueFrame, admitFrame, hm, h]

/-- The queue never grows past its capacity (R162). -/
theorem admitFrame_length (now : Stamp) (m : TxMsg) (l : LineController) (h : l.queue.length ≤ Config.queueCapacity)
    (hv : ∀ i, victim m.cls l.queue = some i → i < l.queue.length) :
    (admitFrame now m l).1.queue.length ≤ Config.queueCapacity := by
  unfold admitFrame
  split
  · simp only [List.length_append, List.length_cons, List.length_nil]; omega
  · split
    · rename_i i hi
      have := hv i hi
      simp only [List.length_append, List.length_eraseIdx, List.length_cons, List.length_nil, if_pos this]; omega
    · exact h

end Sys2Proof.Machine
end

