-- ==== Sys2Proof/Laws/Footprint.lean ====
section
/-! SUPPORT. What each shared operation can reach, said once: of the line controller the queue and the frames waiting
beside it, of the command handler the notice set and the series, and the blocks named. -/

namespace Sys2Proof.Machine

/-- What queuing, evaluating and sealing keep: every block but four, the line state with its counts and timers, and the
setup values with the notice mask. -/
structure QueuingKeeps (s t : State) : Prop where
  blocks : QueuingOnly s t
  state : t.line.state = s.line.state
  own : t.line.own = s.line.own
  faultTally : t.line.faultTally = s.line.faultTally
  goodFrames : t.line.goodFrames = s.line.goodFrames
  listenTimer : t.line.listenTimer = s.line.listenTimer
  heartbeat : t.line.heartbeat = s.line.heartbeat
  awaitingIdle : t.line.awaitingIdle = s.line.awaitingIdle
  idle : t.line.idle = s.line.idle
  drive : t.line.drive = s.line.drive
  resetCause : t.line.resetCause = s.line.resetCause
  setup : t.cmd.setup = s.cmd.setup
  mask : t.cmd.mask = s.cmd.mask

theorem QueuingKeeps.refl (s : State) : QueuingKeeps s s := by constructor <;> rfl

theorem QueuingKeeps.trans {s t u : State} (h : QueuingKeeps s t) (k : QueuingKeeps t u) : QueuingKeeps s u :=
  ⟨h.blocks.trans k.blocks, k.state.trans h.state, k.own.trans h.own, k.faultTally.trans h.faultTally,
    k.goodFrames.trans h.goodFrames, k.listenTimer.trans h.listenTimer, k.heartbeat.trans h.heartbeat,
    k.awaitingIdle.trans h.awaitingIdle, k.idle.trans h.idle, k.drive.trans h.drive, k.resetCause.trans h.resetCause,
    k.setup.trans h.setup, k.mask.trans h.mask⟩

/-- An update of the meter record and the seal unit keeps it. -/
theorem keeps_blocks (s : State) (m : MeterRecord) (u : SealUnit) :
    QueuingKeeps s { s with meter := m, sealUnit := u } :=
  by constructor <;> rfl

/-- An update of the queue, the notices and the series keeps it. -/
theorem keeps_queue (s : State) (q : List TxFrame) (w : Bool) (n : Option (BitVec 10)) (p : BitVec 10)
    (c : Option Series) : QueuingKeeps s { s with
      line := { s.line with queue := q, waitingStatus := w, waitingNotice := n }
      cmd := { s.cmd with notices := p, series := c } } :=
  by constructor <;> rfl

/-! ### Queuing -/

/-- The line controller after the queuing of a frame differs in its queue and the frames beside it alone. -/
theorem queueFrame_line (now : Stamp) (m : TxMsg) (l : LineController) :
    (queueFrame now m l).1 = { l with
      queue := (queueFrame now m l).1.queue
      waitingStatus := (queueFrame now m l).1.waitingStatus
      waitingNotice := (queueFrame now m l).1.waitingNotice } := by
  unfold queueFrame
  split
  · split
    · cases m <;> rfl
    · rfl
  · unfold admitFrame
    split
    · rfl
    · split <;> rfl

theorem queueFrame_keeps (now : Stamp) (m : TxMsg) (s : State) :
    QueuingKeeps s { s with line := (queueFrame now m s.line).1 } := by
  rw [queueFrame_line]
  exact keeps_queue s _ _ _ s.cmd.notices s.cmd.series

theorem raiseTxDropped_keeps (s : State) : QueuingKeeps s (raiseTxDropped s) := by
  unfold raiseTxDropped
  split
  · exact .refl s
  · dsimp only
    have h := keeps_queue s s.line.queue s.line.waitingStatus s.line.waitingNotice
      (withNotice s.cmd.notices .txDropped) s.cmd.series
    split
    · exact h.trans (queueFrame_keeps s.fe.now _
        { s with cmd := { s.cmd with notices := withNotice s.cmd.notices .txDropped } })
    · exact h

theorem evaluateRecord_keeps (s : State) : QueuingKeeps s (evaluateRecord s) := by
  rw [evaluateRecord_eq]; exact keeps_blocks s _ s.sealUnit

theorem abandonDropped_keeps (s : State) : QueuingKeeps s (abandonDropped s) :=
  (keeps_blocks s _ _).trans (evaluateRecord_keeps _)

theorem tellOwner_keeps (m : TxMsg) (s : State) : QueuingKeeps s (tellOwner m s) := by
  unfold tellOwner
  split
  · split
    · exact abandonDropped_keeps s
    · exact .refl s
  · split
    · exact keeps_queue s s.line.queue s.line.waitingStatus s.line.waitingNotice s.cmd.notices none
    · exact .refl s
  · exact .refl s

theorem frameLost_keeps (m : TxMsg) (s : State) : QueuingKeeps s (frameLost m s) :=
  (raiseTxDropped_keeps s).trans (tellOwner_keeps m _)

theorem enqueue_keeps (m : TxMsg) (s : State) : QueuingKeeps s (enqueue m s) := by
  unfold enqueue
  dsimp only
  split
  · exact (queueFrame_keeps s.fe.now m s).trans (frameLost_keeps _ _)
  · exact queueFrame_keeps s.fe.now m s

theorem raiseNotice_keeps (n : Notice) (s : State) : QueuingKeeps s (raiseNotice n s) := by
  unfold raiseNotice
  split
  · exact .refl s
  · dsimp only
    have h := keeps_queue s s.line.queue s.line.waitingStatus s.line.waitingNotice (withNotice s.cmd.notices n)
      s.cmd.series
    split
    · exact h.trans (enqueue_keeps _ _)
    · exact h

theorem clearNotice_keeps (n : Notice) (s : State) : QueuingKeeps s (clearNotice n s) :=
  keeps_queue s s.line.queue s.line.waitingStatus s.line.waitingNotice _ s.cmd.series

/-! ### Sealing and evaluation -/

theorem queueRelease_keeps (n : Nat) (r : ReleaseReason) (s : State) : QueuingKeeps s (queueRelease n r s) :=
  (keeps_blocks s s.meter _).trans (enqueue_keeps _ _)

theorem requeueOwed_keeps (s : State) : QueuingKeeps s (requeueOwed s) := by
  unfold requeueOwed
  split
  · split
    · exact .refl s
    · exact enqueue_keeps _ s
  · exact .refl s

theorem sealCheck_keeps (t : Text) (s : State) : QueuingKeeps s (sealCheck t s) := by
  unfold sealCheck
  split
  · exact (raiseNotice_keeps _ s).trans (keeps_blocks _ _ (raiseNotice .sealReused s).sealUnit)
  · exact (keeps_blocks s _ _).trans (enqueue_keeps _ _)

theorem checkHeld_keeps (s : State) : QueuingKeeps s (checkHeld s) := by
  unfold checkHeld
  split
  · split
    · exact sealCheck_keeps _ s
    · exact .refl s
  · exact .refl s

theorem evaluate_keeps (s : State) : QueuingKeeps s (evaluate s) := by
  unfold evaluate
  dsimp only
  split
  · exact (evaluateRecord_keeps s).trans (checkHeld_keeps _)
  · exact evaluateRecord_keeps s

theorem returnToAwaitSeal_keeps (s : State) : QueuingKeeps s (returnToAwaitSeal s) :=
  ((keeps_blocks s _ s.sealUnit).trans (evaluateRecord_keeps _)).trans (checkHeld_keeps _)

theorem abandonReused_keeps (c : OwnClaim) (s : State) : QueuingKeeps s (abandonReused c s) :=
  (((queueRelease_keeps _ _ s).trans (raiseNotice_keeps _ _)).trans (keeps_blocks _ _ _)).trans
    (returnToAwaitSeal_keeps _)

theorem abandonOffLine_keeps (s : State) : QueuingKeeps s (abandonOffLine s) := by
  unfold abandonOffLine
  split
  · exact (keeps_blocks s s.meter _).trans (returnToAwaitSeal_keeps _)
  · exact .refl s

theorem withdrawClaim_keeps (s : State) : QueuingKeeps s (withdrawClaim s) := by
  unfold withdrawClaim
  split
  · rename_i c _ _
    exact (queueRelease_keeps c.number .abandoned s).trans (keeps_blocks _ (queueRelease c.number .abandoned s).meter _)
  · exact .refl s

theorem grant_keeps (c : OwnClaim) (s : State) : QueuingKeeps s (grant c s) := by
  unfold grant
  split
  · exact ((raiseNotice_keeps _ s).trans (queueRelease_keeps _ _ _)).trans (keeps_blocks _ _ _)
  · exact keeps_blocks s _ _

theorem grantTest_keeps (s : State) : QueuingKeeps s (grantTest s) := by
  unfold grantTest
  split
  · split
    · exact grant_keeps _ s
    · exact .refl s
  · exact .refl s

theorem examineAndGrant_keeps (s : State) : QueuingKeeps s (examineAndGrant s) := by
  unfold examineAndGrant
  split
  · split
    · split
      · exact abandonReused_keeps _ s
      · exact grantTest_keeps s
    · exact .refl s
  · exact .refl s

theorem takeClaim_keeps (k n : Nat) (t : Text) (s : State) : QueuingKeeps s (takeClaim k n t s) := by
  unfold takeClaim
  split
  · exact .refl s
  · exact (keeps_blocks s s.meter _).trans (examineAndGrant_keeps _)

theorem takeRelease_keeps (k n : Nat) (s : State) : QueuingKeeps s (takeRelease k n s) := by
  unfold takeRelease
  split
  · exact (keeps_blocks s s.meter _).trans (grantTest_keeps _)
  · exact .refl s

theorem removeClaims_keeps (ks : List Nat) (s : State) : QueuingKeeps s (removeClaims ks s) := by
  unfold removeClaims
  split
  · exact (keeps_blocks s s.meter _).trans (grantTest_keeps _)
  · exact .refl s

theorem takeSealed_keeps (t : Text) (s : State) : QueuingKeeps s (takeSealed t s) := by
  unfold takeSealed
  split
  · dsimp only
    have h := keeps_blocks s s.meter { s.sealUnit with log := enterLog t s.sealUnit.log }
    split
    · split
      · split
        · exact h.trans (abandonReused_keeps _ _)
        · exact h.trans (raiseNotice_keeps _ _)
        · exact h
      · exact h
    · exact h
  · exact .refl s

theorem ownClaimSent_keeps (n : Nat) (s : State) : QueuingKeeps s (ownClaimSent n s) := by
  unfold ownClaimSent
  split
  · split
    · exact (keeps_blocks s s.meter _).trans (examineAndGrant_keeps _)
    · exact .refl s
  · exact .refl s

theorem ownReleaseSent_keeps (n : Nat) (s : State) : QueuingKeeps s (ownReleaseSent n s) := keeps_blocks s s.meter _

theorem completeStroke_keeps (c : OwnClaim) (s : State) : QueuingKeeps s (completeStroke c s) := by
  unfold completeStroke releasePress
  exact (((keeps_blocks s _ _).trans (queueRelease_keeps _ _ _)).trans (enqueue_keeps _ _)).trans (keeps_blocks _ _ _)

theorem failStroke_keeps (c : OwnClaim) (s : State) : QueuingKeeps s (failStroke c s) := by
  unfold failStroke releasePress
  exact (((keeps_blocks s s.meter _).trans (raiseNotice_keeps _ _)).trans (queueRelease_keeps _ _ _)).trans
    (keeps_blocks _ _ _)

theorem releaseWaiting_keeps (s : State) : QueuingKeeps s (releaseWaiting s) := by
  have h := keeps_queue s s.line.queue false none s.cmd.notices s.cmd.series
  unfold releaseWaiting
  dsimp only
  have h2 : QueuingKeeps s (match s.line.waitingNotice with
      | some x => enqueue (.notice x) { s with line := { s.line with waitingStatus := false, waitingNotice := none } }
      | none => { s with line := { s.line with waitingStatus := false, waitingNotice := none } }) := by
    split
    · exact h.trans (enqueue_keeps _ _)
    · exact h
  split
  · exact h2.trans (enqueue_keeps _ _)
  · exact h2

/-! ### A JOIN -/

theorem makeRoom_keeps (s : State) : QueuingKeeps s (makeRoom s) := by
  unfold makeRoom
  split
  · split
    · exact .refl s
    · exact (keeps_queue s s.line.queue.dropLast s.line.waitingStatus s.line.waitingNotice s.cmd.notices
        s.cmd.series).trans (frameLost_keeps _ _)
  · exact .refl s

/-- A JOIN that enters reaches what queuing reaches (R160). -/
theorem queueJoin_keeps (c : JoinCause) (s : State) : QueuingKeeps s (queueJoin c s) :=
  ((makeRoom_keeps s).trans (makeRoom_keeps _)).trans
    (keeps_queue _ _ (makeRoom (makeRoom s)).line.waitingStatus (makeRoom (makeRoom s)).line.waitingNotice
      (makeRoom (makeRoom s)).cmd.notices (makeRoom (makeRoom s)).cmd.series)

/-- With room in the queue a JOIN enters at its end, and nothing else happens (R160). -/
theorem queueJoin_room (c : JoinCause) (s : State) (h : s.line.queue.length < Config.queueCapacity) :
    queueJoin c s =
      { s with line := { s.line with queue := s.line.queue ++ [newFrame s.fe.now (.join c none)] } } := by
  have hm : makeRoom s = s := by
    unfold makeRoom; split
    · rw [if_pos h]
    · rfl
  unfold queueJoin
  rw [hm, hm]

end Sys2Proof.Machine
end

