-- ==== Sys2Proof/Laws/Closing.lean ====
section
/-! SUPPORT. What closing, completing, judging and copying can reach. -/

namespace Sys2Proof.Machine

/-- The state with another run, error computer and marker queue. -/
def withRunner (r : PointRunner) (e : ErrorComputer) (q : List Marker) (s : State) : State :=
  { s with run := r, ec := e, trk := { s.trk with queue := q } }

/-- What the point runner's operations keep: beside what queuing keeps they reach the run, the standing, the error
computer and the marker queue, and leave the BEFORE slots. -/
def ClosingKeeps (s t : State) : Prop :=
  ∃ r e q, r.slots = s.run.slots ∧ QueuingKeeps (withRunner r e q s) t

theorem QueuingKeeps.runner {s t : State} (h : QueuingKeeps s t) (r : PointRunner) (e : ErrorComputer)
    (q : List Marker) : QueuingKeeps (withRunner r e q s) (withRunner r e q t) := by
  have hb := h.blocks
  refine ⟨?_, h.state, h.own, h.faultTally, h.goodFrames, h.listenTimer, h.heartbeat, h.awaitingIdle, h.idle, h.drive,
    h.resetCause, h.setup, h.mask⟩
  unfold QueuingOnly withRunner at *
  rw [hb]

theorem QueuingKeeps.closing {s t : State} (h : QueuingKeeps s t) : ClosingKeeps s t :=
  ⟨s.run, s.ec, s.trk.queue, rfl, h⟩

theorem ClosingKeeps.refl (s : State) : ClosingKeeps s s := (QueuingKeeps.refl s).closing

theorem ClosingKeeps.trans {s t u : State} (h : ClosingKeeps s t) (k : ClosingKeeps t u) : ClosingKeeps s u := by
  obtain ⟨r, e, q, hr, h⟩ := h
  obtain ⟨r', e', q', hr', k⟩ := k
  have hrun : t.run = r := by have := h.blocks; unfold QueuingOnly at this; rw [this]; rfl
  exact ⟨r', e', q', by rw [hr', hrun, hr], (h.runner r' e' q').trans k⟩

theorem ClosingKeeps.queuing {s t u : State} (h : ClosingKeeps s t) (k : QueuingKeeps t u) : ClosingKeeps s u :=
  h.trans k.closing

/-! ### What it leaves -/

theorem ClosingKeeps.fields {s t : State} (h : ClosingKeeps s t) :
    t.pins = s.pins ∧ t.phase = s.phase ∧ t.fe = s.fe ∧ t.trk.count = s.trk.count ∧ t.trk.last = s.trk.last ∧
    t.trk.overrate = s.trk.overrate ∧ t.plan = s.plan ∧ t.run.slots = s.run.slots ∧ t.lamp = s.lamp ∧
    t.roster = s.roster ∧ t.xc = s.xc ∧ t.sealRx = s.sealRx ∧ t.pending = s.pending ∧
    t.line.state = s.line.state ∧ t.line.own = s.line.own ∧ t.cmd.setup = s.cmd.setup ∧ t.cmd.mask = s.cmd.mask := by
  obtain ⟨r, e, q, hr, h⟩ := h
  have hb := h.blocks
  unfold QueuingOnly withRunner at hb
  refine ⟨?_, ?_, ?_, ?_, ?_, ?_, ?_, ?_, ?_, ?_, ?_, ?_, ?_, h.state, h.own, h.setup, h.mask⟩ <;>
    first
      | (rw [hb]; done)
      | (rw [hb]; exact hr)

/-! ### The point runner -/

theorem setRun_closing (x : Run) (s : State) : ClosingKeeps s (setRun x s) :=
  ⟨{ s.run with run := some x }, s.ec, s.trk.queue, rfl, .refl _⟩

theorem disarm_closing (s : State) : ClosingKeeps s (disarm s) := by
  unfold disarm
  split
  · exact .refl s
  · exact ⟨s.run, .idle, [], rfl, .refl _⟩
  · exact ⟨s.run, .idle, [], rfl, .refl _⟩

theorem arm_closing (n m : Nat) (s : State) : ClosingKeeps s (arm n m s) := by
  unfold arm
  split
  · exact ⟨s.run, .armed n m, [], rfl, .refl _⟩
  · exact ⟨s.run, .armed n m, s.trk.queue, rfl, .refl _⟩
  · exact ⟨s.run, .armed n m, s.trk.queue, rfl, .refl _⟩

theorem scannerLoss_closing (s : State) : ClosingKeeps s (scannerLoss s) := by
  unfold scannerLoss
  split
  · exact .refl s
  · exact ⟨s.run, .armed _ _, [], rfl, .refl _⟩
  · exact ⟨s.run, .armed _ _, [], rfl, .refl _⟩

theorem writeRecord_keeps (x : PointRecord) (s : State) : QueuingKeeps s (writeRecord x s) :=
  by constructor <;> rfl

theorem queueProgress_keeps (p r : Nat) (v : Progress) (s : State) : QueuingKeeps s (queueProgress p r v s) :=
  enqueue_keeps _ s

theorem reportProgress_closing (x : Run) (v : Progress) (s : State) : ClosingKeeps s (reportProgress x v s) :=
  (setRun_closing _ s).queuing (queueProgress_keeps _ _ _ _)

/-- A close reaches the run, the standing, the error computer, the marker queue, the records, and what evaluating and
queuing reach (R69). -/
theorem closeRun_closing (c : CloseCause) (s : State) : ClosingKeeps s (closeRun c s) := by
  unfold closeRun
  split
  · exact .refl s
  · rename_i x _
    dsimp only
    have h : ClosingKeeps s { s with run := { s.run with run := none, standing := .closed x.p x.r } } :=
      ⟨{ s.run with run := none, standing := .closed x.p x.r }, s.ec, s.trk.queue, rfl, .refl _⟩
    have h2 : ClosingKeeps s (if x.kind = .accuracy then
        disarm { s with run := { s.run with run := none, standing := .closed x.p x.r } }
        else { s with run := { s.run with run := none, standing := .closed x.p x.r } }) := by
      split
      · exact h.trans (disarm_closing _)
      · exact h
    refine ClosingKeeps.queuing (ClosingKeeps.queuing ?_ (enqueue_keeps _ _)) (evaluate_keeps _)
    split
    · exact (h2.queuing (writeRecord_keeps _ _)).queuing (enqueue_keeps _ _)
    · exact h2.queuing (writeRecord_keeps _ _)

/-- After a close no run is open (R55). -/
theorem closeRun_run (c : CloseCause) (s : State) : (closeRun c s).run.run = none := by
  unfold closeRun
  split
  · assumption
  · rename_i x _
    dsimp only
    have he : ∀ (t : State), (evaluate t).run = t.run := fun t => by
      have := (evaluate_keeps t).blocks; unfold QueuingOnly at this; rw [this]
    have hd : ∀ t : State, (disarm t).run = t.run := fun t => by unfold disarm; split <;> rfl
    rw [he, enqueue_run]
    split <;> split <;> simp [writeRecord, hd]

theorem completionTest_closing (s : State) : ClosingKeeps s (completionTest s) := by
  unfold completionTest
  split
  · split
    · exact closeRun_closing _ s
    · exact .refl s
  · exact .refl s

theorem discardRun_closing (s : State) : ClosingKeeps s (discardRun s) := by
  unfold discardRun
  split
  · exact .refl s
  · rename_i x _
    dsimp only
    have h : ClosingKeeps s { s with run := { s.run with run := none } } :=
      ⟨{ s.run with run := none }, s.ec, s.trk.queue, rfl, .refl _⟩
    refine ClosingKeeps.queuing ?_ (queueProgress_keeps _ _ _ _)
    split
    · exact h.trans (disarm_closing _)
    · exact h

theorem offerMeasurement_closing (x : Run) (e : KeptEntry) (s : State) : ClosingKeeps s (offerMeasurement x e s) := by
  unfold offerMeasurement
  split
  · exact setRun_closing _ s
  · exact (setRun_closing x s).queuing (enqueue_keeps _ _)

theorem settlementTest_closing (s : State) : ClosingKeeps s (settlementTest s) := by
  unfold settlementTest
  split
  · exact .refl s
  · split
    · exact (reportProgress_closing _ _ s).trans (completionTest_closing _)
    · exact reportProgress_closing _ _ s
    · exact .refl s

/-- A result handed over (R59 to R63). -/
theorem takeResult_closing (q : GateResult) (s : State) : ClosingKeeps s (takeResult q s) := by
  unfold takeResult
  split
  · exact .refl s
  · split
    · split
      · exact setRun_closing _ s
      · dsimp only
        refine ClosingKeeps.trans ?_ (settlementTest_closing _)
        split
        · exact offerMeasurement_closing _ _ s
        · exact setRun_closing _ s
      · dsimp only
        refine ClosingKeeps.trans ?_ (settlementTest_closing _)
        split
        · exact offerMeasurement_closing _ _ s
        · exact setRun_closing _ s
      · exact .refl s
      · exact .refl s
      · exact .refl s
    · exact .refl s

/-- A gate evaluated (R22). -/
theorem evaluateGate_closing (s : State) : ClosingKeeps s (evaluateGate s) := by
  unfold evaluateGate
  split
  · exact ClosingKeeps.trans ⟨s.run, .gating _ _ _, s.trk.queue, rfl, .refl _⟩ (takeResult_closing _ _)
  · exact .refl s

/-! ### The plan -/

/-- What a copy keeps beside what queuing keeps: it reaches the plan (R52). -/
theorem copyEntries_keeps (ps : List Nat) (s : State) :
    QueuingKeeps { s with plan := ps.foldl copyEntry s.plan } (copyEntries ps s) := by
  unfold copyEntries
  dsimp only
  split
  · exact keeps_blocks _ _ s.sealUnit
  · exact (keeps_blocks { s with plan := ps.foldl copyEntry s.plan } _ s.sealUnit).trans (evaluate_keeps _)

/-- A copy leaves the staged entries, the hold flag and the load flags. -/
theorem copyEntry_foldl (ps : List Nat) (plan : PlanStore) :
    (ps.foldl copyEntry plan).staged = plan.staged ∧ (ps.foldl copyEntry plan).hold = plan.hold ∧
    (ps.foldl copyEntry plan).cutOff = plan.cutOff ∧ (ps.foldl copyEntry plan).loadOff = plan.loadOff := by
  induction ps generalizing plan with
  | nil => exact ⟨rfl, rfl, rfl, rfl⟩
  | cons p ps ih => exact ih (copyEntry plan p)

/-! ### The cross-check -/

theorem voidRun_closing (s : State) : ClosingKeeps s (voidRun s) := by
  unfold voidRun
  exact ⟨{ s.run with run := s.run.run.map fun x => { x with void := true } }, s.ec, s.trk.queue, rfl, .refl _⟩

/-- A change of the REF_SUSPECT condition reaches the condition, the run's void flag and the notice (R126). -/
theorem setSuspect_closing (b : Bool) (s : State) :
    ClosingKeeps { s with xc := { s.xc with suspect := b } } (setSuspect b s) := by
  unfold setSuspect
  dsimp only
  split
  · exact (voidRun_closing _).queuing (raiseNotice_keeps _ _)
  · split
    · exact (clearNotice_keeps _ _).closing
    · exact .refl _

/-- A judgment reaches the collection, the streak and the condition, and what a change of the condition reaches
(R124 to R126). -/
theorem judge_closing (s : State) : ∃ c k b,
    ClosingKeeps { s with xc := { s.xc with collection := c, streak := k, suspect := b } } (judge s) := by
  unfold judge
  split
  · split
    · exact ⟨s.xc.collection, s.xc.streak, s.xc.suspect, .refl s⟩
    · rename_i c _ _
      dsimp only
      generalize judged s.xc.suspect s.xc.streak (outcome s.line.own s.cmd.setup.tolPpm c) = j
      exact ⟨some { c with judged := true }, j.2, j.1, setSuspect_closing j.1 { s with xc := { s.xc with
        collection := some { c with judged := true }, streak := j.2 } }⟩
  · exact ⟨s.xc.collection, s.xc.streak, s.xc.suspect, .refl s⟩

end Sys2Proof.Machine
end

