-- ==== Sys2Proof/Laws/Receive.lean ====
section
/-! SUPPORT. What an accepted frame does: the filter passes a frame of its own kind, class and role, and the row's effect
is then the delivery to the owning block. -/

namespace Sys2Proof.Machine

/-- A kind's number and class come back from the header fields that carry them. -/
theorem kind_fields (k : FrameKind) :
    FrameKind.ofNumber (BitVec.ofNat 6 k.number).toNat = some k ∧ (BitVec.ofNat 2 k.cls).toNat = k.cls := by
  cases k <;> decide

theorem sendersNotReserved {h : Hdr} {s : State} (hs : FromSource h ∨ FromConsole h ∨ FromPeer h s) :
    ¬ 62 ≤ h.sender.toNat := by
  unfold FromSource FromConsole FromPeer at hs; omega

/-- A frame that fits, of the right role and of another sender, is delivered (R155). -/
theorem receiveFilter_delivers (k : FrameKind) (h : Hdr) (bs : List Byte) (s : State)
    (hv : validNumber s.line.own = true) (hn : ¬ 62 ≤ h.sender.toNat) (ho : h.sender.toNat ≠ s.line.own)
    (hr : k.role = roleOf h.sender.toNat) (hf : fits k bs = true) (hl : bs.length ≤ 16) :
    receiveFilter (frameOfKind k h bs) s = .delivered k := by
  obtain ⟨hk, hc⟩ := kind_fields k
  have hlen : ¬ 17 ≤ (BitVec.ofNat 5 bs.length).toNat := by
    simp only [BitVec.toNat_ofNat]; omega
  unfold receiveFilter
  simp only [hv, frameOfKind, hn, hk, hc, ho, hr, hf, hlen, Bool.not_true, Bool.false_eq_true, ite_false,
    not_true_eq_false, ne_eq, ite_true]

/-- Outside LINE-OFF a good frame is not counted (R158). -/
theorem countGood_of_ne {s : State} (h : s.line.state ≠ .lineOff) : countGood s = s := by
  simp [countGood, h]

/-- In LINE-OFF a frame counts, and the 64th ends LINE-OFF, whatever the filter then makes of it (R158). -/
theorem countGood_lineOff {s : State} (h : s.line.state = .lineOff) : countGood s =
    if 64 ≤ s.line.goodFrames + 1 then returnOnLine s
    else { s with line := { s.line with goodFrames := s.line.goodFrames + 1 } } := by
  simp [countGood, h, Config.goodFramesToReturn]

/-- With invalid straps a receiver drives neither slot, and an objection run (R149, R156). -/
theorem receiverDrives_cases (d : ReceiverDrive) (own : Nat) :
    receiverDrives d own = if d = .objectionRun ∨ validNumber own = true then d else .nothing := by
  cases d <;> simp [receiverDrives]

/-- The effect of a row whose frame passes the filter, while good frames are not counted. -/
theorem receiveKind_delivers (k : FrameKind) (h : Hdr) (bs : List Byte) (s : State)
    (hh : Hears s) (hn : ¬ 62 ≤ h.sender.toNat) (ho : h.sender.toNat ≠ s.line.own)
    (hr : k.role = roleOf h.sender.toNat) (hf : fits k bs = true) (hl : bs.length ≤ 16) :
    receiveKind k h bs s = deliver k h bs (acked s) := by
  obtain ⟨hp, hv, hi, hs⟩ := hh
  have hd : driveAs .acknowledgeSlot s = acked s := by simp [driveAs, receiverDrives, acked, hv]
  have hc : countGood (acked s) = acked s := countGood_of_ne hs
  have := receiveFilter_delivers k h bs (acked s) (by simpa [acked] using hv) hn (by simpa [acked] using ho) hr hf hl
  unfold receiveKind whenRunning receive
  simp only [hp, hi, hd, hc, ite_true, Bool.false_eq_true, ite_false]
  unfold filtered
  rw [this]
  cases h; rfl

theorem own_bounds {s : State} (h : validNumber s.line.own = true) : 1 ≤ s.line.own ∧ s.line.own ≤ 60 := by
  simpa [validNumber] using h

/-- A row that is a frame of the source node. -/
theorem receiveKind_source (k : FrameKind) (h : Hdr) (bs : List Byte) (s : State) (hh : Hears s) (hs : FromSource h)
    (hr : k.role = .source) (hf : fits k bs = true) (hl : bs.length ≤ 16) :
    receiveKind k h bs s = deliver k h bs (acked s) := by
  have := own_bounds hh.2.1
  unfold FromSource at hs
  exact receiveKind_delivers k h bs s hh (by omega) (by omega) (by rw [hr, roleOf]; simp [hs]) hf hl

/-- A row that is a console command. -/
theorem receiveKind_console (k : FrameKind) (h : Hdr) (bs : List Byte) (s : State) (hh : Hears s)
    (hs : FromConsole h) (hr : k.role = .console) (hl : bs.length ≤ 16) :
    receiveKind k h bs s = deliver k h bs (acked s) := by
  have := own_bounds hh.2.1
  unfold FromConsole at hs
  exact receiveKind_delivers k h bs s hh (by omega) (by omega) (by rw [hr, roleOf]; simp [hs])
    (by cases k <;> simp_all [fits, FrameKind.role]) hl

/-- A row that is a frame of a position peer. -/
theorem receiveKind_peer (k : FrameKind) (h : Hdr) (bs : List Byte) (s : State) (hh : Hears s) (hs : FromPeer h s)
    (hr : k.role = .position) (hf : fits k bs = true) (hl : bs.length ≤ 16) :
    receiveKind k h bs s = deliver k h bs (acked s) := by
  have := own_bounds hh.2.1
  obtain ⟨h1, h2, h3⟩ := hs
  exact receiveKind_delivers k h bs s hh (by omega) (by omega) (by rw [hr, roleOf]; simp [h2]; omega) hf hl

end Sys2Proof.Machine
end

