-- ==== Sys2Proof/Laws/Slots.lean ====
section
/-! SUPPORT. Reading and writing of slots and change marks, and the arithmetic every block shares. -/

namespace Sys2Proof.Machine

theorem slotGet_slotSet_same {α : Type} (v : Slots α) {p : Nat} (hp : p < 32) (x : Option α) :
    slotGet (slotSet v p x) p = x := by
  unfold slotGet slotSet
  rw [Vector.getElem?_setIfInBounds]
  simp [hp]

theorem slotGet_slotSet_other {α : Type} (v : Slots α) {p q : Nat} (h : p ≠ q) (x : Option α) :
    slotGet (slotSet v p x) q = slotGet v q := by
  unfold slotGet slotSet
  rw [Vector.getElem?_setIfInBounds]
  simp [h]

theorem slotGet_large {α : Type} (v : Slots α) {p : Nat} (hp : 32 ≤ p) : slotGet v p = none := by
  unfold slotGet
  rw [Vector.getElem?_eq_none hp]
  rfl

theorem markGet_markSet_same (v : Vector Mark 32) {p : Nat} (hp : p < 32) (m : Mark) :
    markGet (markSet v p m) p = m := by
  unfold markGet markSet
  rw [Vector.getElem?_setIfInBounds]
  simp [hp]

theorem markGet_markSet_other (v : Vector Mark 32) {p q : Nat} (h : p ≠ q) (m : Mark) :
    markGet (markSet v p m) q = markGet v q := by
  unfold markGet markSet
  rw [Vector.getElem?_setIfInBounds]
  simp [h]

/-- Equal slots hold equal contents, index by index. -/
theorem slots_ext {α : Type} {v w : Slots α} (h : ∀ p < 32, slotGet v p = slotGet w p) : v = w := by
  apply Vector.ext
  intro i hi
  have := h i hi
  simpa [slotGet, hi] using this

theorem latest_length_le {α : Type} (n : Nat) (xs : List α) : (latest n xs).length ≤ n := by
  simp only [latest, List.length_drop]; omega

theorem saturate_range (e : Int) : -Config.maxError ≤ saturate e ∧ saturate e ≤ Config.maxError := by
  simp only [saturate, Config.maxError]; omega

theorem saturate_of_range {e : Int} (h₁ : -Config.maxError ≤ e) (h₂ : e ≤ Config.maxError) : saturate e = e := by
  simp only [saturate, Config.maxError] at *; omega

end Sys2Proof.Machine
end

