-- ==== Sys2Proof/Laws/Timers.lean ====
section
/-! SUPPORT. When a timer's row acts, and the characters of SEAL-IN. -/

namespace Sys2Proof.Machine

theorem dueAt_iff {now : Stamp} {timer : Option Stamp} : dueAt now timer = true ↔ timer = some now := by
  simp [dueAt]

/-- A timer that expires at the stamp that stands has its effect. -/
theorem whenDue_due {timer : State → Option Stamp} {f : State → State} {s : State} (hp : s.phase = .running)
    (h : timer s = some s.fe.now) : whenDue timer f s = f s := by
  unfold whenDue whenRunning
  rw [if_pos hp]
  exact if_pos (dueAt_iff.2 h)

/-- A timer that does not expire at the stamp that stands has none (log 2). -/
theorem whenDue_not_due {timer : State → Option Stamp} {f : State → State} {s : State}
    (h : timer s ≠ some s.fe.now) : whenDue timer f s = s := by
  unfold whenDue whenRunning
  split
  · exact if_neg (fun e => h (dueAt_iff.1 e))
  · rfl

/-- The levels of a character, one by one: the low start bit, then its code (R129). -/
theorem serialLevels_getLsbD (code : Byte) (i : Nat) :
    (serialLevels code).getLsbD i = if i < 1 then false else code.getLsbD (i - 1) := by
  unfold serialLevels
  rw [BitVec.getLsbD_append]
  split <;> simp

/-- A character written as levels is read back: its start bit low, and its code (R129). -/
theorem serial_read (code : Byte) :
    (serialLevels code).getLsbD 0 = false ∧ serialCode (serialLevels code) = code := by
  refine ⟨by rw [serialLevels_getLsbD]; rfl, BitVec.eq_of_getLsbD_eq fun i hi => ?_⟩
  unfold serialCode
  rw [BitVec.getLsbD_extractLsb', serialLevels_getLsbD]
  simp [hi]

/-- Any levels that begin with a low start bit are a character (R129). -/
theorem serial_write (levels : BitVec 9) (h : levels.getLsbD 0 = false) : serialLevels (serialCode levels) = levels := by
  refine BitVec.eq_of_getLsbD_eq fun i hi => ?_
  rw [serialLevels_getLsbD]
  rcases i with _ | i
  · simpa using h.symm
  · have : i < 8 := by omega
    unfold serialCode
    rw [BitVec.getLsbD_extractLsb']
    simp [this, Nat.add_comm]

end Sys2Proof.Machine
end

