-- ==== Sys2Proof/Tests/Slice0.lean ====
section
/-! SUPPORT. Tests: well-formedness, one step of each command on the manual's worked cases, and for each statement of
Obligations.lean that has hypotheses a state and operands that meet them. -/

namespace Sys2Proof.Tests

open Sys2Proof.Machine

/-! ### States and frames -/

/-- The next state of a command. -/
def after (i : Instr) (s : State) : State :=
  match exec i s with
  | .next t => t
  | .fault _ | .refused _ => s

/-- The next state of a step. -/
def after' (s : State) : State :=
  match step s with
  | .next t => t
  | .fault _ | .refused _ => s

def src : Hdr := ⟨0, 63⟩
def con : Hdr := ⟨61, 1⟩
def grp : Hdr := ⟨61, 62⟩
def peer (k : Nat) : Hdr := ⟨BitVec.ofNat 6 k, 63⟩

def r0 : State := State.reset
def at' (n : Nat) (s : State) : State := { s with fe := { s.fe with now := BitVec.ofNat 48 n } }
def held (p : Phase) (s : State) : State := { s with phase := p }
def inBatch (b : BatchState) (s : State) : State := { s with meter := { s.meter with batch := b } }
def onLine (s : State) : State :=
  { s with line := { s.line with state := .onLine, listenTimer := none, idle := true } }
def lineIs (st : LineState) (s : State) : State := { s with line := { s.line with state := st } }
def queued (ms : List TxMsg) (s : State) : State :=
  { s with line := { s.line with queue := ms.map fun m => ⟨m, 0, 0, false⟩ } }
def sending (m : TxMsg) (attempts : Nat) (s : State) : State :=
  onLine { s with line := { s.line with queue := [⟨m, 0, attempts, true⟩] } }
def edgeOf (t width : Nat) : PendingEdge := ⟨BitVec.ofNat 48 t, width, 20000, ⟨2, some 5000, none⟩⟩
def withEdge (x : PendingEdge) (s : State) : State := { s with fe := { s.fe with edge := some x } }
def lastRef (t : Nat) (s : State) : State := { s with trk := { s.trk with count := 3, last := some (BitVec.ofNat 48 t) } }
def withRun (x : Run) (s : State) : State :=
  inBatch .running { s with run := { s.run with run := some x, standing := .opened x.p x.r } }
def active (p : Nat) (e : PlanEntry) (s : State) : State :=
  { s with plan := { s.plan with active := slotSet s.plan.active p (some e) } }
def staged (p : Nat) (e : PlanEntry) (s : State) : State :=
  { s with plan := { s.plan with staged := slotSet s.plan.staged p (some e) } }
def mark (p : Nat) (m : Mark) (s : State) : State :=
  { s with plan := { s.plan with marks := markSet s.plan.marks p m } }
def record (x : PointRecord) (s : State) : State :=
  { s with meter := { s.meter with records := slotSet s.meter.records x.p (some x) } }
def knows (e : RosterEntry) (s : State) : State := { s with roster := { s.roster with entries := e :: s.roster.entries } }
def runner (k : Nat) : RosterEntry := ⟨k, some .running, none, true, false⟩
def claims (cs : List Claim) (s : State) : State := { s with sealUnit := { s.sealUnit with pressList := cs } }
def claiming (c : OwnClaim) (s : State) : State :=
  inBatch .claiming { s with sealUnit := { s.sealUnit with current := some c } }
def pressing (c : OwnClaim) (s : State) : State :=
  inBatch .pressing { s with
    sealUnit := { s.sealUnit with current := some c, pressDrive := true, strokeTimer := some 300000000#48 }
    meter := { s.meter with clock := some ⟨214, 77#48⟩, held := some c.sealNo } }
def latched (n c : Nat) (s : State) : State :=
  { s with xc := { s.xc with latest := some ⟨BitVec.ofNat 16 n, BitVec.ofNat 48 c⟩ } }
def collecting (n : Nat) (ts : List StationTally) (s : State) : State :=
  { s with xc := { s.xc with collection := some ⟨BitVec.ofNat 16 n, false, ts⟩ } }
def sealLine (t : Text) (bad : Bool) (s : State) : State := { s with sealRx := ⟨t, bad, none, true⟩ }

def acc : PlanEntry := ⟨.accuracy 2 2 0 199 60, some ⟨-10000, 10000, 500, true⟩⟩
def creep : PlanEntry := ⟨.creep 600 1, some ⟨0, 0, 0, true⟩⟩
def start : PlanEntry := ⟨.start 600 2, none⟩
def register : PlanEntry := ⟨.register 600, none⟩
def accRun (st : RunState) : Run := { openedRun 7 3 acc r0 with state := st }
def windowRun (e : PlanEntry) (pulses : Nat) : Run := { openedRun 1 1 e r0 with pulses := pulses }
def pendingRecord : PointRecord := closeRecord .time true 10 { openedRun 4 1 register r0 with before := some 1000 }
def plainRecord : PointRecord := closeRecord .forced true 0 (accRun .measuring)
/-- A seal number, "K1". -/
def k1 : Text := [75, 49]
/-- A seal number, "K2". -/
def k2 : Text := [75, 50]
/-- The levels of a carriage return. -/
def cr : BitVec 9 := serialLevels 13
def cl (k n : Nat) (t : Text) : Claim := ⟨k, n, t⟩

/-! ### Well-formedness -/

theorem test_wellFormed_refuses_seventeen_bytes :
    Instr.wellFormed (.sealedReceived (peer 2) (List.replicate 17 65)) = false := by decide

theorem test_wellFormed_takes_sixteen_bytes :
    Instr.wellFormed (.sealedReceived (peer 2) (List.replicate 16 65)) = true := by decide

theorem test_wellFormed_refuses_short_length_field :
    Instr.wellFormed (.frameFiltered ⟨0, 5, 1, 63, 2, [1]⟩) = false := by decide

theorem test_wellFormed_refuses_long_length_field :
    Instr.wellFormed (.duplicateNumberFrame 0 1 63 1 [1, 2]) = false := by decide

theorem test_wellFormed_refuses_after_as_before :
    Instr.wellFormed (.readingBefore con [4, 1, 0, 0, 0, 0, 9]) = false := by decide

theorem test_wellFormed_refuses_before_as_after :
    Instr.wellFormed (.readingAfter con [4, 0, 0, 0, 0, 0, 9]) = false := by decide

/-- R129: a character begins with a low start bit. -/
theorem test_wellFormed_refuses_high_start_bit :
    Instr.wellFormed (.sealInCharacter (serialLevels 65 ||| 1) true false) = false ∧
    Instr.wellFormed (.sealInCharacter (serialLevels 65) true false) = true := by decide

/-- No row of the table gives bits. -/
theorem test_no_table_word : decodeTableWord 8 0 = none := by decide

/-! ### Resets and clocks -/

theorem test_powerOnReset_lamps_off : lamps (after .powerOnReset (inBatch .loaded r0)) = (false, false, false) := by
  decide

/-- R171 and Table 11.6: a command reset keeps the seal log, RESET-N low does not. -/
theorem test_resetEnd_seal_log :
    (after (.resetEnd 1 true false) (held .command { r0 with sealUnit := SealUnit.reset [k1] })).sealUnit.log = [k1] ∧
    (after (.resetEnd 1 true false) (held .pin { r0 with sealUnit := SealUnit.reset [k1] })).sealUnit.log = [] := by
  decide

/-- R91: the batch clock stays at its largest value; a second that a new start has put off does not count. -/
theorem test_batchClock_rests :
    (after .batchClockTick { r0 with meter := { r0.meter with clock := some ⟨4294967295, 0⟩ } }).meter.clock =
      some ⟨4294967295, 100000000#48⟩ ∧
    (after .batchClockTick { r0 with meter := { r0.meter with clock := some ⟨0, 100000000⟩ } }).meter.clock =
      some ⟨0, 100000000#48⟩ := by decide

theorem test_lampClock_turns : (after .lampClockTick (at' 25000000 r0)).lamp = ⟨false, 50000000#48⟩ := by decide

/-! ### Pulses and gates -/

/-- R3: 40 ticks are enough, 39 are not. -/
theorem test_ref_gap :
    (after .refRisingEdge (at' 100 (lastRef 60 r0))).trk.count = 4 ∧
    (after .refRisingEdge (at' 100 (lastRef 61 r0))).trk.overrate = true := by decide

/-- Section 1.7: M1's fall qualifies it; its marker waits for its next reference stamp. -/
theorem test_mutFall_qualifies :
    (after .mutFallingEdge (at' 9000 (lastRef 5000 (withEdge (edgeOf 8000 1000) r0)))).trk.queue =
      [⟨8000, 2, some 5000, none, false⟩] := by decide

/-- R6: an interval timer that ends now is passed, one tick later it is not. -/
theorem test_interval_boundary :
    (after .mutRisingEdge (at' 20000
      { r0 with fe := { r0.fe with lastQualified := some 0, intervalTimer := some 20000 } })).fe.edge.isSome = true ∧
    (after .mutRisingEdge (at' 19999
      { r0 with fe := { r0.fe with lastQualified := some 0, intervalTimer := some 20000 } })).fe.edge.isSome = false := by
  decide

/-- R6: the expiry stops the timer that ends now, not one set since. -/
theorem test_intervalTimer_stops :
    (after .intervalTimerExpiry (at' 5 { r0 with fe := { r0.fe with intervalTimer := some 5 } })).fe.intervalTimer = none ∧
    (after .intervalTimerExpiry (at' 5 { r0 with fe := { r0.fe with intervalTimer := some 9 } })).fe.intervalTimer =
      some 9 := by decide

/-- R23: the gate in progress is discarded and the error computer armed. -/
theorem test_presentFall_rearms :
    (after .presentFall { r0 with ec := .gating 2 199 ⟨⟨0, 0, none, none, false⟩, 1, false, none⟩ }).ec =
      .armed 2 199 := by decide

/-- Section 2.7, gates G1, G2 and G4. -/
theorem test_gate_results :
    let m (t c p n : Nat) : Marker := ⟨BitVec.ofNat 48 t, BitVec.ofNat 48 c, some (BitVec.ofNat 48 p),
      some (BitVec.ofNat 48 n), false⟩
    gateResult 2 199 1000000000 10000000 false false (m 1000000 100 995000 1005000) (m 3000000 300 2995000 3005000) =
      ⟨.valid, some 0⟩ ∧
    gateResult 2 199 1000000000 10000000 false false (m 3000000 300 2995000 3005000) (m 4980000 498 4975000 4985000) =
      ⟨.coarse, some 10101⟩ ∧
    gateResult 2 199 1000000000 10000000 true false (m 9480000 948 9475000 9485000)
      (m 11480000 1148 11475000 11485000) = ⟨.suspect, some 0⟩ := by decide

/-- R22: the end marker starts the next gate. -/
theorem test_delayedGate_restarts :
    let b : Marker := ⟨500, 2, some 480, none, false⟩
    (after .delayedGateEvaluation (at' 501 { r0 with
      ec := .gating 2 199 ⟨⟨0, 0, none, none, false⟩, 2, true, some b⟩ })).ec = .gating 2 199 ⟨b, 0, false, none⟩ := by
  decide

/-- R77, R78: the second pulse of a START run with two required decides it. -/
theorem test_widthTimer_counts :
    ((after .widthTimerExpiry (at' 9000 (withEdge (edgeOf 8000 1000) (knows (runner 2)
      (withRun (windowRun start 1) { r0 with pins := { r0.pins with mutHigh := true } }))))).run.run.map
        fun x => (x.pulses, x.state)) = some (2, .decided) := by decide

/-! ### Runs and plan -/

/-- Section 4.9: two kept results with too wide a spread at the time limit give UNSETTLED and their mean. -/
theorem test_pointTimer_unsettled :
    let x := { accRun .measuring with kept := [⟨1, .valid, some (-3120)⟩, ⟨2, .valid, some (-3900)⟩], completed := 2 }
    ((slotGet (after .pointTimerExpiry (withRun { x with pointTimer := 0 } r0)).meter.records 7).map
      fun y => (y.verdict, y.value, y.spread)) = some (.unsettled, some (-3510), none) := by decide

/-- Section 4.9: the same run settled passes with −3,210 and a spread of 180. -/
theorem test_loadChanging_closes_settled :
    let x := { accRun .settled with kept := [⟨1, .valid, some (-3120)⟩, ⟨2, .valid, some (-3300)⟩], completed := 2 }
    ((slotGet (after (.loadChanging src [0]) (withRun x r0)).meter.records 7).map
      fun y => (y.verdict, y.value, y.spread)) = some (.pass, some (-3210), some 180) := by decide

/-- Section 4.9: the grace expires with one kept result. -/
theorem test_grace_incomplete :
    let x := { accRun .measuring with kept := [⟨1, .valid, some (-3120)⟩], completed := 1 }
    let s := at' 500000000 (withRun x { r0 with fe := { r0.fe with absent := true, absenceTimer := some ⟨0, 500000000⟩ } })
    ((slotGet (after .graceExpiry s).meter.records 7).map fun y => (y.verdict, y.cause, y.value)) =
      some (.incomplete, some .scanner, some (-3120)) := by decide

/-- R57: an ACCURACY run opens and arms the error computer. -/
theorem test_loadSettled_opens :
    (after (.loadSettled src [7, 3]) (inBatch .loaded (active 7 acc r0))).ec = .armed 2 199 := by decide

/-- R58: with PRESENT low the run is closed at once. -/
theorem test_loadSettled_without_scanner :
    let s := after (.loadSettled src [7, 3]) (inBatch .loaded (active 7 acc { r0 with
      pins := { r0.pins with present := false } }))
    s.run.run = none ∧ (s.line.queue.map fun f => f.msg.kind) = [.progress, .pointResult] := by decide

/-- R51: LOAD-OFF copies WAITING entries. -/
theorem test_loadOff_copies :
    slotGet (after (.loadOff src []) (mark 3 .waiting (staged 3 creep r0))).plan.active 3 = some creep := by decide

/-- R42 and R45 with the load off: a PLAN-POINT is copied at once, its fields brought into range. -/
theorem test_planPoint_clamps :
    slotGet (after (.planPoint con [3, 2, 0, 0, 0]) r0).plan.active 3 = some ⟨.start 1 1, none⟩ := by decide +kernel

/-- R43: limits for an empty entry are refused with NO_SUCH_POINT. -/
theorem test_planLimits_refused :
    ((after (.planLimits con [3, 255, 255, 246, 0, 0, 10, 0, 0, 5, 1]) r0).line.queue.map TxFrame.msg) =
      [.reply .planLimits .noSuchPoint] := by decide

theorem test_planClear_empties :
    slotGet (after (.planClear con [0, 31]) (staged 3 creep r0)).plan.staged 3 = none := by decide

theorem test_planHold_holds : (after (.planHold grp []) r0).plan.hold = true := by decide

theorem test_planRelease_ready :
    slotGet (after (.planRelease grp []) (mark 3 .held (staged 3 creep
      { r0 with plan := { r0.plan with hold := true } }))).plan.active 3 = some creep := by decide

/-! ### Cross-check and roster -/

/-- R120: a successor window forms the tally modulo 2^48. -/
theorem test_sync_tally :
    ((after (.sync src [0, 7]) (latched 6 281474976710655 (knows (runner 2) (lastRef 0 r0)))).line.queue.map
      TxFrame.msg) = [.tally 7 4] := by decide

/-- Section 8.5: the median of an even number is the lower middle one. -/
theorem test_median : median [9, 1, 5, 7] = 5 := by decide

/-- R124: a tally beyond 8 counts of the median raises REF_SUSPECT when all peers have reported. -/
theorem test_tally_judges :
    (after (.tallyReceived (peer 3) [0, 7, 0, 0, 0, 0, 0, 109]) (knows (runner 2) (knows (runner 3)
      (collecting 7 [⟨1, 100⟩, ⟨2, 109⟩] r0)))).xc.suspect = true := by decide

/-- R106: a JOIN takes the peer's progress away. -/
theorem test_join_clears_progress :
    (after (.joinReceived (peer 2) [0, 1] false) (knows ⟨2, some .running, some ⟨7, 3, .opened⟩, true, false⟩ r0)
      ).roster.entries = [⟨2, some .loaded, none, true, true⟩] := by decide

theorem test_status_updates :
    (after (.statusReceived (peer 2) [2, 7, 3, 2, 0, 0]) r0).roster.entries =
      [⟨2, some .running, some ⟨7, 3, .settled⟩, true, true⟩] := by decide

/-- R67: the last pending peer settles, and the settled run closes by completion. -/
theorem test_progress_completes :
    (after (.progressReceived (peer 2) [7, 3, 2, 2]) (knows (runner 2) (withRun (accRun .settled) r0))).run.run = none := by
  decide

theorem test_pointResult_closes :
    (after (.pointResultReceived (peer 2) [7, 3, 0, 0, 0, 0, 0, 0, 0, 0, 2]) r0).roster.entries =
      [⟨2, none, some ⟨7, 3, .closed⟩, true, true⟩] := by decide

theorem test_measurement_marks :
    (after (.measurementReceived .measurement (peer 2) [7, 3, 0, 1, 0, 0, 0, 0]) r0).roster.entries =
      [⟨2, none, none, true, true⟩] := by decide

/-- Section 7.7: the second expiry without a frame removes a peer. -/
theorem test_aging_removes :
    (after (.agingExpiry false) (at' 400000000 (knows ⟨2, none, none, true, false⟩ (knows ⟨3, none, none, true, true⟩ r0)))
      ).roster.entries = [⟨3, none, none, true, false⟩] := by decide

/-! ### Sealing -/

theorem test_claim_enters :
    (after (.claimReceived (peer 2) (1 :: k1) false) (claims [cl 2 9 k2, cl 3 1 k2] r0)).sealUnit.pressList =
      [cl 3 1 k2, cl 2 1 k1] := by decide

/-- R136 with K = 2: the release of the second claim grants the third. -/
theorem test_release_grants :
    (after (.releaseReceived (peer 3) [1, 0] false) (claims [cl 2 1 k2, cl 3 1 k2, cl 1 4 k1]
      (claiming ⟨4, k1, true⟩ r0))).sealUnit.pressDrive = true := by decide

/-- R144: a SEALED with the claimed number abandons the claim. -/
theorem test_sealed_abandons :
    (after (.sealedReceived (peer 2) k1) (claiming ⟨4, k1, true⟩ r0)).sealUnit.owed = some ⟨4, .abandoned⟩ := by decide

theorem test_sealIn_delivers :
    (after (.sealInCharacter cr true false) (sealLine k1 false r0)).meter.held = some k1 := by decide

theorem test_sealIn_fifteenth_marks_bad :
    (after (.sealInCharacter (serialLevels 65) true false) (sealLine (List.replicate 14 65) false r0)).sealRx.bad = true := by decide

/-- R129: "A" as levels, low start bit, least significant data bit first; a low stop bit is a framing error. -/
theorem test_sealIn_bits :
    (after (.sealInCharacter 0b010000010 true false) (sealLine [] false r0)).sealRx.buffer = [65] ∧
    (after (.sealInCharacter 0b010000010 false false) (sealLine [] false r0)).sealRx.bad = true := by decide

theorem test_sealInTimeout_notice :
    hasNotice (after .sealInTimeout { r0 with sealRx := ⟨k1, false, some 0, true⟩ }).cmd.notices .sealReadBad = true := by
  decide

theorem test_strokeDone_seals :
    (after .strokeDoneRise (pressing ⟨4, k1, true⟩ r0)).meter.sealRecord = some ⟨k1, 214⟩ := by decide

theorem test_strokeTimer_fails :
    (after .strokeTimerExpiry (at' 300000000 (pressing ⟨4, k1, true⟩ r0))).meter.batch = .sealFault := by decide

/-! ### Bench line -/

/-- R117: a frame with the own number mutes the station. -/
theorem test_duplicate_mutes :
    (after (.duplicateNumberFrame 3 33 63 6 [2, 7, 3, 2, 0, 0]) r0).line.state = .muted := by decide

theorem test_frameDiscard_objects : (after (.frameDiscard .ownCheck) r0).line.drive = .objectionSlot := by decide

/-- R115: half of four seconds. -/
theorem test_heartbeat_restarts :
    let s := onLine r0
    (after .heartbeatExpiry { s with line := { s.line with heartbeat := some 0 } }).line.heartbeat =
      some 200000000#48 := by decide

theorem test_listenTimer_joins :
    ((after .listenTimerExpiry (at' 100000000 r0)).line.queue.map TxFrame.msg) = [.join .power none] := by decide

/-- Section 10.8, step 5: a CLAIM displaces the ROUTINE frame that entered last. -/
theorem test_queue_pressure :
    ((after (.sealInCharacter cr true false) (sealLine k1 false (inBatch .awaitSeal (queued
      [.progress 4 1 .settled .running, .tally 17 0, .reply .query .done, .measurement 4 1 21 .valid none,
        .measurement 4 1 22 .valid none, .status none, .notice 1, .pointResult 4 1 .pass none none 0]
      { r0 with cmd := { r0.cmd with mask := 0 } })))).line.queue.map fun f => f.msg.kind) =
      [.progress, .tally, .reply, .measurement, .measurement, .notice, .pointResult, .claim] := by decide

/-- R160: a frame of the most urgent class is the head, whenever it entered. R152: it goes out on an idle line alone. -/
theorem test_attempt_head :
    let s := onLine (queued [.status none, .tally 1 2, .claim 1 k1] r0)
    ((after .transmissionAttempt s).line.queue.map TxFrame.sending) = [false, false, true] ∧
    (after .transmissionAttempt { s with line := { s.line with idle := false } }).line.queue = s.line.queue := by decide

theorem test_lostArbitration_counts_nothing :
    ((after .lostArbitration (sending (.claim 1 k1) 2 r0)).line.queue.map TxFrame.attempts) = [2] := by decide

/-- R135: the own claim enters the press list at its success and is granted. -/
theorem test_success_grants :
    (after (.attemptSuccess false) (sending (.claim 4 k1) 0 (claiming ⟨4, k1, false⟩ r0))).meter.batch = .pressing := by
  decide

theorem test_fourth_failure_drops :
    (after (.attemptFailure .objected) (sending (.claim 4 k1) 3 (claiming ⟨4, k1, false⟩ r0))).sealUnit.current = none := by
  decide

/-- R161, R169: a NOTICE dropped while another waits leaves the set of the latest raising, TX_DROPPED in it. -/
theorem test_dropped_notice :
    let s := sending (.notice 2) 3 { r0 with cmd := { r0.cmd with notices := 10 } }
    ((after (.attemptFailure .objected) { s with line := { s.line with waitingNotice := some 10 } }).line.queue.map
      TxFrame.msg) = [.notice 11] := by decide

theorem test_lineOffEntry_keeps_results :
    ((after .lineOffEntry (onLine (queued [.sealed k1, .tally 1 2, .pointResult 4 1 .pass none none 0]
      { r0 with cmd := { r0.cmd with mask := 0 } }))).line.queue.map fun f => f.msg.kind) = [.sealed, .pointResult] := by
  decide

theorem test_lineReturn_joins :
    ((after .lineReturn (lineIs .lineOff r0)).line.queue.map TxFrame.msg) = [.join .lineReturn none] := by decide

/-- R160: the frame that entered last makes room for the JOIN, and so does the NOTICE of its loss. -/
theorem test_join_makes_room :
    ((after .lineReturn (lineIs .lineOff (queued (List.replicate 8 (.pointResult 1 1 .pass none none 0)) r0))).line.queue.map
      fun f => f.msg.kind) = List.replicate 7 .pointResult ++ [.join] := by decide

/-- R155: a REPLY kind number with class 3 is discarded. -/
theorem test_filter_class :
    (after (.frameFiltered ⟨3, 2, 42, 61, 2, [16, 0]⟩) r0).roster.entries = [] ∧
    (after (.frameFiltered ⟨2, 2, 42, 61, 2, [16, 0]⟩) r0).roster.entries = [⟨2, none, none, true, true⟩] := by decide

theorem test_stuffing_objects : (after .stuffingViolation r0).line.drive = .objectionRun := by decide

/-- R149, R152: the idle line ends the wait, and an attempt may begin. -/
theorem test_lineIdle_ends_wait :
    let s := after .lineIdle { r0 with line := { r0.line with awaitingIdle := true, idle := false } }
    s.line.awaitingIdle = false ∧ s.line.idle = true := by decide

/-- R149: a stuff bit after six equal bits, counting the stuff bits before it. -/
theorem test_stuff :
    stuff [false, false, false, false, false, false, true, true, true, true, true, false] =
      [false, false, false, false, false, false, true, true, true, true, true, true, false, false] := by decide

/-! ### Console -/

theorem test_setup_clamps :
    (after (.setup con (writeSetup ⟨0, 0, 9, 11, 31, 5, 20, 10001, false⟩)) r0).cmd.setup =
      ⟨1, 1, 8, 10, 30, 5, 20, 10000, false⟩ := by decide

theorem test_setMeter_loads :
    (after (.setMeter con [0, 0, 39, 16, 77, 49]) r0).meter.batch = .loaded := by decide

/-- Section 5.7's form of reading: a BEFORE fills its slot. -/
theorem test_readingBefore_fills :
    slotGet (after (.readingBefore con [4, 0, 0, 0, 0, 1, 0]) (inBatch .loaded r0)).run.slots 4 = some 256 := by decide

/-- R86: a PENDING record is resolved by its AFTER. -/
theorem test_readingAfter_resolves :
    ((slotGet (after (.readingAfter con [4, 1, 0, 0, 0, 4, 0]) (record pendingRecord (inBatch .loaded r0))).meter.records
      4).map PointRecord.verdict) = some .info := by decide

theorem test_query_begins :
    (after (.query con [255]) r0).cmd.series = some ⟨.meter, 1, 5, false⟩ := by decide

theorem test_endBatch_idles : (after (.endBatch con []) (inBatch .sealed r0)).meter.batch = .idle := by decide

theorem test_retrySeal_returns :
    (after (.retrySeal con []) (inBatch .sealFault r0)).meter.batch = .running := by decide

theorem test_clearNotices_keeps_conditions :
    (after (.clearNotices con [1, 1]) { r0 with
      fe := { r0.fe with absent := true }, cmd := { r0.cmd with notices := 0x103 } }).cmd.notices = 0x102 := by decide

theorem test_noticeMask_sets : (after (.noticeMask con [2, 1]) r0).cmd.mask = 0x201 := by decide

theorem test_restart_holds : (after (.restart con []) r0).phase = .command := by decide

/-! ### Witnesses: what meets the hypotheses of each statement -/

/-- A tick with every timer at the new stamp and one later; a command reset. -/
theorem witness_IdleStationTicks :
    let s := at' 499 (withEdge ⟨400, 100, 0, ⟨0, none, none⟩⟩ { r0 with
      ec := .gating 2 199 ⟨⟨0, 0, none, none, false⟩, 2, true, some ⟨499, 2, some 480, none, false⟩⟩
      lamp := ⟨true, 500⟩, roster := ⟨[], 501⟩ })
    r0.phase = .running ∧ r0.pending = [] ∧ s.phase = .running ∧ s.pending = [] ∧
    (after' s).pending = [.widthTimerExpiry, .delayedGateEvaluation, .lampClockTick] ∧
    (held .command r0).phase = .command ∧ (held .command r0).pending = [] := by decide

theorem witness_HeldStationTakesPinsOnly :
    (held .pin r0).phase ≠ .running ∧ Instr.refRisingEdge ≠ .powerOnReset ∧ Instr.refRisingEdge ≠ .pinReset ∧
    ∀ a b c, Instr.refRisingEdge ≠ .resetEnd a b c :=
  ⟨by decide, by decide, by decide, fun _ _ _ h => nomatch h⟩

theorem witness_ResetTakesHold :
    r0.phase ≠ .powerOn ∧ (held .powerOn r0).phase = .powerOn ∧ (held .pin r0).phase = .pin ∧
    (held .pin r0).pending = [] := by decide

/-- Straps 0, 1, 60 and 61. -/
theorem witness_ResetEndRestores :
    r0.phase = .running ∧ (held .powerOn r0).phase ≠ .running ∧ (held .pin r0).phase ≠ .running ∧
    (held .command r0).phase ≠ .running ∧ (held .command r0).phase = .command ∧ (held .pin r0).phase ≠ .command ∧
    (held .pin r0).cmd.setup.scannerGrace ≠ 0 ∧ hasNotice r0.cmd.mask .scannerAbsent = true ∧ ¬ 1 ≤ (0 : BitVec 6).toNat ∧
    (60 : BitVec 6).toNat ≤ 60 ∧ ¬ (61 : BitVec 6).toNat ≤ 60 := by decide

/-- A reference edge at 40 ticks, at 39, and the first one. -/
theorem witness_RefEdgeCountedOrRefused :
    let far := at' 100 (lastRef 60 r0)
    let near := at' 100 (lastRef 61 r0)
    far.phase = .running ∧ far.trk.last = some 60 ∧ 40 ≤ elapsed far.fe.now 60 ∧ r0.trk.last = none ∧
    near.phase = .running ∧ near.trk.last = some 61 ∧ elapsed near.fe.now 61 < 40 ∧
    MarkersWait { far with trk := { far.trk with queue := List.replicate 4 ⟨100, 1, none, none, false⟩ } } ∧
    (withEdge (edgeOf 100 1000) far).fe.edge = some (edgeOf 100 1000) ∧ (edgeOf 100 1000).t = far.fe.now ∧
    (edgeOf 99 1000).t ≠ far.fe.now ∧ (edgeOf 99 1000).snap.rNext = none ∧ far.fe.edge = none ∧
    (⟨99, 1, none, none, false⟩ : Marker).t ≠ far.fe.now := by decide

/-- A fall one tick before the minimum width; a rise at the interval and one tick before it. -/
theorem witness_PendingEdgeMadeAndDropped :
    let early := at' 8999 (withEdge (edgeOf 8000 1000) r0)
    let timed (n : Nat) := at' n { r0 with fe := { r0.fe with
      lastQualified := some 7, intervalTimer := some (7#48 + BitVec.ofNat 48 20000) } }
    r0.phase = .running ∧ intervalPassed (timed 20006) = false ∧ intervalPassed (timed 20007) = true ∧
    (timed 20007).fe.lastQualified = some 7 ∧ 20000 < 2 ^ 48 ∧
    (timed 20007).fe.intervalTimer = some (7#48 + BitVec.ofNat 48 20000) ∧ r0.fe.intervalTimer = none ∧
    { r0.pins with present := false }.present = false ∧
    r0.pins.present = true ∧ intervalPassed r0 = true ∧ r0.cmd.setup.mutWidth ≠ 0 ∧ r0.fe.edge = none ∧
    early.fe.edge = some (edgeOf 8000 1000) ∧ elapsed early.fe.now (edgeOf 8000 1000).t < (edgeOf 8000 1000).width := by
  decide

/-- An edge that rose at 8000 and a fall after 1000 ticks, with the error computer and the marker queue given. -/
def fallAt9000 (ec : ErrorComputer) (q : List Marker) : State :=
  at' 9000 (withEdge (edgeOf 8000 1000) { r0 with ec := ec, trk := { r0.trk with queue := q } })
/-- A gate of two pulses with k of them counted. -/
def gateOfTwo (k : Nat) (b : Option Marker) : ErrorComputer := .gating 2 199 ⟨⟨0, 0, none, none, false⟩, k, false, b⟩
/-- A minimum width of 0. -/
def zeroWidth (s : State) : State := { s with cmd := { s.cmd with setup := { s.cmd.setup with mutWidth := 0 } } }
/-- The edge of a rise at stamp 0 under a minimum width of 0. -/
def edgeAtZero : PendingEdge := ⟨0, 0, 20000, ⟨0, none, none⟩⟩

/-- The three ways to qualify, the fall just at the minimum width; the end of the width timer with MUT low, and a tick
late. -/
theorem witness_QualifiedEdgeFormsMarker :
    let x := edgeOf 8000 1000
    let wide := at' 9000 (withEdge x { r0 with pins := { r0.pins with mutHigh := true } })
    (QualifiesBy .mutFallingEdge x (fallAt9000 (.armed 2 199) []) ∧ QualifiesBy .widthTimerExpiry x wide ∧
      QualifiesBy .mutRisingEdge edgeAtZero (zeroWidth r0)) ∧
    ((fallAt9000 (.armed 2 199) []).phase = .running ∧ wide.phase = .running ∧ (zeroWidth r0).phase = .running ∧
      r0.ec = .idle ∧ (fallAt9000 (.armed 2 199) []).run.run = none) ∧
    (r0.fe.edge = none ∧ (at' 9000 (withEdge x r0)).pins.mutHigh = false ∧
      x.t + BitVec.ofNat 48 x.width ≠ (at' 9001 wide).fe.now) := by decide

/-- For the same statement: marker queues of 3 and 4; the last marker but one of a gate and the last; an end marker on its
own stamp and a later one. -/
theorem witness_QualifiedEdgeFormsMarker_gates :
    let x := edgeOf 8000 1000
    let full : List Marker := List.replicate 4 ⟨7000, 2, some 5000, none, false⟩
    (QualifiesBy .mutFallingEdge x (fallAt9000 (gateOfTwo 0 none) full) ∧ x.snap.rNext = none ∧
      4 ≤ (fallAt9000 (gateOfTwo 0 none) full).trk.queue.length) ∧
    (QualifiesBy .mutFallingEdge x (fallAt9000 (gateOfTwo 0 none) (full.drop 1)) ∧
      ¬ 4 ≤ (fallAt9000 (gateOfTwo 0 none) (full.drop 1)).trk.queue.length ∧ 0 + 1 < 2) ∧
    (QualifiesBy .mutFallingEdge x (fallAt9000 (gateOfTwo 1 none) []) ∧ 2 ≤ 1 + 1 ∧
      x.t ≠ (fallAt9000 (gateOfTwo 1 none) []).fe.now) ∧
    QualifiesBy .mutFallingEdge x (fallAt9000 (gateOfTwo 2 (some ⟨8500, 2, some 5000, none, false⟩)) []) ∧
    QualifiesBy .mutRisingEdge edgeAtZero { zeroWidth r0 with ec := gateOfTwo 1 none } ∧
    edgeAtZero.t = (zeroWidth r0).fe.now := ⟨by decide, by decide, by decide, by decide⟩

theorem witness_TimersOfNoOtherEffect :
    let s := { r0 with
      fe := { r0.fe with intervalTimer := some 0 }, meter := { r0.meter with clock := some ⟨4294967295, 0⟩ }, lamp := ⟨true, 0⟩ }
    s.phase = .running ∧ s.fe.intervalTimer = some s.fe.now ∧ s.meter.clock = some ⟨4294967295, s.fe.now⟩ ∧
    s.lamp.toggleAt = s.fe.now ∧ r0.phase = .running ∧ r0.fe.intervalTimer ≠ some r0.fe.now ∧ r0.meter.clock = none ∧
    (at' 1 s).meter.clock = some ⟨4294967295, 0⟩ ∧ (at' 1 s).fe.now ≠ 0 ∧ r0.lamp.toggleAt ≠ r0.fe.now := by decide

theorem witness_PresenceIsFollowed :
    let off := { r0 with pins := { r0.pins with present := false } }
    let none' := { r0 with cmd := { r0.cmd with setup := { r0.cmd.setup with scannerGrace := 0 } } }
    let due : FrontEnd := { off.fe with absenceTimer := some ⟨5, 0⟩ }
    due.absenceTimer.filter (fun a => a.expiry == due.now) = some ⟨5, 0⟩ ∧ r0.phase = .running ∧ r0.pins.present = true ∧ r0.cmd.setup.scannerGrace ≠ 0 ∧ none'.pins.present = true ∧
    none'.cmd.setup.scannerGrace = 0 ∧ off.phase = .running ∧ off.pins.present = false ∧
    { r0 with ec := .armed 2 199 }.ec ≠ .idle := by decide

/-- The start and the end marker of a gate of 2,000,000 ticks and error 0. -/
def gateStart : Marker := ⟨1000000, 100, some 995000, some 1005000, false⟩
def gateEnd : Marker := ⟨3000000, 300, some 2995000, some 3005000, false⟩
/-- That gate with its end marker waiting, a tick after its stamp. -/
def gateWaits (s : State) : State := at' 3000001 { s with
  ec := .gating 2 199 ⟨gateStart, 2, false, some gateEnd⟩, meter := { s.meter with constant := some 10000000 } }
/-- That gate one pulse short, and the edge of its end marker at the minimum width. -/
def gateCloses (s : State) : State := at' 3000500 { s with
  ec := .gating 2 199 ⟨gateStart, 1, false, none⟩
  meter := { s.meter with constant := some 10000000 }
  pins := { s.pins with mutHigh := true }
  trk := Tracker.reset
  fe := { s.fe with edge := some ⟨3000000, 500, 20000, ⟨300, some 2995000, some 3005000⟩⟩ } }
/-- A run with one kept result of error e, and n frames in the queue. -/
def keptOne (st : RunState) (e : Int) : Run := { accRun st with kept := [⟨1, .valid, some e⟩] }
def runKeeps (st : RunState) (e : Int) (n : Nat) : State :=
  queued (List.replicate n (.tally 1 2)) (withRun (keptOne st e) r0)

/-- A fall after the minimum width, and the end of the width timer, evaluate the gate, whatever run is open. -/
theorem gateCloses_evaluates (s : State) :
    EvaluatesGate .mutFallingEdge 2 199 gateStart gateEnd false (gateCloses s) ∧
    EvaluatesGate .widthTimerExpiry 2 199 gateStart gateEnd false (gateCloses s) :=
  have late : (3000000 : Stamp) ≠ 3000500 := by decide
  have filled : some (3005000 : Stamp) ≠ none := by decide
  have wide : 500 ≤ elapsed (3000500 : Stamp) 3000000 := by decide
  ⟨.inr ⟨_, 1, false, .inl ⟨rfl, rfl, wide⟩, late, rfl, Nat.le_refl 2, .inl filled, rfl, rfl⟩,
    .inr ⟨_, 1, false, .inr (.inl ⟨rfl, rfl, rfl, rfl⟩), late, rfl, Nat.le_refl 2, .inl filled, rfl, rfl⟩⟩

/-- With no run open and with a measuring one. -/
theorem witness_GateEvaluated :
    EvaluatesGate .mutFallingEdge 2 199 gateStart gateEnd false (gateCloses r0) ∧
    EvaluatesGate .widthTimerExpiry 2 199 gateStart gateEnd false (gateCloses (runKeeps .measuring 500 5)) :=
  ⟨(gateCloses_evaluates r0).1, (gateCloses_evaluates _).2⟩

/-- For the same statement: no run, and a run of each kind and state. -/
theorem witness_GateEvaluated_runs :
    (∀ s ∈ [r0, withRun (windowRun creep 0) r0, withRun (accRun .skipping) r0], (gateCloses s).phase = .running) ∧
    (gateWaits r0).phase = .running ∧ (gateWaits r0).run.run = none ∧ (windowRun creep 0).kind ≠ .accuracy ∧
    (windowRun creep 0).state = .counting ∧ (openedRun 4 1 register r0).state ≠ .counting ∧
    (accRun .skipping).kind = .accuracy ∧ (accRun .skipping).state = .skipping := by decide

/-- For the same statement: the evaluation that waits, on its tick and a tick before. -/
theorem witness_GateEvaluated_waiting :
    (∀ n m a k o b, r0.ec ≠ .gating n m ⟨a, k, o, some b⟩) ∧
    EvaluatesGate .delayedGateEvaluation 2 199 gateStart gateEnd false (gateWaits r0) ∧
    gateEnd.t + 1 ≠ (at' 3000000 (gateWaits r0)).fe.now :=
  ⟨fun _ _ _ _ _ _ h => (nomatch h), .inl ⟨rfl, ⟨2, rfl⟩, rfl⟩, by decide⟩

/-- For the same statement: a spread at the limit of 500 and one above it; five, six and seven frames in the queue; a peer
pending and none. -/
theorem witness_GateEvaluated_kept :
    let on := runKeeps .measuring 500 5
    let last (e : Int) : List KeptEntry := [⟨1, .valid, some e⟩, ⟨1, .valid, some 0⟩]
    (acc.point = .accuracy 2 2 0 199 60 ∧ on.run.run = some (keptOne .measuring 500) ∧
      (keptOne .measuring 500).state = .measuring ∧ (keptOne .settled 501).state = .settled ∧
      (gateCloses on).meter.constant = some 10000000 ∧
      gateResult 2 199 1000000000 10000000 false false gateStart gateEnd = ⟨.valid, some 0⟩) ∧
    (on.line.queue.length < 6 ∧ 6 ≤ (runKeeps .measuring 500 6).line.queue.length ∧
      (runKeeps .measuring 500 7).line.queue.length < 8 ∧ on.cmd.setup.streaming = true) ∧
    (2 ≤ (last 500).length ∧ (∀ e ∈ last 500, e.status = .valid) ∧
      (∀ u ∈ (last 500).filterMap KeptEntry.error, ∀ v ∈ (last 500).filterMap KeptEntry.error, u - v ≤ 500) ∧
      ¬ (∀ u ∈ (last 501).filterMap KeptEntry.error, ∀ v ∈ (last 501).filterMap KeptEntry.error, u - v ≤ 500)) ∧
    PeerPending 7 3 (knows (runner 2) on) ∧ ¬ PeerPending 7 3 on ∧ (keptOne .measuring 500).p < 32 := by decide

theorem witness_ErrorRoundedOnce : 1 ≤ 1 ∧ 2 ≤ 2 ∧ 1 ≤ 1 := by decide

/-- A gate of 2^40 ticks and one of a tick more; one count and two; the register error at both ends of its range. -/
theorem witness_GateAndRegisterResults :
    let a : Marker := ⟨3000000, 300, some 2995000, some 3005000, false⟩
    let b : Marker := ⟨4980000, 498, some 4975000, some 4985000, false⟩
    ¬ 2 ^ 40 < ((1099511627776 : Stamp) - 0).toNat ∧ 2 ^ 40 < ((1099511627777 : Stamp) - 0).toNat ∧
    (b.t - a.t).toNat ≤ 2 ^ 40 ∧ (b.c - a.c).toNat = 198 ∧ ((301 : Stamp) - a.c).toNat < 2 ∧
    2 ≤ ((302 : Stamp) - a.c).toNat ∧ a.rNext = some 3005000 ∧ b.rPrev = some 4975000 ∧ 1 ≤ (b.t - a.t).toNat ∧
    gateResult 2 199 1000000000 10000000 false false a b = ⟨.coarse, some 10101⟩ ∧
    registerResult 1000000 1999999 3999998 1000000 = ⟨.valid, some 999999⟩ ∧
    registerResult 1000000 0 2000000 1000000 = ⟨.clamped, some 999999⟩ ∧
    registerResult 1000000 0 0 1000000 = ⟨.clamped, some (-999999)⟩ ∧
    RoundsTo 5 10 1 ∧ RoundsTo (-5) 10 (-1) ∧ RoundsTo 4 10 0 := by decide

def settledRun : Run :=
  { accRun .settled with kept := [⟨1, .valid, some (-3120)⟩, ⟨2, .valid, some (-3300)⟩], completed := 2 }

/-- Table 4.3: both sides of a limit, no limits, a void run, a close by the scanner, and S results or one fewer. -/
theorem witness_CloseRecordFollowsTables :
    let limited (l u : Int) : Run := { settledRun with entry := { acc with limits := some ⟨l, u, 500, true⟩ } }
    (settledRun.kind = .accuracy ∧ acc.point = .accuracy 2 2 0 199 60 ∧ latestErrors settledRun = [-3120, -3300] ∧
      mean [-3120, -3300] = some (-3210) ∧ settledRun.void = false ∧ settledRun.state = .settled) ∧
    ((closeRecord .time true 0 (limited (-3210) 0)).verdict = .pass ∧
      (closeRecord .time true 0 (limited (-3209) 0)).verdict = .fail ∧
      (closeRecord .time true 0 { settledRun with void := true }).verdict = .void ∧
      (closeRecord .scanner true 0 settledRun).value = some (-3210)) ∧
    ((accRun .measuring).state ≠ .settled ∧ 2 ≤ { accRun .measuring with completed := 2 }.completed ∧
      (accRun .measuring).completed < 2) := by decide

/-- For the same statement: Tables 5.1 and 5.3, and the ends of the range of a mean. -/
theorem witness_CloseRecordFollowsTables_other_kinds :
    ((windowRun creep 1).kind = .creep ∧ (windowRun start 1).kind = .start ∧ (windowRun creep 1).decided = none ∧
      { windowRun creep 2 with decided := some false }.decided = some false ∧ creep.limits.isSome = true ∧
      start.limits.isSome = false) ∧
    ((openedRun 4 1 register r0).kind = .register ∧ (openedRun 4 1 register r0).before = none ∧
      { openedRun 4 1 register r0 with before := some 1000 }.before ≠ none) ∧
    [(999999 : Int), 999999] ≠ [] ∧ ∀ x ∈ [(-999999 : Int), 999999], -999999 ≤ x ∧ x ≤ 999999 := by decide

/-- Each command that closes, with index 31; a number held, in the last room it asks for. -/
theorem witness_EveryCloseWritesRecord :
    let x := { accRun .measuring with p := 31 }
    let s := at' 500000000 (withRun { x with pointTimer := 500000000 } { r0 with
      ec := .armed 2 199, fe := { r0.fe with absenceTimer := some ⟨0, 500000000⟩ } })
    let zero : State := { s with cmd := { s.cmd with setup := { s.cmd.setup with scannerGrace := 0 } } }
    let kept : State := { queued (List.replicate 5 (.tally 1 2)) s with meter := { s.meter with held := some k1 } }
    s.phase = .running ∧ s.run.run = some { x with pointTimer := 500000000 } ∧ x.p < 32 ∧
    s.fe.absenceTimer.map AbsenceTimer.expiry = some s.fe.now ∧ (500000000 : Stamp) = s.fe.now ∧
    zero.pins.present = true ∧ zero.cmd.setup.scannerGrace = 0 ∧ Hears s ∧ FromSource src ∧ x.kind = .accuracy ∧
    s.ec ≠ .idle ∧ (windowRun creep 0).kind ≠ .accuracy ∧ s.meter.held = none ∧ s.meter.batch = .running ∧
    (queued (List.replicate 6 (.tally 1 2)) s).line.queue.length ≤ 6 ∧ kept.meter.held = some k1 ∧
    kept.meter.batch = .running ∧ kept.line.queue.length ≤ 5 ∧ s.pins.present = true ∧ (31 : Byte).toNat = x.p ∧
    (at' 1 s).fe.absenceTimer = some ⟨0, 500000000⟩ ∧ (500000000 : Stamp) ≠ (at' 1 s).fe.now ∧ r0.run.run = none ∧
    r0.fe.absenceTimer = none := by decide

/-- After a close that leaves every seal-relevant record PASS, and after one that does not, with a number held. -/
theorem witness_close_with_held_number :
    let s := at' 500000000 (active 7 acc (withRun { settledRun with pointTimer := 500000000 } { r0 with
      meter := { r0.meter with held := some k1 } }))
    let t := after .pointTimerExpiry s
    let u := after .pointTimerExpiry (withRun { settledRun with pointTimer := 500000000, void := true } s)
    t.meter.verdict = some .eligible ∧ t.meter.batch = .claiming ∧ u.meter.verdict = some .rejected ∧
    u.meter.held = some k1 := by decide

/-- An edge at the instant of the opening, and one a tick before it; a peer pending and none. -/
theorem witness_WindowRunDecides :
    let x := edgeOf 8000 1000
    let runs (r : Run) (open_ : Nat) : State :=
      at' 9000 (withEdge x (knows (runner 2) (withRun { r with openStamp := BitVec.ofNat 48 open_ } r0)))
    let due : State := at' 9000 (withEdge x (withRun { windowRun start 1 with p := 31, openStamp := 8000 } r0))
    QualifiesBy .mutFallingEdge x (runs (windowRun creep 0) 8000) ∧ (runs (windowRun creep 0) 8000).phase = .running ∧
    (windowRun creep 0).state = .counting ∧ elapsed 9000 x.t < elapsed 9000 8000 + 1 ∧ elapsed 9000 8001 < elapsed 9000 x.t ∧
    creep.point = .creep 600 1 ∧ start.point = .start 600 2 ∧ 0 + 1 ≤ 1 ∧ 1 < 1 + 1 ∧ 0 + 1 < 2 ∧ 2 ≤ 1 + 1 ∧
    PeerPending 1 1 (runs (windowRun creep 1) 8000) ∧ (runs (windowRun creep 1) 8000).line.queue.length < 8 ∧
    ¬ PeerPending 31 1 due ∧ (31 : Nat) < 32 ∧
    QualifiesBy .mutFallingEdge x due ∧ { windowRun creep 2 with state := .decided }.state = .decided := by decide

/-- The head returns on the tick of its grace expiry, over a START run at its last required pulse but one and a peer that
is pending; the minimum width is 0. -/
def headReturns : State := zeroWidth (at' 9000 (knows (runner 2) (withRun { windowRun start 1 with openStamp := 8000 }
  { r0 with pins := { r0.pins with present := false }, fe := { r0.fe with absent := true, absenceTimer := some ⟨5, 9000⟩ } })))

/-- For the same statement: the deciding edge on the tick of a grace expiry. -/
theorem witness_WindowRunDecides_grace :
    (headReturns.phase = .running ∧ headReturns.pins.present = false ∧ headReturns.fe.absenceTimer = some ⟨5, 9000⟩ ∧
      (9000 : Stamp) = headReturns.fe.now ∧ headReturns.cmd.setup.mutWidth = 0 ∧ headReturns.fe.lastQualified = none) ∧
    (headReturns.run.run = some { windowRun start 1 with openStamp := 8000 } ∧ (windowRun start 1).state = .counting ∧
      (windowRun start 1).decided = none ∧ (windowRun start 1).p < 32 ∧ PeerPending 1 1 headReturns ∧
      start.point = .start 600 2 ∧ 2 ≤ 1 + 1) := by decide

/-- R82: the rise, then the deciding edge; an expiry delivered after it closes the run by the scanner, decided, and one that
is not delivered, as R11 has it, leaves the run. -/
theorem test_grace_after_deciding_edge :
    let edge := after .mutRisingEdge (after .presentRise headReturns)
    let stands (a : Option AbsenceTimer) : State := { edge with fe := { edge.fe with absenceTimer := a } }
    let t := after .graceExpiry (stands (some ⟨5, 9000⟩))
    edge.run.run.map Run.state = some .decided ∧ (after .graceExpiry (stands none)).run = edge.run ∧ t.run.run = none ∧ (slotGet t.meter.records 1).map PointRecord.verdict = some .info ∧
    t.line.queue.map TxFrame.msg = [.progress 1 1 .settled .running, .progress 1 1 .withdrawn .running,
      .pointResult 1 1 .info none none 2] := by decide

/-- R11: without a deciding edge no expiry is delivered after the rise. -/
theorem test_grace_after_rise : (after .graceExpiry (after .presentRise headReturns)).run = headReturns.run := by decide

/-- Index 31, each batch state that opens, an entry that is DUE, a run open before, and PRESENT low. -/
theorem witness_LoadSettledOpensRun :
    let s (b : BatchState) := inBatch b (active 31 acc r0)
    let due := inBatch .loaded (mark 31 .due (staged 31 creep r0))
    let open_ := active 31 acc (withRun (accRun .measuring) r0)
    let away := inBatch .loaded (active 31 register { r0 with pins := { r0.pins with present := false } })
    (∀ b ∈ [BatchState.loaded, .running, .rejected, .awaitSeal], Hears (s b) ∧ (s b).meter.batch = b) ∧ FromSource src ∧
    (s .loaded).run.run = none ∧ markedIndexes (s .loaded).plan (· == .due) = [] ∧ (s .loaded).pins.present = true ∧
    (31 : Byte).toNat ≤ 31 ∧ (1 : Byte) ≠ 0 ∧ markGet (s .loaded).plan.marks 31 ≠ .due ∧
    slotGet (s .loaded).plan.active (31 : Byte).toNat = some acc ∧ Hears due ∧ due.meter.held = none ∧
    markGet due.plan.marks (31 : Byte).toNat = .due ∧ slotGet due.plan.staged (31 : Byte).toNat = some creep ∧
    Hears open_ ∧ open_.run.run = some (accRun .measuring) ∧ open_.meter.held = none ∧ open_.meter.batch = .running ∧
    creep.point = .creep 600 1 ∧ start.point = .start 600 2 ∧ register.point = .register 600 ∧ Hears away ∧
    away.pins.present = false ∧ away.meter.held = none ∧ away.meter.batch = .loaded ∧ away.xc.suspect = false ∧
    slotGet away.run.slots 31 = none ∧ away.line.queue.length ≤ 6 := by decide

theorem witness_LoadSettledDeclines :
    Hears r0 ∧ FromSource src ∧ r0.run.run = none ∧ markedIndexes r0.plan (· == .due) = [] ∧ r0.line.queue.length < 8 ∧
    r0.meter.batch = .idle ∧ 31 < (32 : Byte).toNat ∧ (31 : Byte).toNat ≤ 31 ∧
    (inBatch .sealed r0).meter.batch = .sealed ∧ (inBatch .claiming r0).meter.batch = .claiming ∧
    (inBatch .pressing r0).meter.batch = .pressing ∧ (inBatch .sealFault r0).meter.batch = .sealFault ∧
    (inBatch .loaded r0).meter.batch ≠ .idle ∧ slotGet (inBatch .loaded r0).plan.active 31 = none := by decide

theorem witness_LoadAnnouncementsMovePlan :
    Hears r0 ∧ FromSource src ∧ markGet (mark 31 .due r0).plan.marks 31 = .due ∧
    markGet (mark 0 .waiting r0).plan.marks 0 = .waiting ∧ markGet r0.plan.marks 0 ≠ .due := by decide

/-- Index 31; a range of one index and the whole plan, with a defined and an empty entry in it. -/
theorem witness_PlanCommandsMark :
    let s := staged 31 creep (staged 2 acc r0)
    (Hears r0 ∧ FromConsole con ∧ ToThis con r0 ∧ ToGroup grp ∧ (31 : Byte).toNat ≤ 31) ∧
    (readPointPart [1, 2, 88, 1] = some (.creep 600 1) ∧
      readLimits (writeLimits ⟨0, 0, 0, true⟩) = some ⟨0, 0, 0, true⟩ ∧
      (clampLimits ⟨0, 0, 0, true⟩).lower ≤ (clampLimits ⟨0, 0, 0, true⟩).upper) ∧
    ((0 : Byte).toNat ≤ (31 : Byte).toNat ∧ slotGet s.plan.staged (31 : Byte).toNat = some creep ∧
      slotGet s.plan.staged 2 ≠ none ∧ slotGet s.plan.staged 1 = none ∧
      slotGet (active 2 acc s).plan.active 2 ≠ none) := by decide

/-- R44, R45: PLAN-CLEAR of 1 to 30 empties the defined entry 2 and marks it, and leaves the empty ones and index 31. -/
theorem test_planClear_range :
    let s := staged 31 creep (staged 2 acc { r0 with plan := { r0.plan with loadOff := false } })
    let t := after (.planClear con [1, 30]) s
    slotGet t.plan.staged 2 = none ∧ markGet t.plan.marks 2 = .due ∧ markGet t.plan.marks 3 = .clean ∧
    slotGet t.plan.staged 31 = some creep := by decide

theorem witness_HoldAndRelease :
    Hears r0 ∧ FromConsole con ∧ ToThis con r0 ∧ ToGroup grp ∧ r0.plan.hold = false ∧
    { r0.plan with hold := true }.hold = true ∧ markGet (mark 31 .held r0).plan.marks 31 = .held := by decide

/-- An empty roster and one with a peer. -/
theorem witness_SyncLatches :
    let alone := latched 6 100 r0
    let s := knows (runner 2) alone
    Hears r0 ∧ FromSource src ∧ r0.xc.latest = none ∧ s.xc.latest = some ⟨6, 100⟩ ∧ s.roster.entries ≠ [] ∧ RosterKeys s ∧
    RosterKeys alone ∧ alone.roster.entries = [] ∧ s.line.queue.length < 8 ∧ s.xc.collection = none ∧
    (collecting 6 [⟨1, 5⟩] s).xc.collection = some ⟨6, false, [⟨1, 5⟩]⟩ ∧
    BitVec.ofNat 16 ((0 : Byte).toNat * 256 + (7 : Byte).toNat) = (6#16 : BitVec 16) + 1 ∧ (8#16) ≠ 6 ∧ (8#16) ≠ 6 + 1 := by
  decide

/-- Two and three tallies; an own tally 8 counts from the median, and 9; a streak of 1 and of 2 after a raising. -/
theorem witness_JudgmentMovesSuspicion :
    let s (ts : List StationTally) := latched 7 100 (collecting 7 ts r0)
    let near : Collection := ⟨7, false, [⟨1, 100⟩, ⟨2, 108⟩, ⟨3, 108⟩]⟩
    let far : Collection := ⟨7, false, [⟨1, 100⟩, ⟨2, 109⟩, ⟨3, 109⟩]⟩
    let raised (n : Nat) : CrossCheck := { r0.xc with suspect := true, streak := n }
    Hears (s far.tallies) ∧ FromSource src ∧ (s far.tallies).xc.latest = some ⟨7, 100⟩ ∧
    (s far.tallies).xc.collection = some far ∧ (s near.tallies).xc.collection = some near ∧
    BitVec.ofNat 16 ((0 : Byte).toNat * 256 + (8 : Byte).toNat) ≠ (7#16 : BitVec 16) ∧ far.judged = false ∧
    tallyOf 1 far = some 100 ∧ tallyOf 1 near = some 100 ∧ 3 ≤ (far.tallies.map StationTally.tally).length ∧
    ¬ 3 ≤ ((far.tallies.drop 1).map StationTally.tally).length ∧ IsMedian 109 [100, 109, 109] ∧ IsMedian 108 [100, 108, 108] ∧
    IsMedian 5 [9, 1, 5, 7] ∧ max 8 (109 * r0.cmd.setup.tolPpm / 1000000) < max 100 109 - min 100 109 ∧
    max 100 108 - min 100 108 ≤ max 8 (108 * r0.cmd.setup.tolPpm / 1000000) ∧ r0.xc.streak ≤ 3 ∧
    r0.xc.suspect = false ∧ (raised 2).suspect = true ∧ (raised 2).streak = 2 ∧ (raised 1).streak < 2 := by decide

/-- A peer still to be heard, and the last one. -/
theorem witness_TallyEntersCollection :
    let c : Collection := ⟨7, false, [⟨1, 100⟩]⟩
    let c3 : Collection := ⟨7, false, [⟨1, 100⟩, ⟨3, 100⟩]⟩
    let s := knows (runner 2) (knows (runner 3) (collecting 7 c.tallies r0))
    let t := knows (runner 2) (knows (runner 3) (collecting 7 c3.tallies r0))
    Hears s ∧ FromPeer (peer 60) s ∧ FromPeer (peer 2) s ∧ readTally [0, 7, 0, 0, 0, 0, 0, 109] = some (7, 109) ∧
    s.xc.collection = some c ∧ c.judged = false ∧ c.window = 7 ∧ r0.xc.collection = none ∧
    (∃ e ∈ s.roster.entries, e.station ≠ (peer 2).sender.toNat ∧ tallyOf e.station c = none) ∧ Hears t ∧
    t.xc.collection = some c3 ∧
    (∀ e ∈ t.roster.entries, e.station ≠ (peer 2).sender.toNat → tallyOf e.station c3 ≠ none) ∧
    tallyOf t.line.own c3 = some 100 := by decide

theorem witness_JoinRenewsPeer :
    let s := onLine (claims [cl 2 1 k1] (knows (runner 2) r0))
    Hears s ∧ FromPeer (peer 2) s ∧ FromPeer (peer 60) s ∧ RosterKeys s ∧ readJoin [0, 1] = some (.power, .loaded) ∧
    readJoin [3, 8] = some (.lineReturn, .sealFault) ∧ s.run.run = none ∧ s.meter.batch ≠ .claiming ∧
    s.line.state = .onLine ∧ s.line.queue.length < 8 ∧ (∀ f ∈ s.line.queue, f.msg.kind ≠ .status) ∧
    r0.line.state ≠ .onLine := by decide

/-- For the same statement: a sent own claim behind the peer's, inside the first K once that is gone, and behind K others. -/
theorem witness_JoinRenewsPeer_claiming :
    let s (cs : List Claim) := claims (cs ++ [cl 1 4 k1]) (claiming ⟨4, k1, true⟩ (knows (runner 2) r0))
    let left (cs : List Claim) := (s cs).sealUnit.pressList.filter fun c => c.station != (peer 2).sender.toNat
    (Hears (s [cl 2 1 k2]) ∧ FromPeer (peer 2) (s [cl 2 1 k2]) ∧ RosterKeys (s [cl 2 1 k2]) ∧
      (s [cl 2 1 k2]).run.run = none ∧ (s [cl 2 1 k2]).meter.batch = .claiming ∧ (s [cl 2 1 k2]).line.queue.length < 8) ∧
    (left [cl 2 1 k2] ≠ (s [cl 2 1 k2]).sealUnit.pressList ∧ left [] = (s []).sealUnit.pressList ∧
      (s []).sealUnit.current = some ⟨4, k1, true⟩ ∧ JoinCause.power ≠ .lineReturn) ∧
    ((left [cl 2 1 k2, cl 3 1 k2]).findIdx? fun x => x.station == 1) = some 1 ∧ 1 < r0.cmd.setup.pressBudget ∧
    ((left [cl 2 1 k2, cl 3 1 k2, cl 4 1 k2]).findIdx? fun x => x.station == 1) = some 2 ∧ r0.cmd.setup.pressBudget ≤ 2 := by
  decide

/-- R134, R136: the JOIN of the peer ahead, after a reset, lets the own claim begin its stroke. -/
theorem test_join_grants :
    let t := after (.joinReceived (peer 2) [0, 1] false) (claims [cl 2 1 k2, cl 3 1 k2, cl 1 4 k1] (claiming ⟨4, k1, true⟩ r0))
    t.meter.batch = .pressing ∧ t.sealUnit.pressDrive = true ∧ t.sealUnit.pressList = [cl 3 1 k2, cl 1 4 k1] := by decide

/-- Index 31 in range, 32 and run number 0 out of it. -/
theorem witness_PeerFramesUpdateRoster :
    (Hears r0 ∧ FromPeer (peer 2) r0 ∧ RosterKeys r0 ∧ r0.run.run = none) ∧
    (∀ p ∈ [(31 : Byte), 32], readStatus [2, p, 1, 2, 0, 0] = some (.running, some (p.toNat, 1, .settled))) ∧
    (readProgress [31, 1, 3, 7] = some (31, 1, .withdrawn, .sealed) ∧
      readProgress [31, 0, 3, 7] = some (31, 0, .withdrawn, .sealed)) ∧
    readPointResult [31, 1, 0, 0, 0, 0, 0, 0, 0, 0, 2] = some (31, 1) ∧
    readPointResult [32, 1, 0, 0, 0, 0, 0, 0, 0, 0, 2] = some (32, 1) := ⟨by decide, by decide, by decide⟩

/-- For the same statement: payloads one byte short, and codes one above the end of their tables. -/
theorem witness_PeerFramesUpdateRoster_unfit :
    readStatus [2, 255, 9, 9, 0, 0] = some (.running, none) ∧ ([2, 255, 9, 9, 0] : List Byte).length ≠ 6 ∧ 8 < (9 : Byte).toNat ∧ (31 : Byte).toNat ≠ 255 ∧ 3 < (4 : Byte).toNat ∧
    ([31, 0, 3] : List Byte).length ≠ 4 ∧ 6 < (7 : Byte).toNat ∧ (List.replicate 16 (7 : Byte)).length ≤ 16 ∧
    2 < (3 : Byte).toNat ∧ ([] : List Byte).length = 0 := by decide

theorem witness_LampsShowState :
    let muted := lineIs .muted r0
    let away := withRun (accRun .measuring) { r0 with fe := { r0.fe with absent := true } }
    (held .powerOn r0).phase = .powerOn ∧ (held .pin r0).phase = .pin ∧ r0.phase = .running ∧
    (held .command r0).phase = .command ∧ muted.line.state = .muted ∧
    validNumber 0 = false ∧ validNumber 61 = false ∧ validNumber 60 = true ∧ validNumber r0.line.own = true ∧
    r0.line.state ≠ .muted ∧ away.fe.absent = true ∧ away.run.run.isSome = true ∧ r0.fe.absent = false ∧
    (∀ b ∈ [BatchState.idle, .loaded, .running, .rejected, .awaitSeal, .claiming, .pressing, .sealed, .sealFault],
      (inBatch b r0).meter.batch = b) := by decide

/-- A settled run with one peer that is still pending. -/
def awaitsPeer : State := knows (runner 2) (withRun (accRun .settled) r0)

/-- Each command of the statement, over a settled run with one peer that is still pending. -/
theorem witness_CompletionClosesRun :
    let old := at' 400000000 awaitsPeer
    (awaitsPeer.phase = .running ∧ Hears awaitsPeer ∧ FromPeer (peer 2) awaitsPeer ∧
      awaitsPeer.run.run = some (accRun .settled) ∧ (accRun .settled).p < 32 ∧ 7 ≤ 31 ∧ 3 ≠ 0) ∧
    (readProgress [7, 3, 2, 2] = some (7, 3, .settled, .running) ∧
      readStatus [2, 7, 3, 2, 0, 0] = some (.running, some (7, 3, .settled)) ∧
      readStatus [3, 255, 0, 0, 0, 0] = some (.rejected, none)) ∧
    (readPointResult [7, 3, 0, 0, 0, 0, 0, 0, 0, 0, 2] = some (7, 3) ∧ readJoin [0, 0] = some (.power, .idle)) ∧
    old.roster.agingTimer = old.fe.now ∧ (∃ e ∈ old.roster.entries, e.next = false) ∧ old.xc.collection = none :=
  ⟨by decide, by decide, by decide⟩

/-- For the same statement: a report that leaves the peer pending, one that does not, its removal; a run not settled. -/
theorem witness_CompletionClosesRun_outcomes :
    (accRun .settled).state = .settled ∧ (accRun .measuring).state ≠ .settled ∧ (accRun .measuring).state ≠ .decided ∧
    PeerPending 7 3 (after (.progressReceived (peer 2) [7, 3, 1, 2]) awaitsPeer) ∧
    ¬ PeerPending 7 3 (after (.progressReceived (peer 2) [7, 3, 2, 2]) awaitsPeer) ∧
    ¬ PeerPending 7 3 (after (.agingExpiry false) (at' 400000000 awaitsPeer)) := by decide

theorem witness_AgingRemovesSilentPeers :
    let s := at' 400000000 (knows (runner 2) (withRun (accRun .measuring) r0))
    let quiet := at' 400000000 r0
    s.phase = .running ∧ s.roster.agingTimer = s.fe.now ∧ r0.roster.agingTimer ≠ r0.fe.now ∧
    quiet.roster.agingTimer = quiet.fe.now ∧ (∀ e ∈ quiet.roster.entries, e.next = true) ∧
    quiet.meter.batch ≠ .claiming ∧ quiet.run.run = none ∧ quiet.xc.collection = none ∧
    s.run.run = some (accRun .measuring) ∧ runner 2 ∈ s.roster.entries ∧
    (runner 2).next = false ∧ (runner 2).batch = some .running ∧ (runner 2).progress = none := by decide

/-- For the same statement: a peer lost to a claiming station, and to a collection that then holds a tally of every peer
left, with another one missing and without. -/
theorem witness_AgingRemovesSilentPeers_claims :
    let s := at' 400000000 (claims [cl 2 1 k2, cl 1 4 k1] (claiming ⟨4, k1, true⟩ (knows (runner 2) r0)))
    let heard : RosterEntry := { runner 3 with next := true }
    let c (ts : List StationTally) := at' 400000000 (collecting 6 ts (knows heard (knows (runner 2) r0)))
    let gone (s : State) := (s.roster.entries.filter fun e => !e.next).map RosterEntry.station
    let left := s.sealUnit.pressList.filter fun x => !(gone s).contains x.station
    (s.roster.agingTimer = s.fe.now ∧ s.meter.batch = .claiming ∧ s.run.run = none ∧ left ≠ s.sealUnit.pressList ∧
      s.sealUnit.current = some ⟨4, k1, true⟩ ∧ (left.findIdx? fun x => x.station == s.line.own) = some 0) ∧
    ((c [⟨1, 5⟩, ⟨3, 5⟩]).xc.collection = some ⟨6, false, [⟨1, 5⟩, ⟨3, 5⟩]⟩ ∧ gone (c [⟨1, 5⟩]) ≠ [] ∧
      tallyOf 1 ⟨6, false, [⟨1, 5⟩, ⟨3, 5⟩]⟩ = some 5 ∧ (c []).run.run = none ∧
      (c []).roster.agingTimer = (c []).fe.now) ∧
    ((∃ e ∈ (c [⟨1, 5⟩]).roster.entries, e.next = true ∧ tallyOf e.station ⟨6, false, [⟨1, 5⟩]⟩ = none) ∧
      ∀ e ∈ (c []).roster.entries, e.next = true → tallyOf e.station ⟨6, false, [⟨1, 5⟩, ⟨3, 5⟩]⟩ ≠ none) := by decide

/-- Seal numbers of 0, 1, 14 and 15 characters; no claim of the sender, and one of the same number; the own claim behind
one of its number, at the last place inside the first K, and at the first behind them. -/
theorem witness_ClaimEntersPressList :
    let s := claims [cl 2 1 k2] r0
    let own (cs : List Claim) := claims (cs ++ [cl 1 4 k1]) (claiming ⟨4, k1, true⟩ r0)
    let new (k : Nat) (t : Text) (cs : List Claim) : List Claim := cs.map fun c => if c.station = k ∧ c.number = 1 then ⟨k, 1, t⟩ else c
    (Hears s ∧ FromPeer (peer 2) s ∧ s.meter.batch ≠ .claiming ∧ (List.replicate 15 (65 : Byte)).length ≤ 15 ∧
    ¬ (List.replicate 15 (65 : Byte)).length ≤ 14 ∧ ¬ 1 ≤ ([] : Text).length ∧ (1 : Byte) ≠ 0 ∧
    (∀ c ∈ List.replicate 14 (126 : Byte), 32 ≤ c.toNat ∧ c.toNat ≤ 126) ∧
    (s.sealUnit.pressList.any fun c => c.station == 2 && c.number == (2 : Byte).toNat) = false ∧
    (s.sealUnit.pressList.any fun c => c.station == 2 && c.number == (1 : Byte).toNat) = true) ∧
    (Hears (own [cl 2 1 k2]) ∧ (own []).meter.batch = .claiming ∧ (own []).sealUnit.current = some ⟨4, k1, true⟩ ∧
    ((new 2 k1 [cl 2 1 k2, cl 1 4 k1]).findIdx? fun x => x.station == 1) = some 1 ∧
    (∃ x ∈ (new 2 k1 [cl 2 1 k2, cl 1 4 k1]).take 1, x.sealNo = k1) ∧ (own []).line.queue.length ≤ 6 ∧
    (∀ x ∈ (new 2 k2 [cl 2 1 k2, cl 1 4 k1]).take 1, x.sealNo ≠ k1) ∧ 1 < (own []).cmd.setup.pressBudget ∧
    ((new 2 k2 [cl 3 1 k2, cl 2 1 k2, cl 1 4 k1]).findIdx? fun x => x.station == 1) = some 2 ∧
    (own []).cmd.setup.pressBudget ≤ 2) := by decide

/-- The own claim comes to the last place inside the first K, and to the first one behind them. -/
theorem witness_ReleaseMayGrant :
    let s := claims [cl 2 1 k2, cl 3 1 k2, cl 1 4 k1] (claiming ⟨4, k1, true⟩ r0)
    let t := claims [cl 2 1 k2, cl 3 1 k2, cl 4 1 k2, cl 1 4 k1] (claiming ⟨4, k1, true⟩ r0)
    Hears s ∧ FromPeer (peer 3) s ∧ (∀ c ∈ s.sealUnit.pressList, c.station = 3 → c.number ≠ (2 : Byte).toNat) ∧
    (∃ c ∈ s.sealUnit.pressList, c.station = 3 ∧ c.number = (1 : Byte).toNat) ∧
    (inBatch .loaded s).meter.batch ≠ .claiming ∧ s.meter.batch = .claiming ∧
    s.sealUnit.current = some ⟨4, k1, true⟩ ∧
    ((s.sealUnit.pressList.filter fun c => c.station != 3).findIdx? fun x => x.station == s.line.own) = some 1 ∧
    1 < s.cmd.setup.pressBudget ∧ Hears t ∧ t.meter.batch = .claiming ∧
    ((t.sealUnit.pressList.filter fun c => c.station != 3).findIdx? fun x => x.station == t.line.own) = some 2 ∧
    t.cmd.setup.pressBudget ≤ 2 := by decide

theorem witness_SealedEntersLog :
    let s := claiming ⟨4, k1, true⟩ r0
    Hears s ∧ FromPeer (peer 2) s ∧ k1.length ≤ 16 ∧ (List.replicate 16 (65 : Byte)).length ≤ 16 ∧ 1 ≤ k1.length ∧
    k1.length ≤ 14 ∧ (∀ c ∈ k1, 32 ≤ c.toNat ∧ c.toNat ≤ 126) ∧ ¬ 1 ≤ ([] : Text).length ∧ r0.sealUnit.current = none ∧
    s.sealUnit.current = some ⟨4, k1, true⟩ ∧ s.meter.batch = .claiming ∧
    (pressing ⟨4, k1, true⟩ r0).sealUnit.current = some ⟨4, k1, true⟩ ∧
    (pressing ⟨4, k1, true⟩ r0).meter.batch = .pressing ∧ Hears (pressing ⟨4, k1, true⟩ r0) := by decide

theorem witness_StrokeCompletes :
    let s := pressing ⟨4, k1, true⟩ r0
    s.phase = .running ∧ s.meter.batch = .pressing ∧ s.sealUnit.current = some ⟨4, k1, true⟩ ∧
    s.meter.clock = some ⟨214, 77⟩ ∧ s.line.queue.length ≤ 6 ∧ r0.meter.batch ≠ .pressing := by decide

theorem witness_StrokeTimeoutFails :
    let s := at' 300000000 (pressing ⟨4, k1, true⟩ r0)
    s.phase = .running ∧ s.meter.batch = .pressing ∧ s.sealUnit.strokeTimer = some s.fe.now ∧
    s.sealUnit.current = some ⟨4, k1, true⟩ ∧ r0.meter.batch ≠ .pressing ∧
    (at' 299999999 s).sealUnit.strokeTimer ≠ some (at' 299999999 s).fe.now := by decide

/-- Thirteen and fourteen characters held; the codes 10, 13, 31, 32, 126 and 127; a low stop bit; a NOTICE queued, under
attempt, and none. -/
theorem witness_SealCharactersGather :
    let s := sealLine (List.replicate 13 65) false r0
    let held14 := sealLine (List.replicate 14 65) false r0
    let code (c : Byte) : Byte := (serialLevels c).extractLsb' 1 8
    let timed (s : State) : State := { s with sealRx := ⟨k1, false, some s.fe.now, true⟩ }
    (s.phase = .running ∧ s.sealRx.ready = true ∧ r0.sealRx.ready = false ∧ s.sealRx.buffer.length < 14 ∧
    14 ≤ held14.sealRx.buffer.length ∧ r0.sealRx.buffer = [] ∧ r0.sealRx.bad = false ∧ (sealLine [] true r0).sealRx.bad = true ∧
    s.sealRx.buffer ≠ [] ∧ r0.meter.batch ≠ .claiming) ∧
    (∀ c ∈ [(10 : Byte), 13, 31, 32, 126, 127], code c = c ∧ (serialLevels c).getLsbD 0 = false) ∧
    (serialLevels 65 ||| 1).getLsbD 0 = true ∧ 32 ≤ (code 32).toNat ∧ (code 126).toNat ≤ 126 ∧
    ¬ 32 ≤ (code 31).toNat ∧ ¬ (code 127).toNat ≤ 126 ∧
    ((timed r0).sealRx.timer = some (timed r0).fe.now ∧ (timed r0).sealRx.buffer ≠ [] ∧
    hasNotice (timed r0).cmd.notices .sealReadBad = false ∧ hasNotice (timed r0).cmd.mask .sealReadBad = true ∧
    (timed r0).line.queue.length < 8 ∧ (∀ f ∈ (timed r0).line.queue, f.msg.kind ≠ .notice) ∧
    (∃ f ∈ (timed (queued [.notice 1] r0)).line.queue, f.msg.kind = .notice ∧ f.sending = false) ∧
    (∃ f ∈ (timed (sending (.notice 1) 0 r0)).line.queue, f.msg.kind = .notice ∧ f.sending = true) ∧
    hasNotice (32#10) .sealReadBad = true ∧ r0.sealRx.timer ≠ some r0.fe.now) := by decide

/-- Seven and eight frames queued; a CLAIM over a full queue with a less urgent frame, and without one. -/
theorem witness_SealNumberIsTaken :
    let s (b : BatchState) := inBatch b (sealLine k1 false r0)
    let full := queued (List.replicate 7 (.tally 1 2) ++ [.status none]) (s .awaitSeal)
    let urgent := queued (List.replicate 8 (.release 1 .done)) (s .awaitSeal)
    (∀ b ∈ [BatchState.claiming, .pressing, .awaitSeal, .loaded], (s b).phase = .running ∧ (s b).meter.batch = b ∧
      (s b).sealRx.ready = true ∧ (s b).sealRx.buffer ≠ [] ∧ (s b).sealRx.bad = false ∧ (s b).line.queue.length < 8) ∧
    SealTaken k1 { r0 with sealUnit := SealUnit.reset [k1] } ∧ SealTaken k1 (claims [cl 2 1 k1] r0) ∧
    ¬ SealTaken k1 (claims [cl 1 1 k1] r0) ∧ ¬ SealTaken k1 full ∧ 8 ≤ full.line.queue.length ∧
    full.line.queue[7]? = some ⟨.status none, 0, 0, false⟩ ∧ 0 < (TxMsg.status none).cls ∧
    (∀ x ∈ full.line.queue.zipIdx, x.1.msg.cls ≤ 3 ∧ (x.1.msg.cls = 3 → x.2 ≤ 7)) ∧ (TxMsg.status none).cls = 3 ∧
    8 ≤ urgent.line.queue.length ∧ (∀ f ∈ urgent.line.queue, f.sending = true ∨ f.msg.cls = 0) := by decide

theorem witness_AttemptTakesHead :
    let s := onLine (queued [.status none, .claim 1 k1] r0)
    s.phase = .running ∧ s.line.state = .onLine ∧ s.line.idle = true ∧ s.line.awaitingIdle = false ∧
    (∀ f ∈ s.line.queue, f.sending = false) ∧ s.line.queue ≠ [] ∧ r0.line.state ≠ .onLine ∧
    (after .transmissionAttempt s).line.idle = false ∧ (∃ f ∈ (sending (.status none) 0 r0).line.queue, f.sending = true) := by
  decide

/-- No other claim ahead with K = 1, and one, of another seal number and of the same; the last DETAIL part, the one before
it, and a superseded one. -/
theorem witness_AttemptSucceeds :
    let one (s : State) : State := { s with cmd := { s.cmd with setup := { s.cmd.setup with pressBudget := 1 } } }
    let c := claiming ⟨4, k1, false⟩ (sending (.claim 4 k1) 0 (one r0))
    let r := sending (.release 4 .done) 0 { r0 with sealUnit := { r0.sealUnit with owed := some ⟨4, .done⟩ } }
    let d (n : Nat) (sup : Bool) := sending (.detail 3 5 [] true) 0 { r0 with
      cmd := { r0.cmd with series := some ⟨.meter, n, 5, sup⟩ } }
    (c.phase = .running ∧ c.line.queue.find? TxFrame.sending = some ⟨.claim 4 k1, 0, 0, true⟩ ∧
    c.line.waitingStatus = false ∧ c.line.waitingNotice = none ∧ c.sealUnit.owed = none ∧ c.meter.batch = .claiming ∧
    c.sealUnit.current = some ⟨4, k1, false⟩ ∧ (∀ x ∈ [cl 2 1 k2], x.sealNo ≠ k1) ∧ (∃ x ∈ [cl 2 1 k1], x.sealNo = k1) ∧
    (c.sealUnit.pressList.filter fun x => x.station != c.line.own).length < c.cmd.setup.pressBudget ∧
    c.cmd.setup.pressBudget ≤
      ((claims [cl 2 1 k2] c).sealUnit.pressList.filter fun x => x.station != c.line.own).length) ∧
    (r.line.queue.find? TxFrame.sending = some ⟨.release 4 .done, 0, 0, true⟩ ∧ r.sealUnit.owed = some ⟨4, .done⟩ ∧
    (sending (.tally 1 2) 0 r0).line.queue.find? TxFrame.sending = some ⟨.tally 1 2, 0, 0, true⟩ ∧
    (inBatch .sealed c).meter.batch ≠ .claiming) ∧
    ((d 5 false).line.queue.find? TxFrame.sending = some ⟨.detail 3 5 [] true, 0, 0, true⟩ ∧
    (d 5 false).sealUnit.owed = none ∧ (d 5 false).cmd.series = some ⟨.meter, 5, 5, false⟩ ∧ 5 ≤ 5 ∧ 4 < 5 ∧
    (d 4 true).cmd.series = some ⟨.meter, 4, 5, true⟩ ∧ (d 4 false).cmd.series = some ⟨.meter, 4, 5, false⟩ ∧
    ((d 4 false).line.queue.filter fun g => !g.sending).length < 8 ∧
    slotGet (record plainRecord r0).meter.records 7 = some plainRecord) := by decide

/-- A TALLY or STATUS under attempt with n TALLY frames queued, and a STATUS, a NOTICE or none waiting. -/
def waiting (m : TxMsg) (attempts n : Nat) (st : Bool) (set : Option (BitVec 10)) : State :=
  let s := sending m attempts r0
  { s with line := { s.line with
    queue := s.line.queue ++ List.replicate n ⟨.tally 1 2, 0, 0, false⟩, waitingStatus := st, waitingNotice := set } }
/-- The owed release of claim 4. -/
def owing (s : State) : State := { s with sealUnit := { s.sealUnit with owed := some ⟨4, .done⟩ } }

/-- For the same statement: room for the waiting frame and the owed RELEASE, the last and one fewer; a RELEASE that is
queued still, and one of another number under attempt; a CLAIM of no current claim. -/
theorem witness_AttemptSucceeds_waiting :
    let s := owing (waiting (.tally 1 2) 0 6 true none)
    let rest (s : State) := s.line.queue.filter fun g => !g.sending
    (s.line.queue.find? TxFrame.sending = some ⟨.tally 1 2, 0, 0, true⟩ ∧ s.line.waitingStatus = true ∧
      (∀ g ∈ rest s, g.msg.kind ≠ .status) ∧ (rest s).length + 1 < 8 ∧
      (rest (waiting (.tally 1 2) 0 7 true none)).length + 1 ≤ 8) ∧
    ((waiting (.tally 1 2) 0 6 true (some 5)).line.waitingNotice ≠ none ∧
      (rest (waiting (.tally 1 2) 0 6 true (some 5))).length + 2 ≤ 8 ∧
      ∀ g ∈ rest (waiting (.tally 1 2) 0 6 true (some 5)), g.msg.kind ≠ .notice) ∧
    (s.sealUnit.owed = some ⟨4, .done⟩ ∧ (4 : Nat) ≠ 5 ∧ r0.meter.batch ≠ .claiming) := by decide

/-- R138, R161: at a success the waiting STATUS enters as a new frame, and the owed RELEASE after it. -/
theorem test_success_waiting_and_owed :
    (after (.attemptSuccess false) (owing (waiting (.tally 1 2) 2 0 true none))).line.queue =
      [⟨.status none, 0, 0, false⟩, ⟨.release 4 .done, 0, 0, false⟩] := by decide

/-- The third and the fourth attempt; fault tallies 30 and 31; the current CLAIM, and a NOTICE with another waiting. -/
theorem witness_AttemptFails :
    let s (n tally : Nat) : State :=
      let t := sending (.tally 1 2) n r0
      { t with line := { t.line with faultTally := tally } }
    let c := claiming ⟨4, k1, false⟩ (sending (.claim 4 k1) 3 r0)
    let n0 := sending (.notice 2) 3 { r0 with cmd := { r0.cmd with notices := 10 } }
    let n := { n0 with line := { n0.line with waitingNotice := some 10 } }
    ((s 2 30).phase = .running ∧ (s 2 30).line.queue.find? TxFrame.sending = some ⟨.tally 1 2, 0, 2, true⟩ ∧
    (s 2 30).line.waitingStatus = false ∧ (s 2 30).line.waitingNotice = none ∧ (s 2 30).line.faultTally < 31 ∧
    (s 3 30).line.queue.find? TxFrame.sending = some ⟨.tally 1 2, 0, 3, true⟩ ∧ (s 3 30).meter.batch ≠ .claiming ∧
    (s 3 31).line.state = .onLine ∧ (s 3 31).line.faultTally = 31 ∧ (∀ f ∈ r0.line.queue, f.sending = false)) ∧
    (c.meter.batch = .claiming ∧ c.sealUnit.current = some ⟨4, k1, false⟩ ∧
    c.line.queue.find? TxFrame.sending = some ⟨.claim 4 k1, 0, 3, true⟩) ∧
    (n.line.queue.find? TxFrame.sending = some ⟨.notice 2, 0, 3, true⟩ ∧ n.line.waitingNotice = some 10 ∧ QueueBound n ∧
    hasNotice n.cmd.notices .txDropped = false ∧ hasNotice n.cmd.mask .txDropped = true ∧ n.line.faultTally < 31) := by decide

/-- For the same statement: a STATUS and a NOTICE under attempt with another waiting, at the third attempt and the fourth,
six and seven frames behind. -/
theorem witness_AttemptFails_waiting :
    let s (n k : Nat) := waiting (.status none) n k true none
    let n := waiting (.notice 2) 2 0 false (some 5)
    let rest (s : State) := s.line.queue.filter fun g => !g.sending
    ((s 2 0).line.queue.find? TxFrame.sending = some ⟨.status none, 0, 2, true⟩ ∧ (s 2 0).line.waitingStatus = true ∧
      (s 2 0).line.waitingNotice = none ∧ (s 2 0).line.faultTally < 31) ∧
    ((s 3 7).line.queue.find? TxFrame.sending = some ⟨.status none, 0, 3, true⟩ ∧ (rest (s 3 7)).length ≤ 7 ∧
      (rest (s 3 6)).length ≤ 6 ∧ ∀ g ∈ rest (s 3 7), g.msg.kind ≠ .status) ∧
    (n.line.queue.find? TxFrame.sending = some ⟨.notice 2, 0, 2, true⟩ ∧ n.line.waitingNotice = some 5 ∧
      n.line.waitingStatus = false) := by decide

theorem witness_ArbitrationAndDiscards :
    let s := waiting (.status none) 2 1 true none
    let n := waiting (.notice 2) 2 1 false (some 5)
    (r0.phase = .running ∧ r0.line.waitingStatus = false ∧ r0.line.waitingNotice = none ∧
      validNumber r0.line.own = true) ∧
    (s.line.queue.find? TxFrame.sending = some ⟨.status none, 0, 2, true⟩ ∧ s.line.waitingStatus = true ∧
      s.line.waitingNotice = none) ∧
    (n.line.queue.find? TxFrame.sending = some ⟨.notice 2, 0, 2, true⟩ ∧ n.line.waitingNotice = some 5 ∧
      n.line.waitingStatus = false) := by decide

/-- A claim sent and one not; six kept frames. -/
theorem witness_LeavingOnLine :
    let s := onLine (queued [.tally 1 2, .sealed k1] r0)
    let c (sent : Bool) := onLine (claiming ⟨4, k1, sent⟩ (queued (List.replicate 6 (.sealed k1)) r0))
    s.phase = .running ∧ s.line.state = .onLine ∧ validNumber s.line.own = true ∧ s.line.awaitingIdle = false ∧
    s.line.state ≠ .muted ∧ (16 : BitVec 5).toNat ≤ 16 ∧
    (∃ f ∈ s.line.queue, f.msg.kind ≠ .pointResult ∧ f.msg.kind ≠ .sealed) ∧ s.meter.batch ≠ .claiming ∧
    (∀ b ∈ [true, false], (c b).line.state = .onLine ∧ (c b).meter.batch = .claiming ∧
      (c b).sealUnit.current = some ⟨4, k1, b⟩ ∧
      ((c b).line.queue.filter fun f => f.msg.kind == .pointResult || f.msg.kind == .sealed).length ≤ 6) := by decide

/-- Six frames queued, and eight. -/
theorem witness_LineReturns :
    let s := lineIs .lineOff (queued (List.replicate 6 (.sealed k1)) { r0 with
      sealUnit := { r0.sealUnit with owed := some ⟨4, .done⟩ } })
    let full := lineIs .lineOff (queued (List.replicate 8 (.sealed k1)) r0)
    s.phase = .running ∧ s.line.state = .lineOff ∧ s.line.queue.length ≤ 6 ∧
    (∀ f ∈ s.line.queue, f.msg.kind ≠ .release) ∧ r0.line.state ≠ .lineOff ∧ full.line.state = .lineOff ∧
    full.line.queue.length = 8 ∧ full.sealUnit.owed = none := by decide

/-- Sender 62, length 17, kind 0 and a wrong class; senders 1 and 60 of a source kind; frames of source and console with
the other's kind; the 63rd and the 64th good frame; straps 0; a line not idle. -/
theorem witness_FilterDiscards :
    let off (n : Nat) := { r0 with line := { r0.line with own := 5, goodFrames := n, state := .lineOff } }
    let s := off 62
    let bad := { r0 with line := { r0.line with own := 0 } }
    let waiting := { r0 with line := { r0.line with awaitingIdle := true } }
    (s.phase = .running ∧ validNumber s.line.own = true ∧ s.line.awaitingIdle = false ∧ s.line.goodFrames < 63 ∧
    s.line.state = .lineOff ∧ 63 ≤ (off 63).line.goodFrames ∧ (off 63).sealUnit.owed = none ∧
    waiting.line.awaitingIdle = true ∧ validNumber bad.line.own = false ∧ bad.line.awaitingIdle = false ∧
    bad.line.state ≠ .lineOff) ∧
    (62 ≤ (62 : BitVec 6).toNat ∧ 17 ≤ (17 : BitVec 5).toNat ∧ (16 : BitVec 5).toNat ≤ 16 ∧ FrameKind.ofNumber 0 = none ∧
    FrameKind.ofNumber 33 = some .status ∧ (2 : BitVec 2).toNat ≠ FrameKind.cls .status ∧
    FrameKind.ofNumber 4 = some .sync ∧ (0 : BitVec 2).toNat = FrameKind.cls .sync ∧ FrameKind.role .sync ≠ .position ∧
    FrameKind.role .sync ≠ .console ∧ FrameKind.role .setup ≠ .source ∧ (0 : BitVec 6).toNat = 0 ∧ (61 : BitVec 6).toNat = 61 ∧
    ([7] : List Byte).length ≠ 2 ∧ ([] : List Byte).length ≠ 1 ∧ ([7] : List Byte).length ≠ 0 ∧
    1 ≤ (1 : BitVec 6).toNat ∧ (60 : BitVec 6).toNat ≤ 60 ∧ (60 : BitVec 6).toNat ≠ s.line.own) := by decide

/-- R158: the 64th good frame finds the line returned: a JOIN is answered with a STATUS behind the own JOIN, a SYNC primes
after the return, and a discarded frame ends LINE-OFF too. -/
theorem test_last_good_frame :
    let s := lineIs .lineOff { r0 with line := { r0.line with goodFrames := 63 } }
    let join := after (.joinReceived (peer 2) [0, 1] false) s
    let sync := after (.sync src [0, 7]) (latched 6 100 s)
    join.line.queue.map TxFrame.msg = [.join .lineReturn none, .status none] ∧ join.line.state = .onLine ∧
    sync.xc.latest.map Latch.window = some 7 ∧ sync.xc.earlier = none ∧ sync.line.state = .onLine ∧
    (after (.frameFiltered ⟨0, 62, 0, 0, 0, []⟩) s).line.state = .onLine := by decide


/-- No STATUS queued, one, and one under attempt; seven frames queued and eight. -/
theorem witness_HeartbeatAndListen :
    let beating (s : State) : State := { s with line := { s.line with state := .onLine, heartbeat := some s.fe.now } }
    let listens (s : State) : State := { s with line := { s.line with state := .listening, listenTimer := some s.fe.now } }
    let n (k : Nat) := queued (List.replicate k (.tally 1 2)) r0
    ((beating r0).phase = .running ∧ (beating (n 7)).line.state = .onLine ∧
    (beating (n 7)).line.heartbeat = some (beating (n 7)).fe.now ∧ (beating (n 7)).line.queue.length < 8 ∧
    8 ≤ (beating (n 8)).line.queue.length ∧ (∀ f ∈ (beating (n 8)).line.queue, f.msg.kind ≠ .status) ∧
    hasNotice { r0.cmd with notices := 1 }.notices .txDropped = true ∧
    (∃ f ∈ (beating (queued [.status none] r0)).line.queue, f.msg.kind = .status ∧ f.sending = false) ∧
    (∃ f ∈ (beating (sending (.status none) 0 r0)).line.queue, f.msg.kind = .status ∧ f.sending = true) ∧
    r0.line.state ≠ .onLine ∧ (onLine r0).line.heartbeat ≠ some (onLine r0).fe.now) ∧
    ((listens (n 7)).line.state = .listening ∧ (listens (n 7)).line.listenTimer = some (listens (n 7)).fe.now ∧
    (listens (n 7)).line.queue.length < 8 ∧ (listens (n 8)).line.queue.length = 8 ∧ (onLine r0).line.state ≠ .listening ∧
    r0.line.listenTimer ≠ some r0.fe.now) := by decide

/-- The own number, both groups, and another number. -/
theorem witness_CommandsAnswered :
    Hears r0 ∧ FromConsole con ∧ ToThis con r0 ∧ FromConsole grp ∧ ToGroup grp ∧ ToGroup ⟨61, 63⟩ ∧
    ¬ ToThis ⟨61, 60⟩ r0 ∧ ¬ ToGroup ⟨61, 60⟩ ∧ (List.replicate 16 (0 : Byte)).length ≤ 16 ∧
    (setupCommand [] (acked r0)).2 ≠ .done ∧ (setupCommand [] (acked r0)).2 ≠ .doneClamped := by decide

/-- For the same statement: a short QUERY, a RESTART with a payload, and readings of every branch at its boundary. -/
theorem witness_CommandsAnswered_codes :
    let after_ : List Byte := [4, 1, 0, 0, 0, 3, 232]
    let before : List Byte := [31, 0, 232, 212, 165, 15, 255]
    (([] : List Byte).length ≠ 1 ∧ after_ ≠ [] ∧ 31 < (32 : Byte).toNat ∧ (31 : Byte).toNat ≤ 31 ∧
      ([0, 2] : List Byte).length ≠ 7 ∧ 1 < (2 : Byte).toNat) ∧
    (after_.length = 7 ∧ before.length = 7 ∧ beNat ((before.drop 2).take 5) = 10 ^ 12 - 1 ∧
      beNat [232, 212, 165, 16, 0] = 10 ^ 12 ∧ r0.meter.batch = .idle ∧ (inBatch .running r0).meter.batch ≠ .idle) ∧
    (slotGet r0.meter.records 4 = none ∧ slotGet (record pendingRecord r0).meter.records 4 = some pendingRecord ∧
      pendingRecord.verdict = .pending ∧ pendingRecord.body = .register (some 1000) none 10 none false none ∧
      slotGet (record plainRecord r0).meter.records 7 = some plainRecord ∧ plainRecord.verdict ≠ .pending) := by decide

/-- R41: +1,200,000 and +500,000 clamp to limits in the wrong order; an empty staged entry comes before that check. -/
theorem test_planLimits_codes :
    let bs : List Byte := 2 :: writeLimits ⟨1200000, 500000, 0, true⟩
    (planLimitsCommand bs (staged 2 acc r0)).2 = .badValue ∧ (planLimitsCommand bs r0).2 = .noSuchPoint := by decide

theorem witness_SetupReplacesValues :
    Hears r0 ∧ FromConsole con ∧ ToThis con r0 ∧ ToGroup grp ∧
    readSetup (writeSetup Setup.default) = some Setup.default ∧ r0.meter.batch = .idle ∧
    (inBatch .loaded r0).meter.batch ≠ .idle := by decide

/-- Identities of 1, 12 and 13 characters. -/
theorem witness_SetMeterLoads :
    Hears r0 ∧ FromConsole con ∧ ToThis con r0 ∧
    readSetMeter ([0, 0, 39, 16] ++ List.replicate 12 65) = some (10000, List.replicate 12 65) ∧
    ([0, 0, 39, 16] ++ List.replicate 12 (65 : Byte)).length ≤ 16 ∧ r0.meter.batch ≠ .claiming ∧ r0.meter.batch = .idle ∧
    (inBatch .loaded r0).meter.batch = .loaded ∧ (inBatch .sealed r0).meter.batch ≠ .idle ∧
    (inBatch .sealed r0).meter.batch ≠ .loaded ∧ readSetMeter [0, 0, 39, 16] = some (10000, []) ∧
    ¬ 1 ≤ ([] : Text).length ∧ (∀ x ∈ List.replicate 12 (126 : Byte), 32 ≤ x.toNat ∧ x.toNat ≤ 126) := by decide

/-- Readings of 0 and of the largest value; an AFTER at the BEFORE and one below it; the standings a resolution restates. -/
theorem witness_ReadingsTaken :
    let s := record pendingRecord (inBatch .running r0)
    let stands (x : Standing) (s : State) : State := { s with run := { s.run with standing := x } }
    (Hears s ∧ FromConsole con ∧ ToThis con s ∧ ToGroup grp ∧ ¬ ToThis grp s ∧ (31 : Byte).toNat ≤ 31 ∧
    ([0, 0, 0, 3, 232] : List Byte).length = 5 ∧ beNat [0, 0, 0, 3, 232] = 1000 ∧ beNat [232, 212, 165, 15, 255] < 10 ^ 12 ∧
    s.meter.batch ≠ .idle ∧ s.meter.batch ≠ .claiming ∧ s.run.run = none ∧
    (withRun (accRun .measuring) r0).run.run = some (accRun .measuring) ∧
    slotGet s.meter.records 4 = some pendingRecord ∧ pendingRecord.verdict = .pending ∧
    pendingRecord.body = .register (some 1000) none 10 none false none ∧ 1000 ≤ beNat [0, 0, 0, 3, 232] ∧
    beNat [0, 0, 0, 3, 231] < 1000 ∧ slotGet s.meter.records 5 = none ∧ s.meter.held = none ∧ s.meter.batch = .running ∧
    s.line.queue.length ≤ 6) ∧
    (registerResult 1000000000 1000 1000 10 = ⟨.clamped, some (-999999)⟩ ∧
    registerResult 1000000000 1000 1001 1000 = ⟨.valid, some 0⟩ ∧ registerResult 1000000000 1000 1001 0 = ⟨.noReference, none⟩ ∧
    s.run.standing = .none ∧ (stands (.withdrawn 3 2) s).run.standing = .withdrawn 3 2 ∧
    (withRun (accRun .measuring) s).run.standing = .opened 7 3 ∧ (stands (.closed 4 1) s).run.standing = .closed 4 1 ∧
    pendingRecord.p = 4 ∧ pendingRecord.r = 1 ∧ slotGet (record plainRecord s).meter.records 7 = some plainRecord ∧
    plainRecord.p = 7) := by decide

/-- No part queued, a part queued, and one under attempt. -/
theorem witness_QueryBeginsSeries :
    Hears r0 ∧ FromConsole con ∧ ToThis con r0 ∧ r0.line.queue.length < 8 ∧
    ((queued (List.replicate 7 (.tally 1 2) ++ [.detail 1 5 [] true]) r0).line.queue.filter
      fun f => f.msg.kind != .detail).length < 8 ∧
    (sending (.detail 1 5 [] true) 0 r0).line.queue.length < 8 ∧ (32 : Byte) ≠ 255 ∧
    slotGet r0.meter.records (32 : Byte).toNat = none ∧
    slotGet (record pendingRecord r0).meter.records (4 : Byte).toNat = some pendingRecord ∧
    slotGet (record plainRecord r0).meter.records (7 : Byte).toNat = some plainRecord ∧
    plainRecord.body = .accuracy [] ∧ (closeRecord .forced true 0 (windowRun creep 1)).body = .window 1 none := by decide

/-- A number held at RETRY_SEAL, with every seal-relevant record PASS and with none. -/
theorem witness_BatchEndsAndRetries :
    let fault := inBatch .sealFault { r0 with meter := { r0.meter with held := some k1 } }
    let passed := record { closeRecord .time true 0 settledRun with stale := false } (active 7 acc fault)
    Hears r0 ∧ FromConsole con ∧ ToThis con r0 ∧ ToGroup grp ∧ r0.meter.batch ≠ .pressing ∧
    (claiming ⟨4, k1, true⟩ r0).meter.batch = .claiming ∧
    (claiming ⟨4, k1, true⟩ r0).sealUnit.current = some ⟨4, k1, true⟩ ∧
    (withRun (accRun .measuring) r0).run.run = some (accRun .measuring) ∧ (accRun .measuring).kind = .accuracy ∧
    (inBatch .pressing r0).meter.batch = .pressing ∧ (inBatch .sealFault r0).meter.batch = .sealFault ∧
    (inBatch .sealFault r0).meter.held = none ∧ r0.meter.batch ≠ .sealFault ∧ r0.meter.batch ≠ .claiming ∧
    fault.meter.held = some k1 ∧ fault.line.queue.length ≤ 6 ∧ overallVerdict fault = none ∧
    overallVerdict passed = some .eligible ∧ (after (.retrySeal con []) passed).meter.batch = .claiming := by decide

/-- A held number in SEAL_FAULT, with the seal-relevant index 7. -/
def sealFaultHeld : State := active 7 acc (inBatch .sealFault { r0 with meter := { r0.meter with held := some k1 } })

/-- With a record of every seal-relevant index a verdict exists, and else none. -/
theorem verdictExists_of_record {s : State} (h : s.run.run = none)
    (k : (∃ p ∈ List.range 32, SealRelevant s p) ∧ ∀ p ∈ List.range 32, SealRelevant s p →
      ((slotGet s.meter.records p).any fun x => !x.stale && x.verdict != .pending) = true) : VerdictExists s :=
  let ⟨⟨p, hp, hs⟩, ha⟩ := k
  ⟨h, ⟨p, List.mem_range.1 hp, hs⟩, fun q hq => ha q (List.mem_range.2 hq)⟩

/-- A verdict exists and every record of it is PASS, at the RETRY_SEAL of the last theorem. -/
theorem witness_verdict_eligible :
    let passed := record (closeRecord .time true 0 settledRun) sealFaultHeld
    VerdictExists passed ∧ AllPass passed := ⟨verdictExists_of_record (by decide) (by decide), by decide⟩

/-- The same after a close. -/
theorem witness_verdict_after_close :
    let closed := after .pointTimerExpiry (active 7 acc (withRun { settledRun with pointTimer := 0 } r0))
    VerdictExists closed ∧ AllPass closed := ⟨verdictExists_of_record (by decide) (by decide), by decide⟩

/-- A verdict that a record not PASS makes, and none without a record. -/
theorem witness_verdict_rejected_and_none :
    let failed := record (closeRecord .time true 0 { settledRun with void := true }) sealFaultHeld
    (VerdictExists failed ∧ ¬ AllPass failed) ∧ ¬ VerdictExists sealFaultHeld :=
  ⟨⟨verdictExists_of_record (by decide) (by decide), by decide⟩,
    fun h => absurd (h.2.2 7 (by decide) (by decide)) (by decide)⟩

theorem witness_NoticeCommandsAndRestart :
    Hears r0 ∧ FromConsole con ∧ ToThis con r0 ∧ FromConsole grp ∧ ToGroup grp := by decide

theorem witness_FrameRoundTrip :
    let s := sending (.sealed (List.replicate 14 65)) 0 r0
    (lengthAgrees (31 : BitVec 5) (List.replicate 31 7) = true ∧ lengthAgrees (0 : BitVec 5) [] = true) ∧
    (s.phase = .running ∧ s.line.queue.find? TxFrame.sending = some ⟨.sealed (List.replicate 14 65), 0, 0, true⟩ ∧
      (TxMsg.sealed (List.replicate 14 65)).payload.length ≤ 16 ∧ s.line.own < 64) ∧
    (∀ f ∈ r0.line.queue, f.sending = false) ∧ (held .pin r0).phase ≠ .running := by decide

/-- R147: two bits of 200 ticks are sampled once each, though the second begins 10 ticks early, at a transition. -/
theorem test_sample_resynchronises :
    sample (List.replicate 190 true ++ List.replicate 200 false) = [true, false] := by decide +kernel

/-- The check of R148 over the nine characters 123456789 is 29B1H, the value commonly given for this generator with a
register from all ones and no inversion. -/
theorem test_crc_check_value :
    crc (([49, 50, 51, 52, 53, 54, 55, 56, 57] : List Nat).flatMap (bitsMsb 8)) = 0x29B1#16 := by decide +kernel

/-- The ends of every field. -/
theorem witness_PayloadRoundTrips :
    ((2 ^ 40 - 1 < 2 ^ 40 ∧ 255 < 256 ∧ 65535 < 65536) ∧ 2 ^ 32 - 1 < 2 ^ 32 ∧ -(2 : Int) ^ 23 ≤ -8388608 ∧
      (8388607 : Int) < 2 ^ 23 ∧ 16777215 < 2 ^ 24 ∧ 2 ^ 48 - 1 < 2 ^ 48 ∧ 15 < 16) ∧
    (plainRecord.p < 256 ∧ plainRecord.r < 256 ∧ plainRecord.completed < 65536 ∧ plainRecord.spread = none ∧
      plainRecord.body = .accuracy [] ∧ pendingRecord.body = .register (some 1000) none 10 none false none) ∧
    ((closeRecord .forced true 0 (windowRun creep 1)).body = .window 1 none ∧ r0.meter.constant = none ∧
      r0.meter.clock = none ∧ r0.meter.sealRecord = none) ∧
    ([KeptEntry.mk 1 .valid (some 3), ⟨2, .coarse, none⟩, ⟨3, .valid, none⟩] : List KeptEntry)[2 * 1]? =
      some ⟨3, .valid, none⟩ := by decide

/-- R151, R166: a PROGRESS, an error of -1 ppm and an absent one, and the header of an ACCURACY record, byte for byte. -/
theorem test_sent_payloads :
    (TxMsg.progress 3 9 .withdrawn .running).payload = [3, 9, 3, 2] ∧
    (TxMsg.measurement 3 9 258 .coarse (some (-1))).payload = [3, 9, 1, 2, 1, 255, 255, 255] ∧
    (TxMsg.measurement 3 9 258 .noReference none).payload = [3, 9, 1, 2, 4, 128, 0, 0] ∧
    (recordPart plainRecord 0).length = 15 := by decide

/-- `State.reset` meets what every step keeps, and a step from it answers a next state. -/
theorem witness_invariants :
    (QueueBound r0 ∧ SealLogBound r0 ∧ OneClaimEach r0 ∧ DriveOnlyPressing r0) ∧ (RosterKeys r0 ∧ MarkersWait r0) ∧
    (KeptBound r0 ∧ RunOnlyRunning r0) ∧ step r0 = .next (tick r0) :=
  ⟨by decide, by decide, ⟨fun _ h => (nomatch h), by decide⟩, rfl⟩

end Sys2Proof.Tests
end

section
/-! SUPPORT. Every operation keeps markers, kept results and the batch state of an open run sound (R14, R60, R93). -/

namespace Sys2Proof.Machine

/-- What O60 says of a step, as a relation of two states, so that the operations of a step compose. -/
structure StaysSound (s t : State) : Prop where
  markers : MarkersWait s → MarkersWait t
  kept : KeptBound s → KeptBound t
  running : RunOnlyRunning s → RunOnlyRunning t

/-- What the three invariants of O60 read of a state. -/
def soundView (s : State) : List Marker × Option Run × BatchState := (s.trk.queue, s.run.run, s.meter.batch)

namespace StaysSound

theorem refl (s : State) : StaysSound s s := ⟨id, id, id⟩

theorem trans {s t u : State} (h : StaysSound s t) (k : StaysSound t u) : StaysSound s u :=
  ⟨k.markers ∘ h.markers, k.kept ∘ h.kept, k.running ∘ h.running⟩

/-- An operation that leaves the marker queue and the open run, and RUNNING while a run is open. -/
theorem of_run {s t : State} (hq : t.trk.queue = s.trk.queue) (hr : t.run.run = s.run.run)
    (hb : s.meter.batch = .running → s.run.run.isSome = true → t.meter.batch = .running) : StaysSound s t where
  markers h := by rwa [MarkersWait, hq]
  kept h := by rwa [KeptBound, hr]
  running h ho := by rw [hr] at ho; exact hb (h ho) ho

/-- An operation that leaves the marker queue, the open run and the batch state. -/
theorem of_same {s t : State} (h : soundView t = soundView s) : StaysSound s t := by
  obtain ⟨hq, hr, hb⟩ : t.trk.queue = s.trk.queue ∧ t.run.run = s.run.run ∧ t.meter.batch = s.meter.batch := by
    simpa [soundView] using h
  exact of_run hq hr fun hb' _ => hb.trans hb'

/-- An operation that empties the marker queue and leaves the open run and the batch state. -/
theorem of_emptied {s t : State} (hq : t.trk.queue = []) (hr : t.run.run = s.run.run)
    (hb : t.meter.batch = s.meter.batch) : StaysSound s t where
  markers _ := by simp [MarkersWait, hq]
  kept h := by rwa [KeptBound, hr]
  running h := by rwa [RunOnlyRunning, hr, hb]

/-- An operation that closes the run and leaves the marker queue. -/
theorem of_closed {s t : State} (hq : t.trk.queue = s.trk.queue) (hr : t.run.run = none) : StaysSound s t where
  markers h := by rwa [MarkersWait, hq]
  kept _ := by simp [KeptBound, hr]
  running _ := by simp [RunOnlyRunning, hr]

end StaysSound

/-- What queuing keeps is sound where RUNNING stays while a run is open. -/
theorem QueuingKeeps.sound {s t : State} (h : QueuingKeeps s t)
    (hb : s.meter.batch = .running → s.run.run.isSome = true → t.meter.batch = .running) : StaysSound s t := by
  have hblocks := h.blocks
  unfold QueuingOnly at hblocks
  exact .of_run (by rw [hblocks]) (by rw [hblocks]) hb

theorem whenRunning_sound {f : State → State} {s : State} (h : StaysSound s (f s)) :
    StaysSound s (whenRunning f s) := by
  unfold whenRunning
  split
  · exact h
  · exact .refl s

theorem whenDue_sound {timer : State → Option Stamp} {f : State → State} {s : State} (h : StaysSound s (f s)) :
    StaysSound s (whenDue timer f s) := by
  refine whenRunning_sound ?_
  split
  · exact h
  · exact .refl s

/-! ### Queuing -/

theorem enqueue_sound (m : TxMsg) (s : State) : StaysSound s (enqueue m s) :=
  (enqueue_keeps m s).sound fun hb _ => by rw [(enqueue_of_not_claiming m (by simp [hb])).1, hb]

theorem frameLost_sound (m : TxMsg) (s : State) : StaysSound s (frameLost m s) :=
  (frameLost_keeps m s).sound fun hb _ => by rw [(frameLost_of_not_claiming m (by simp [hb])).1, hb]

theorem raiseNotice_sound (n : Notice) (s : State) : StaysSound s (raiseNotice n s) :=
  (raiseNotice_keeps n s).sound fun hb _ => by rw [(raiseNotice_of_not_claiming n (by simp [hb])).1, hb]

theorem raiseTxDropped_sound (s : State) : StaysSound s (raiseTxDropped s) :=
  (raiseTxDropped_keeps s).sound fun hb _ => by rw [raiseTxDropped_meter, hb]

theorem clearNotice_sound (n : Notice) (s : State) : StaysSound s (clearNotice n s) := .of_same (by rfl)

theorem startHeartbeat_sound (s : State) : StaysSound s (startHeartbeat s) := .of_same (by rfl)

theorem makeRoom_sound (s : State) : StaysSound s (makeRoom s) := by
  unfold makeRoom
  split
  · split
    · exact .refl s
    · exact StaysSound.trans (.of_same (by rfl)) (frameLost_sound _ _)
  · exact .refl s

theorem queueJoin_sound (c : JoinCause) (s : State) : StaysSound s (queueJoin c s) :=
  ((makeRoom_sound s).trans (makeRoom_sound _)).trans (.of_same (by rfl))

theorem releaseWaiting_sound (s : State) : StaysSound s (releaseWaiting s) :=
  (releaseWaiting_keeps s).sound fun hb _ => by
    unfold releaseWaiting
    dsimp only
    split <;> split <;> simp [enqueue_of_not_claiming, hb]

theorem requeueOwed_sound (s : State) : StaysSound s (requeueOwed s) := by
  unfold requeueOwed
  split
  · split
    · exact .refl s
    · exact enqueue_sound _ s
  · exact .refl s

/-! ### Evaluation and sealing: outside CLAIMING no claim moves the batch state -/

/-- An evaluation with a run open leads to RUNNING (R94, Table 6.3). -/
theorem evaluateRecord_open {s : State} (hb : evaluates s.meter.batch = true) (hr : s.run.run.isSome = true) :
    (evaluateRecord s).meter.batch = .running := by
  simp [evaluateRecord, hb, overallVerdict, hr, stateOfVerdict]

theorem evaluateRecord_sound (s : State) : StaysSound s (evaluateRecord s) :=
  (evaluateRecord_keeps s).sound fun hb hr => evaluateRecord_open (by simp [hb, evaluates]) hr

/-- A held number is checked in AWAIT_SEAL alone (R96, R97). -/
theorem checkHeld_of_ne {s : State} (h : s.meter.batch ≠ .awaitSeal) : checkHeld s = s := by
  unfold checkHeld
  split
  · exact if_neg h
  · rfl

theorem checkHeld_sound (s : State) : StaysSound s (checkHeld s) :=
  (checkHeld_keeps s).sound fun hb _ => by rw [checkHeld_of_ne (by simp [hb]), hb]

theorem evaluate_sound (s : State) : StaysSound s (evaluate s) := by
  unfold evaluate
  dsimp only
  split
  · exact (evaluateRecord_sound s).trans (checkHeld_sound _)
  · exact evaluateRecord_sound s

theorem returnToAwaitSeal_sound (s : State) : StaysSound s (returnToAwaitSeal s) :=
  (returnToAwaitSeal_keeps s).sound fun _ hr => by
    have hrun := evaluateRecord_open (s := { s with meter := { s.meter with batch := .awaitSeal } }) rfl hr
    unfold returnToAwaitSeal
    rw [checkHeld_of_ne (by simp [hrun]), hrun]

theorem grantTest_sound (s : State) : StaysSound s (grantTest s) :=
  (grantTest_keeps s).sound fun hb _ => by simp [grantTest, hb]

theorem examineAndGrant_sound (s : State) : StaysSound s (examineAndGrant s) :=
  (examineAndGrant_keeps s).sound fun hb _ => by simp [examineAndGrant, hb]

theorem abandonOffLine_sound (s : State) : StaysSound s (abandonOffLine s) :=
  (abandonOffLine_keeps s).sound fun hb _ => by simp [abandonOffLine, hb]

theorem withdrawClaim_sound (s : State) : StaysSound s (withdrawClaim s) :=
  (withdrawClaim_keeps s).sound fun hb _ => by simp [withdrawClaim, hb]

theorem ownClaimSent_sound (n : Nat) (s : State) : StaysSound s (ownClaimSent n s) :=
  (ownClaimSent_keeps n s).sound fun hb _ => by simp [ownClaimSent, hb]

theorem takeClaim_sound (k n : Nat) (t : Text) (s : State) : StaysSound s (takeClaim k n t s) := by
  unfold takeClaim
  split
  · exact .refl s
  · exact StaysSound.trans (.of_same (by rfl)) (examineAndGrant_sound _)

theorem takeRelease_sound (k n : Nat) (s : State) : StaysSound s (takeRelease k n s) := by
  unfold takeRelease
  split
  · exact StaysSound.trans (.of_same (by rfl)) (grantTest_sound _)
  · exact .refl s

theorem removeClaims_sound (ks : List Nat) (s : State) : StaysSound s (removeClaims ks s) := by
  unfold removeClaims
  split
  · exact StaysSound.trans (.of_same (by rfl)) (grantTest_sound _)
  · exact .refl s

theorem takeSealed_sound (t : Text) (s : State) : StaysSound s (takeSealed t s) :=
  (takeSealed_keeps t s).sound fun hb _ => by
    unfold takeSealed
    split
    · dsimp only
      split
      · split
        · simp [hb]
        · exact hb
      · exact hb
    · exact hb

theorem ownReleaseSent_sound (n : Nat) (s : State) : StaysSound s (ownReleaseSent n s) := .of_same (by rfl)

theorem sealCheck_sound {t : Text} {s : State} (h : s.meter.batch = .awaitSeal) : StaysSound s (sealCheck t s) :=
  (sealCheck_keeps t s).sound fun hb => absurd hb (by simp [h])

theorem deliverSeal_sound (t : Text) (s : State) : StaysSound s (deliverSeal t s) := by
  unfold deliverSeal
  split
  · exact .refl s
  · exact .refl s
  · next hb => exact StaysSound.trans (.of_same (by rfl)) (sealCheck_sound (by exact hb))
  all_goals exact .of_same (by rfl)

theorem endSealLine_sound (s : State) : StaysSound s (endSealLine s) := by
  unfold endSealLine
  have h : StaysSound s (emptySealLine s) := .of_same (by rfl)
  dsimp only
  split
  · exact h.trans (deliverSeal_sound _ _)
  · exact h.trans (raiseNotice_sound _ _)

theorem takeSealChar_sound (code : Byte) (f : Bool) (s : State) : StaysSound s (takeSealChar code f s) := by
  unfold takeSealChar
  split
  · exact endSealLine_sound s
  · exact .of_same (by rfl)

theorem completeStroke_sound {c : OwnClaim} {s : State} (h : s.meter.batch = .pressing) :
    StaysSound s (completeStroke c s) :=
  (completeStroke_keeps c s).sound fun hb => absurd hb (by simp [h])

theorem failStroke_sound {c : OwnClaim} {s : State} (h : s.meter.batch = .pressing) :
    StaysSound s (failStroke c s) :=
  (failStroke_keeps c s).sound fun hb => absurd hb (by simp [h])

/-! ### Point runs -/

theorem disarm_sound (s : State) : StaysSound s (disarm s) := by
  unfold disarm
  split
  · exact .refl s
  · exact .of_emptied rfl rfl rfl
  · exact .of_emptied rfl rfl rfl

theorem arm_sound (n m : Nat) (s : State) : StaysSound s (arm n m s) := by
  unfold arm
  split
  · exact .of_emptied rfl rfl rfl
  · exact .of_same (by rfl)
  · exact .of_same (by rfl)

theorem scannerLoss_sound (s : State) : StaysSound s (scannerLoss s) := by
  unfold scannerLoss
  split
  · exact .refl s
  · exact .of_emptied rfl rfl rfl
  · exact .of_emptied rfl rfl rfl

theorem writeRecord_sound (x : PointRecord) (s : State) : StaysSound s (writeRecord x s) := .of_same (by rfl)

/-- The open run replaced by one whose kept list is within its bound, or no longer than before (R60). -/
theorem setRun_sound {x y : Run} {s : State} (hx : s.run.run = some x)
    (hy : y.kept.length ≤ Config.keptCapacity ∨ y.kept.length ≤ x.kept.length) : StaysSound s (setRun y s) where
  markers h := h
  kept h z hz := by
    obtain rfl : y = z := Option.some.inj hz
    have := h x hx
    omega
  running h _ := h (by simp [hx])

theorem queueProgress_sound (p r : Nat) (v : Progress) (s : State) : StaysSound s (queueProgress p r v s) :=
  enqueue_sound _ s

theorem reportProgress_sound {x y : Run} {v : Progress} {s : State} (hx : s.run.run = some x)
    (hy : y.kept = x.kept) : StaysSound s (reportProgress y v s) :=
  StaysSound.trans (setRun_sound hx (.inr (hy ▸ Nat.le_refl y.kept.length))) (queueProgress_sound _ _ _ _)

theorem closeRun_sound (c : CloseCause) (s : State) : StaysSound s (closeRun c s) := by
  unfold closeRun
  split
  · exact .refl s
  · next x hx =>
    dsimp only
    have hopen : StaysSound s { s with run := { s.run with run := none, standing := .closed x.p x.r } } :=
      .of_closed rfl rfl
    refine StaysSound.trans ?_ ((enqueue_sound _ _).trans (evaluate_sound _))
    split <;> split
    · exact ((hopen.trans (disarm_sound _)).trans (writeRecord_sound _ _)).trans (enqueue_sound _ _)
    · exact (hopen.trans (writeRecord_sound _ _)).trans (enqueue_sound _ _)
    · exact (hopen.trans (disarm_sound _)).trans (writeRecord_sound _ _)
    · exact hopen.trans (writeRecord_sound _ _)

theorem completionTest_sound (s : State) : StaysSound s (completionTest s) := by
  unfold completionTest
  split
  · split
    · exact closeRun_sound _ s
    · exact .refl s
  · exact .refl s

theorem discardRun_sound (s : State) : StaysSound s (discardRun s) := by
  unfold discardRun
  split
  · exact .refl s
  · dsimp only
    have hopen : StaysSound s { s with run := { s.run with run := none } } := .of_closed rfl rfl
    split
    · exact (hopen.trans (disarm_sound _)).trans (queueProgress_sound _ _ _ _)
    · exact hopen.trans (queueProgress_sound _ _ _ _)

theorem settlementTest_sound (s : State) : StaysSound s (settlementTest s) := by
  unfold settlementTest
  split
  · exact .refl s
  · next x hx =>
    split
    · exact (reportProgress_sound hx (by rfl)).trans (completionTest_sound _)
    · exact reportProgress_sound hx (by rfl)
    · exact .refl s

/-- A kept result leaves at most 16 (R60). -/
theorem keepResult_kept_length (q : GateResult) (x : Run) : (keepResult q x).kept.length ≤ Config.keptCapacity :=
  latest_length_le _ _

theorem offerMeasurement_sound {x y : Run} {e : KeptEntry} {s : State} (hx : s.run.run = some x)
    (hy : y.kept.length ≤ Config.keptCapacity) : StaysSound s (offerMeasurement y e s) := by
  unfold offerMeasurement
  split
  · exact setRun_sound hx (.inl hy)
  · exact (setRun_sound hx (.inl hy)).trans (enqueue_sound _ _)

theorem keepAndSettle_sound {x : Run} {q : GateResult} {e : KeptEntry} {s : State} (hx : s.run.run = some x) :
    StaysSound s (settlementTest (if s.cmd.setup.streaming then offerMeasurement (keepResult q x) e s
      else setRun (keepResult q x) s)) := by
  refine StaysSound.trans ?_ (settlementTest_sound _)
  split
  · exact offerMeasurement_sound hx (keepResult_kept_length q x)
  · exact setRun_sound hx (.inl (keepResult_kept_length q x))

theorem takeResult_sound (q : GateResult) (s : State) : StaysSound s (takeResult q s) := by
  unfold takeResult
  split
  · exact .refl s
  · next x hx =>
    split
    · split
      · exact setRun_sound hx (.inr (Nat.le_refl _))
      · exact keepAndSettle_sound hx
      · exact keepAndSettle_sound hx
      all_goals exact .refl s
    · exact .refl s

theorem evaluateGate_sound (s : State) : StaysSound s (evaluateGate s) := by
  unfold evaluateGate
  split
  · exact StaysSound.trans (.of_same (by rfl)) (takeResult_sound _ _)
  · exact .refl s

theorem takeMarker_sound (m : Marker) (void : Bool) (s : State) : StaysSound s (takeMarker m void s) := by
  unfold takeMarker
  split
  · exact .refl s
  · exact .of_same (by rfl)
  · split
    · exact .of_same (by rfl)
    · split
      · exact .refl s
      · dsimp only
        split
        · exact .of_same (by rfl)
        · split
          · exact .of_same (by rfl)
          · exact StaysSound.trans (.of_same (by rfl)) (evaluateGate_sound _)

theorem restoreGrace_sound (s : State) : StaysSound s (restoreGrace s) := .of_same (by rfl)

theorem countPulse_sound (t : Stamp) (s : State) : StaysSound s (countPulse t s) := by
  unfold countPulse
  split
  · exact .refl s
  · next x hx =>
    split
    · dsimp only
      split
      · exact ((restoreGrace_sound s).trans (reportProgress_sound hx (by rfl))).trans (completionTest_sound _)
      · exact setRun_sound hx (.inr (Nat.le_refl _))
    · exact .refl s

theorem armFor_sound (e : PlanEntry) (s : State) : StaysSound s (armFor e s) := by
  unfold armFor
  split
  · exact arm_sound _ _ s
  · exact .refl s

/-- A run opens with no kept result, in RUNNING (R57). -/
theorem beginRun_sound (p r : Nat) (e : PlanEntry) (s : State) : StaysSound s (beginRun p r e s) := by
  refine StaysSound.trans ?_ (armFor_sound e _)
  refine ⟨fun h => h, fun _ x hx => ?_, fun _ _ => rfl⟩
  obtain rfl := Option.some.inj hx
  exact Nat.zero_le _

theorem announceRun_sound (e : PlanEntry) (s : State) : StaysSound s (announceRun e s) := by
  unfold announceRun
  split
  · exact .refl s
  · next x hx =>
    have hopened := reportProgress_sound (y := x) (v := .opened) hx rfl
    have hrun : (reportProgress x .opened s).run.run = some { x with progress := .opened } := by
      simp [reportProgress, queueProgress]
    dsimp only
    split
    · exact hopened.trans (reportProgress_sound hrun (by rfl))
    · exact hopened

theorem openRun_sound (p r : Nat) (e : PlanEntry) (s : State) : StaysSound s (openRun p r e s) := by
  unfold openRun
  split
  · exact (beginRun_sound p r e s).trans (announceRun_sound _ _)
  · exact (beginRun_sound p r e s).trans (closeRun_sound _ _)

theorem declineRun_sound (p r : Nat) (s : State) : StaysSound s (declineRun p r s) :=
  StaysSound.trans (.of_same (by rfl)) (queueProgress_sound _ _ _ _)

theorem openOrDecline_sound (p r : Nat) (s : State) : StaysSound s (openOrDecline p r s) := by
  have hdecline : StaysSound s (if p ≤ 31 && r != 0 then declineRun p r s else s) := by
    split
    · exact declineRun_sound p r s
    · exact .refl s
  have hopen : StaysSound s (if p ≤ 31 && r != 0 then
      match activeEntry s p with
      | some e => openRun p r e s
      | none => declineRun p r s
    else s) := by
    split
    · split
      · exact openRun_sound _ _ _ s
      · exact declineRun_sound p r s
    · exact .refl s
  unfold openOrDecline
  split
  · exact .refl s
  exacts [hdecline, hdecline, hdecline, hdecline, hopen, hopen, hopen, hopen]

theorem restateStanding_sound (p r : Nat) (s : State) : StaysSound s (restateStanding p r s) := by
  unfold restateStanding
  split
  · exact .refl s
  · split
    · exact queueProgress_sound _ _ _ s
    · exact .refl s
  · split
    · exact .refl s
    · split
      · exact enqueue_sound _ s
      · exact .refl s
  · exact queueProgress_sound _ _ _ s

/-! ### Pulse inputs -/

/-- The markers that a counted reference edge leaves in the queue were there and wait still (R14). -/
theorem fillQueue_waits (e : Stamp) (q : List Marker) :
    (fillQueue e q).length ≤ q.length ∧ ∀ m ∈ fillQueue e q, m.rNext = none := by
  unfold fillQueue
  refine ⟨(List.length_filter_le _ _).trans (by simp), fun m hm => ?_⟩
  simpa using (List.mem_filter.1 hm).2

theorem countRef_sound (s : State) : StaysSound s (countRef s) where
  markers h := ⟨(fillQueue_waits _ _).1.trans h.1, (fillQueue_waits _ _).2⟩
  kept h := h
  running h := h

theorem refEdge_sound (s : State) : StaysSound s (refEdge s) := by
  unfold refEdge
  split
  · exact countRef_sound s
  · exact StaysSound.trans (.of_same (by rfl)) (raiseNotice_sound _ _)

/-- The marker queue once a marker has formed (R14, R15). -/
def queueAfter (m : Marker) (q : List Marker) : List Marker :=
  if m.rNext.isSome then q
  else (if decide (Config.markerCapacity ≤ q.length) then q.drop 1 else q) ++ [m]

/-- A marker that forms leaves at most 4 waiting (R14, R15). -/
theorem queueAfter_waits {m : Marker} {q : List Marker} (hl : q.length ≤ Config.markerCapacity)
    (hq : ∀ x ∈ q, x.rNext = none) :
    (queueAfter m q).length ≤ Config.markerCapacity ∧ ∀ x ∈ queueAfter m q, x.rNext = none := by
  unfold queueAfter
  split
  · exact ⟨hl, hq⟩
  · next hm =>
    have hm : m.rNext = none := by simpa using hm
    split
    · next hfull =>
      have hfull := of_decide_eq_true hfull
      simp only [Config.markerCapacity] at hl hfull ⊢
      refine ⟨by simp; omega, fun x hx => ?_⟩
      rcases List.mem_append.1 hx with h | h
      · exact hq x (List.mem_of_mem_drop h)
      · rwa [List.mem_singleton.1 h]
    · next hroom =>
      have hroom : ¬ Config.markerCapacity ≤ q.length := by simpa using hroom
      simp only [Config.markerCapacity] at hl hroom ⊢
      refine ⟨by simp; omega, fun x hx => ?_⟩
      rcases List.mem_append.1 hx with h | h
      · exact hq x h
      · rwa [List.mem_singleton.1 h]

/-- A marker forms: the overrate flag passes into it, and the error computer takes it with the queue that it leaves
(R13, R15). -/
theorem formMarker_eq (x : PendingEdge) (s : State) : formMarker x s =
    takeMarker (markerOf x s.trk.overrate)
      (x.snap.rNext.isNone && decide (Config.markerCapacity ≤ s.trk.queue.length))
      { s with trk := { s.trk with
        overrate := false, queue := queueAfter (markerOf x s.trk.overrate) s.trk.queue } } := rfl

theorem formMarker_sound (x : PendingEdge) (s : State) : StaysSound s (formMarker x s) := by
  rw [formMarker_eq]
  refine StaysSound.trans ?_ (takeMarker_sound _ _ _)
  exact ⟨fun h => queueAfter_waits h.1 h.2, fun h => h, fun h => h⟩

theorem qualify_sound (x : PendingEdge) (s : State) : StaysSound s (qualify x s) :=
  (StaysSound.trans (.of_same (by rfl)) (formMarker_sound x _)).trans (countPulse_sound _ _)

theorem mutRise_sound (s : State) : StaysSound s (mutRise s) := by
  unfold mutRise
  split
  · split
    · exact qualify_sound _ s
    · exact .of_same (by rfl)
  · exact .refl s

theorem mutFall_sound (s : State) : StaysSound s (mutFall s) := by
  unfold mutFall
  split
  · split
    · exact .of_same (by rfl)
    · exact qualify_sound _ s
  · exact .refl s

theorem widthExpiry_sound (s : State) : StaysSound s (widthExpiry s) := by
  unfold widthExpiry
  split
  · split
    · exact qualify_sound _ s
    · exact .refl s
  · exact .refl s

theorem graceExpires_sound (s : State) : StaysSound s (graceExpires s) :=
  StaysSound.trans (.of_same (by rfl)) (closeRun_sound _ _)

theorem presentFalls_sound (s : State) : StaysSound s (presentFalls s) := by
  have hloss : ∀ fe, StaysSound s (scannerLoss (raiseNotice .scannerAbsent { s with fe := fe })) := fun fe =>
    (StaysSound.trans (.of_same (by rfl)) (raiseNotice_sound _ _)).trans (scannerLoss_sound _)
  unfold presentFalls
  dsimp only
  split
  · exact (hloss _).trans (graceExpires_sound _)
  · exact hloss _

/-! ### The plan -/

theorem copyEntries_sound (ps : List Nat) (s : State) : StaysSound s (copyEntries ps s) := by
  unfold copyEntries
  dsimp only
  split
  · exact .of_same (by rfl)
  · exact StaysSound.trans (.of_same (by rfl)) (evaluate_sound _)

theorem makeReady_sound (ps : List Nat) (s : State) : StaysSound s (makeReady ps s) := by
  unfold makeReady
  split
  · exact copyEntries_sound ps s
  · exact .of_same (by rfl)

theorem markChanged_sound (ps : List Nat) (s : State) : StaysSound s (markChanged ps s) := by
  unfold markChanged
  split
  · exact .of_same (by rfl)
  · exact makeReady_sound ps s

theorem stageEntry_sound (p : Nat) (e : PlanEntry) (s : State) : StaysSound s (stageEntry p e s) := by
  unfold stageEntry
  split
  · exact .refl s
  · exact StaysSound.trans (.of_same (by rfl)) (markChanged_sound _ _)

theorem loadSettled_sound (p r : Nat) (s : State) : StaysSound s (loadSettled p r s) :=
  (((closeRun_sound .forced s).trans (copyEntries_sound _ _)).trans (.of_same (by rfl))).trans
    (openOrDecline_sound p r _)

theorem loadChanging_sound (s : State) : StaysSound s (loadChanging s) :=
  (closeRun_sound .forced s).trans (.of_same (by rfl))

theorem loadOff_sound (s : State) : StaysSound s (loadOff s) :=
  ((closeRun_sound .forced s).trans (copyEntries_sound _ _)).trans (.of_same (by rfl))

/-! ### The cross-check -/

theorem voidRun_sound (s : State) : StaysSound s (voidRun s) where
  markers h := h
  kept h x hx := by
    obtain ⟨y, hy, rfl⟩ := Option.map_eq_some_iff.1 hx
    exact h y hy
  running h ho := h (by simpa using ho)

theorem setSuspect_sound (b : Bool) (s : State) : StaysSound s (setSuspect b s) := by
  have hset : StaysSound s { s with xc := { s.xc with suspect := b } } := .of_same (by rfl)
  unfold setSuspect
  dsimp only
  split
  · exact (hset.trans (voidRun_sound _)).trans (raiseNotice_sound _ _)
  · split
    · exact hset.trans (clearNotice_sound _ _)
    · exact hset

theorem judge_sound (s : State) : StaysSound s (judge s) := by
  unfold judge
  split
  · split
    · exact .refl s
    · exact StaysSound.trans (.of_same (by rfl)) (setSuspect_sound _ _)
  · exact .refl s

theorem earlyJudgment_sound (s : State) : StaysSound s (earlyJudgment s) := by
  unfold earlyJudgment
  split
  · split
    · exact judge_sound s
    · exact .refl s
  · exact .refl s

theorem prime_sound (n : BitVec 16) (s : State) : StaysSound s (prime n s) := .of_same (by rfl)

theorem unprime_sound (s : State) : StaysSound s (unprime s) := .of_same (by rfl)

theorem formTally_sound (n : BitVec 16) (l : Latch) (s : State) : StaysSound s (formTally n l s) :=
  (StaysSound.trans (.of_same (by rfl)) (enqueue_sound _ _)).trans (earlyJudgment_sound _)

theorem takeSync_sound (n : BitVec 16) (s : State) : StaysSound s (takeSync n s) := by
  unfold takeSync
  split
  · exact prime_sound n s
  · split
    · exact .refl s
    · split
      · exact (judge_sound s).trans (formTally_sound _ _ _)
      · exact (judge_sound s).trans (prime_sound _ _)

theorem takeTally_sound (k : Nat) (w : BitVec 16) (n : Nat) (s : State) : StaysSound s (takeTally k w n s) := by
  unfold takeTally
  split
  · split
    · exact .refl s
    · exact StaysSound.trans (.of_same (by rfl)) (earlyJudgment_sound _)
  · exact .refl s

/-! ### Console commands -/

theorem planPointCommand_sound (bs : List Byte) (s : State) : StaysSound s (planPointCommand bs s).1 := by
  unfold planPointCommand
  split
  · exact .refl s
  · split
    · exact .refl s
    · split
      · exact .refl s
      · exact stageEntry_sound _ _ s

theorem planLimitsCommand_sound (bs : List Byte) (s : State) : StaysSound s (planLimitsCommand bs s).1 := by
  unfold planLimitsCommand
  split
  · exact .refl s
  · split
    · exact .refl s
    · split
      · exact .refl s
      · split
        · exact .refl s
        · split
          · exact .refl s
          · exact stageEntry_sound _ _ s

theorem planClearCommand_sound (bs : List Byte) (s : State) : StaysSound s (planClearCommand bs s).1 := by
  unfold planClearCommand
  split
  · exact .refl s
  · split
    · split
      · exact .refl s
      · dsimp only
        split
        · exact .refl s
        · exact StaysSound.trans (.of_same (by rfl)) (markChanged_sound _ _)
    · exact .refl s

theorem planHoldCommand_sound (bs : List Byte) (s : State) : StaysSound s (planHoldCommand bs s).1 := by
  unfold planHoldCommand
  split
  · exact .of_same (by rfl)
  · exact .refl s

theorem planReleaseCommand_sound (bs : List Byte) (s : State) : StaysSound s (planReleaseCommand bs s).1 := by
  unfold planReleaseCommand
  split
  · split
    · dsimp only
      split
      · exact .of_same (by rfl)
      · exact StaysSound.trans (.of_same (by rfl)) (makeReady_sound _ _)
    · exact .refl s
  · exact .refl s

theorem setupCommand_sound (bs : List Byte) (s : State) : StaysSound s (setupCommand bs s).1 := by
  unfold setupCommand
  split
  · exact .refl s
  · split
    · exact .of_same (by rfl)
    · exact .refl s

/-- SET-METER moves the batch state from IDLE or LOADED alone, where no run is open (R90). -/
theorem setMeterCommand_sound (bs : List Byte) (s : State) : StaysSound s (setMeterCommand bs s).1 := by
  unfold setMeterCommand
  split
  · exact .refl s
  · split
    · exact .refl s
    · split
      · next hb => exact .of_run rfl rfl fun h => absurd hb (by simp [h])
      · exact .refl s

theorem takeBefore_sound (p v : Nat) (s : State) : StaysSound s (takeBefore p v s).1 := by
  unfold takeBefore
  split
  · exact .refl s
  · exact .of_same (by rfl)

theorem takeAfter_sound (p v : Nat) (s : State) : StaysSound s (takeAfter p v s).1 := by
  unfold takeAfter
  split
  · exact .refl s
  · split
    · exact .refl s
    · exact ((StaysSound.trans (.of_same (by rfl)) (enqueue_sound _ _)).trans (restateStanding_sound _ _ _)).trans
        (evaluate_sound _)

theorem readingCommand_sound (bs : List Byte) (s : State) : StaysSound s (readingCommand bs s).1 := by
  unfold readingCommand
  split
  · exact .refl s
  · split
    · exact .refl s
    · split
      · exact .refl s
      · split
        · exact .refl s
        · split
          · exact takeAfter_sound _ _ s
          · exact takeBefore_sound _ _ s

/-- The batch is ended once no run is open (R75, R98). -/
theorem clearBatch_sound {s : State} (h : s.run.run = none) : StaysSound s (clearBatch s) := .of_closed rfl h

theorem discardRun_run (s : State) : (discardRun s).run.run = none := by
  unfold discardRun
  split
  · assumption
  · next x hx =>
    have hd : ∀ t : State, (disarm t).run = t.run := fun t => by unfold disarm; split <;> rfl
    dsimp only
    split <;> simp [queueProgress, hd]

theorem endBatchCommand_sound (bs : List Byte) (s : State) : StaysSound s (endBatchCommand bs s).1 := by
  unfold endBatchCommand
  split
  · exact .refl s
  · split
    · exact .refl s
    · exact ((withdrawClaim_sound s).trans (discardRun_sound _)).trans (clearBatch_sound (discardRun_run _))

theorem retrySealCommand_sound (bs : List Byte) (s : State) : StaysSound s (retrySealCommand bs s).1 := by
  unfold retrySealCommand
  split
  · exact .refl s
  · split
    · exact returnToAwaitSeal_sound s
    · exact .refl s

theorem clearNoticesCommand_sound (bs : List Byte) (s : State) : StaysSound s (clearNoticesCommand bs s).1 := by
  unfold clearNoticesCommand
  split
  · exact .of_same (by rfl)
  · exact .refl s

theorem noticeMaskCommand_sound (bs : List Byte) (s : State) : StaysSound s (noticeMaskCommand bs s).1 := by
  unfold noticeMaskCommand
  split
  · exact .of_same (by rfl)
  · exact .refl s

theorem reply_sound (k : FrameKind) (c : ReplyCode) (s : State) : StaysSound s (reply k c s) := enqueue_sound _ s

theorem command_sound {k : FrameKind} {dest : Nat} {f : State → State × ReplyCode} {s : State}
    (h : StaysSound s (f s).1) : StaysSound s (command k dest f s) := by
  unfold command groupAnswer
  split
  · exact h.trans (reply_sound _ _ _)
  · split
    · exact h.trans (raiseNotice_sound _ _)
    · exact h
  · exact .refl s

theorem endSeries_sound (s : State) : StaysSound s (endSeries s) := .of_same (by rfl)

theorem beginSeries_sound (q : Subject) (n : Nat) (s : State) : StaysSound s (beginSeries q n s) :=
  StaysSound.trans (.of_same (by rfl)) (enqueue_sound _ _)

theorem partSent_sound (s : State) : StaysSound s (partSent s) := by
  unfold partSent
  split
  · exact .refl s
  · split
    · split <;> exact StaysSound.trans (.of_same (by rfl)) (enqueue_sound _ _)
    · exact .of_same (by rfl)

theorem takeQuery_sound (dest : Nat) (bs : List Byte) (s : State) : StaysSound s (takeQuery dest bs s) := by
  unfold takeQuery
  split
  · split
    · dsimp only
      split
      · exact (endSeries_sound s).trans (beginSeries_sound _ _ _)
      · exact (endSeries_sound s).trans (reply_sound _ _ _)
    · exact reply_sound _ _ s
  all_goals exact .refl s

theorem holdReset_sound (p : Phase) (s : State) : StaysSound s (holdReset p s) := .of_same (by rfl)

theorem takeRestart_sound (dest : Nat) (bs : List Byte) (s : State) : StaysSound s (takeRestart dest bs s) := by
  unfold takeRestart
  split
  · split
    · exact holdReset_sound _ s
    · exact reply_sound _ _ s
  all_goals exact .refl s

/-! ### The bench line -/

theorem emptyQueue_sound (st : LineState) (s : State) : StaysSound s (emptyQueue st s) := by
  unfold emptyQueue
  dsimp only
  split
  · exact .of_same (by rfl)
  · exact StaysSound.trans (.of_same (by rfl)) (raiseTxDropped_sound _)

theorem enterLineOff_sound (s : State) : StaysSound s (enterLineOff s) :=
  (StaysSound.trans (.of_same (by rfl)) (emptyQueue_sound _ _)).trans (abandonOffLine_sound _)

theorem enterMuted_sound (s : State) : StaysSound s (enterMuted s) := by
  unfold enterMuted
  split
  · exact .refl s
  · exact ((StaysSound.trans (.of_same (by rfl)) (emptyQueue_sound _ _)).trans (raiseNotice_sound _ _)).trans
      (abandonOffLine_sound _)

theorem returnOnLine_sound (s : State) : StaysSound s (returnOnLine s) :=
  (((StaysSound.trans (.of_same (by rfl)) (queueJoin_sound _ _)).trans (startHeartbeat_sound _)).trans
    (unprime_sound _)).trans (requeueOwed_sound _)

theorem countGood_sound (s : State) : StaysSound s (countGood s) := by
  unfold countGood
  split
  · split
    · exact returnOnLine_sound s
    · exact .of_same (by rfl)
  · exact .refl s

theorem rosterTakes_sound (k : Nat) (f : RosterEntry → RosterEntry) (s : State) :
    StaysSound s (rosterTakes k f s) := by
  unfold rosterTakes
  split
  · exact .of_same (by rfl)
  · exact .refl s

theorem rosterMarks_sound (k : Nat) (s : State) : StaysSound s (rosterMarks k s) := rosterTakes_sound _ _ s

theorem takeJoin_sound (k : Nat) (c : JoinCause) (b : BatchState) (s : State) : StaysSound s (takeJoin k c b s) := by
  unfold takeJoin
  dsimp only
  refine StaysSound.trans ?_ (completionTest_sound _)
  have hstatus : ∀ t, StaysSound t (if t.line.state = .onLine then enqueue (.status none) t else t) := fun t => by
    split
    · exact enqueue_sound _ t
    · exact .refl t
  have hrow := (rosterTakes_sound k (fun e => { e with batch := some b, progress := none }) s).trans (hstatus _)
  split
  · exact hrow
  · exact hrow.trans (removeClaims_sound _ _)

theorem rosterThenComplete_sound (k : Nat) (f : RosterEntry → RosterEntry) (s : State) :
    StaysSound s (completionTest (rosterTakes k f s)) :=
  (rosterTakes_sound k f s).trans (completionTest_sound _)

theorem takeStatus_sound (k : Nat) (b : BatchState) (x : Option (Nat × Nat × Progress)) (s : State) :
    StaysSound s (takeStatus k b x s) := by
  unfold takeStatus
  split
  · exact rosterThenComplete_sound _ _ s
  · split
    · exact rosterThenComplete_sound _ _ s
    · exact rosterMarks_sound _ s

theorem takeProgress_sound (k p r : Nat) (v : Progress) (b : BatchState) (s : State) :
    StaysSound s (takeProgress k p r v b s) := by
  unfold takeProgress
  split
  · exact rosterThenComplete_sound _ _ s
  · exact rosterMarks_sound _ s

theorem takePointResult_sound (k p r : Nat) (s : State) : StaysSound s (takePointResult k p r s) := by
  unfold takePointResult
  split
  · exact rosterThenComplete_sound _ _ s
  · exact rosterMarks_sound _ s

theorem deliver_sound (k : FrameKind) (h : Hdr) (bs : List Byte) (s : State) : StaysSound s (deliver k h bs s) := by
  cases k
  case loadSettled => dsimp only [deliver]; split; exacts [loadSettled_sound _ _ s, .refl s]
  case loadChanging => exact loadChanging_sound s
  case loadOff => exact loadOff_sound s
  case sync => dsimp only [deliver]; split; exacts [takeSync_sound _ s, .refl s]
  case setup => exact command_sound (setupCommand_sound bs s)
  case setMeter => exact command_sound (setMeterCommand_sound bs s)
  case planPoint => exact command_sound (planPointCommand_sound bs s)
  case planLimits => exact command_sound (planLimitsCommand_sound bs s)
  case planClear => exact command_sound (planClearCommand_sound bs s)
  case planHold => exact command_sound (planHoldCommand_sound bs s)
  case planRelease => exact command_sound (planReleaseCommand_sound bs s)
  case reading => exact command_sound (readingCommand_sound bs s)
  case query => exact takeQuery_sound _ bs s
  case endBatch => exact command_sound (endBatchCommand_sound bs s)
  case retrySeal => exact command_sound (retrySealCommand_sound bs s)
  case clearNotices => exact command_sound (clearNoticesCommand_sound bs s)
  case noticeMask => exact command_sound (noticeMaskCommand_sound bs s)
  case restart => exact takeRestart_sound _ bs s
  case join => dsimp only [deliver]; split; exacts [takeJoin_sound _ _ _ s, .refl s]
  case status => dsimp only [deliver]; split; exacts [takeStatus_sound _ _ _ s, .refl s]
  case progress => dsimp only [deliver]; split; exacts [takeProgress_sound _ _ _ _ _ s, .refl s]
  case pointResult => dsimp only [deliver]; split; exacts [takePointResult_sound _ _ _ s, .refl s]
  case tally =>
    dsimp only [deliver]; split
    exacts [(rosterMarks_sound _ s).trans (takeTally_sound _ _ _ _), .refl s]
  case claim =>
    dsimp only [deliver]; split
    exacts [(rosterMarks_sound _ s).trans (takeClaim_sound _ _ _ _), .refl s]
  case release =>
    dsimp only [deliver]; split
    exacts [(rosterMarks_sound _ s).trans (takeRelease_sound _ _ _), .refl s]
  case sealed => exact (rosterMarks_sound _ s).trans (takeSealed_sound bs _)
  case measurement | notice | reply | detail => exact rosterMarks_sound _ s

theorem filtered_sound (f : RxFrame) (s : State) : StaysSound s (filtered f s) := by
  unfold filtered
  split
  · exact .refl s
  · exact .refl s
  · exact enterMuted_sound s
  · exact rosterMarks_sound _ s
  · exact deliver_sound _ _ _ s

theorem receive_sound (f : RxFrame) (s : State) : StaysSound s (receive f s) := by
  unfold receive
  split
  · exact .refl s
  · exact (StaysSound.trans (.of_same (by rfl)) (countGood_sound _)).trans (filtered_sound f _)

theorem receiveKind_sound (k : FrameKind) (h : Hdr) (bs : List Byte) (s : State) :
    StaysSound s (receiveKind k h bs s) := whenRunning_sound (receive_sound _ s)

theorem withStrokeDone_sound (b : Bool) (s : State) : StaysSound s (withStrokeDone b s) := .of_same (by rfl)

theorem beginAttempt_sound (s : State) : StaysSound s (beginAttempt s) := by
  unfold beginAttempt
  split
  · split
    · exact .of_same (by rfl)
    · exact .refl s
  · exact .refl s

theorem tellSent_sound (m : TxMsg) (s : State) : StaysSound s (tellSent m s) := by
  unfold tellSent
  split
  · exact ownClaimSent_sound _ s
  · exact ownReleaseSent_sound _ s
  · split
    · exact partSent_sound s
    · exact .refl s
  · exact .refl s

theorem succeed_sound (f : TxFrame) (s : State) : StaysSound s (succeed f s) :=
  (((StaysSound.trans (.of_same (by rfl)) (startHeartbeat_sound _)).trans (tellSent_sound _ _)).trans
    (releaseWaiting_sound _)).trans (requeueOwed_sound _)

theorem fail_sound (f : TxFrame) (s : State) : StaysSound s (fail f s) := by
  have hoff : ∀ t, StaysSound s t → StaysSound s (if Config.lineOffTally ≤ t.line.faultTally && t.line.state = .onLine
      then enterLineOff t else t) := fun t h => by
    split
    · exact h.trans (enterLineOff_sound t)
    · exact h
  unfold fail
  dsimp only
  refine hoff _ ?_
  split
  · exact (StaysSound.trans (.of_same (by rfl)) (releaseWaiting_sound _)).trans (frameLost_sound _ _)
  · exact StaysSound.trans (.of_same (by rfl)) (releaseWaiting_sound _)

theorem ageRoster_sound (s : State) : StaysSound s (ageRoster s) := by
  have hlost : ∀ (b : Bool) (t : State), StaysSound t (if b then raiseNotice .peerLost t else t) := fun b t => by
    cases b
    · exact .refl t
    · exact raiseNotice_sound _ t
  unfold ageRoster
  dsimp only
  split
  · exact .of_same (by rfl)
  · exact (((StaysSound.trans (.of_same (by rfl)) (hlost _ _)).trans (removeClaims_sound _ _)).trans
      (earlyJudgment_sound _)).trans (completionTest_sound _)

/-! ### Resets, the tick, and every command -/

theorem resetBlocks_sound (p : Phase) (straps : BitVec 6) (present midFrame : Bool) (s : State) :
    StaysSound s (resetBlocks p straps present midFrame s) where
  markers _ := ⟨Nat.zero_le _, fun _ h => (List.not_mem_nil h).elim⟩
  kept _ _ h := by cases h
  running _ h := by cases h

theorem resetEnd_sound (straps : BitVec 6) (present midFrame : Bool) (s : State) :
    StaysSound s (if s.phase = .running then s
      else if present then resetBlocks s.phase straps present midFrame s
      else raiseNotice .scannerAbsent (resetBlocks s.phase straps present midFrame s)) := by
  split
  · exact .refl s
  · split
    · exact resetBlocks_sound _ _ _ _ s
    · exact (resetBlocks_sound _ _ _ _ s).trans (raiseNotice_sound _ _)

theorem tick_sound (s : State) : StaysSound s (tick s) := by
  unfold tick
  split
  · exact .refl s
  · exact .refl s
  · exact .of_same (by rfl)
  · exact .of_same (by rfl)

theorem next_sound {s t u : State} (h : (.next u : Host.Outcome State Fault Refusal) = .next t)
    (hs : StaysSound s u) : StaysSound s t := by
  cases h; exact hs

/-- Every command stays sound. -/
theorem exec_sound {i : Instr} {s t : State} (h : exec i s = .next t) : StaysSound s t := by
  cases i
  case powerOnReset => exact next_sound h (holdReset_sound _ s)
  case pinReset =>
    refine next_sound h ?_
    split
    · exact .refl s
    · exact holdReset_sound _ s
  case resetEnd => exact next_sound h (resetEnd_sound _ _ _ s)
  case refRisingEdge => exact next_sound h (whenRunning_sound (refEdge_sound s))
  case mutRisingEdge => exact next_sound h (StaysSound.trans (.of_same (by rfl)) (whenRunning_sound (mutRise_sound _)))
  case mutFallingEdge => exact next_sound h (StaysSound.trans (.of_same (by rfl)) (whenRunning_sound (mutFall_sound _)))
  case widthTimerExpiry => exact next_sound h (whenDue_sound (widthExpiry_sound s))
  case intervalTimerExpiry => exact next_sound h (whenDue_sound (.of_same (by rfl)))
  case delayedGateEvaluation => exact next_sound h (whenDue_sound (evaluateGate_sound s))
  case presentFall =>
    refine next_sound h ?_
    split
    · exact StaysSound.trans (.of_same (by rfl)) (whenRunning_sound (presentFalls_sound _))
    · exact .refl s
  case presentRise =>
    refine next_sound h ?_
    split
    · exact .refl s
    · exact StaysSound.trans (.of_same (by rfl)) (whenRunning_sound (.of_same (by rfl)))
  case graceExpiry =>
    exact next_sound h ((whenRunning_sound (.of_same (by rfl))).trans (whenDue_sound (graceExpires_sound _)))
  case pointTimerExpiry => exact next_sound h (whenDue_sound (closeRun_sound _ s))
  case joinReceived | claimReceived | releaseReceived =>
    exact next_sound h ((withStrokeDone_sound _ s).trans (receiveKind_sound _ _ _ _))
  case duplicateNumberFrame | frameFiltered => exact next_sound h (whenRunning_sound (receive_sound _ s))
  case frameDiscard | stuffingViolation | lineIdle => exact next_sound h (whenRunning_sound (.of_same (by rfl)))
  case agingExpiry => exact next_sound h ((withStrokeDone_sound _ s).trans (whenDue_sound (ageRoster_sound _)))
  case heartbeatExpiry =>
    refine next_sound h (whenDue_sound ?_)
    split
    · exact (enqueue_sound _ s).trans (startHeartbeat_sound _)
    · exact .refl s
  case listenTimerExpiry =>
    refine next_sound h (whenDue_sound ?_)
    split
    · exact ((queueJoin_sound s.line.resetCause s).trans (.of_same (by rfl))).trans (startHeartbeat_sound _)
    · exact .refl s
  case transmissionAttempt => exact next_sound h (whenRunning_sound (beginAttempt_sound s))
  case lostArbitration =>
    refine next_sound h (whenRunning_sound ?_)
    split
    · exact StaysSound.trans (.of_same (by rfl)) (releaseWaiting_sound _)
    · exact .refl s
  case attemptSuccess =>
    refine next_sound h ((withStrokeDone_sound _ s).trans (whenRunning_sound ?_))
    split
    · exact succeed_sound _ _
    · exact .refl _
  case attemptFailure =>
    refine next_sound h (whenRunning_sound ?_)
    split
    · exact fail_sound _ s
    · exact .refl s
  case lineOffEntry =>
    refine next_sound h (whenRunning_sound ?_)
    split
    · exact enterLineOff_sound s
    · exact .refl s
  case lineReturn =>
    refine next_sound h (whenRunning_sound ?_)
    split
    · exact returnOnLine_sound s
    · exact .refl s
  case sealInCharacter =>
    refine next_sound h (whenRunning_sound ?_)
    split
    · exact StaysSound.trans (.of_same (by rfl)) (takeSealChar_sound _ _ _)
    · exact .refl s
  case sealInTimeout =>
    refine next_sound h (whenDue_sound ?_)
    split
    · exact .refl s
    · exact StaysSound.trans (.of_same (by rfl)) (raiseNotice_sound _ _)
  case strokeDoneRise =>
    refine next_sound h (StaysSound.trans (.of_same (by rfl)) (whenRunning_sound ?_))
    split
    · next hb _ => exact completeStroke_sound hb
    · exact .refl _
  case strokeTimerExpiry =>
    refine next_sound h (whenDue_sound ?_)
    split
    · next hb _ => exact failStroke_sound hb
    · exact .refl s
  case batchClockTick | lampClockTick => exact next_sound h (whenDue_sound (.of_same (by rfl)))
  all_goals exact next_sound h (receiveKind_sound _ _ _ s)

theorem step_sound {s t : State} (h : step s = .next t) : StaysSound s t := by
  unfold step at h
  split at h
  · exact next_sound h (tick_sound s)
  · exact StaysSound.trans (.of_same (by rfl)) (exec_sound h)

/-- Settles O60: each operation of a step stays sound, and so does their composition. -/
theorem runsStaySound : Obligations.RunsStaySound :=
  ⟨fun _ _ hm h => (step_sound h).markers hm, fun _ _ hk h => (step_sound h).kept hk,
    fun _ _ hr h => (step_sound h).running hr⟩

end Sys2Proof.Machine
end

section
/-! SUPPORT. Resets, the tick and the clocks: what a reset holds off, what its end restores, and which expiries a tick
queues (R1, R91, R102, R171). -/

namespace Sys2Proof.Machine

/-! ### A station that runs, and one that a reset holds -/

theorem whenRunning_running {f : State → State} {s : State} (h : s.phase = .running) : whenRunning f s = f s :=
  if_pos h

theorem whenRunning_held {f : State → State} {s : State} (h : s.phase ≠ .running) : whenRunning f s = s := if_neg h

theorem whenDue_held {timer : State → Option Stamp} {f : State → State} {s : State} (h : s.phase ≠ .running) :
    whenDue timer f s = s := whenRunning_held h

/-- The second state differs from the first in the levels of the pins alone, and not in the straps (log 16). -/
def PinsOnly (s t : State) : Prop := t = { s with pins := t.pins } ∧ t.pins.straps = s.pins.straps

theorem PinsOnly.refl (s : State) : PinsOnly s s := ⟨rfl, rfl⟩

/-- A new level of a pin. -/
theorem pinsOnly_level (s : State) (present mutHigh strokeDone : Bool) :
    PinsOnly s { s with pins := ⟨s.pins.straps, present, mutHigh, strokeDone⟩ } := ⟨rfl, rfl⟩

theorem PinsOnly.whenRunning {f : State → State} {s t : State} (h : PinsOnly s t) (hp : t.phase ≠ .running) :
    PinsOnly s (whenRunning f t) := by rwa [whenRunning_held hp]

theorem PinsOnly.whenDue {timer : State → Option Stamp} {f : State → State} {s t : State} (h : PinsOnly s t)
    (hp : t.phase ≠ .running) : PinsOnly s (whenDue timer f t) := by rwa [whenDue_held hp]

/-- Settles O3: outside RUNNING every row but those of the resets is guarded by `whenRunning`. -/
theorem heldStationTakesPinsOnly : Obligations.HeldStationTakesPinsOnly := by
  intro i s hp hpower hpin hend
  have hs := PinsOnly.refl s
  cases i
  case powerOnReset => exact absurd rfl hpower
  case pinReset => exact absurd rfl hpin
  case resetEnd straps present midFrame => exact absurd rfl (hend straps present midFrame)
  case presentFall =>
    refine ⟨_, rfl, ?_⟩
    split
    · exact (pinsOnly_level s false s.pins.mutHigh s.pins.strokeDone).whenRunning hp
    · exact hs
  case presentRise =>
    refine ⟨_, rfl, ?_⟩
    split
    · exact hs
    · exact (pinsOnly_level s true s.pins.mutHigh s.pins.strokeDone).whenRunning hp
  case mutRisingEdge => exact ⟨_, rfl, (pinsOnly_level s s.pins.present true s.pins.strokeDone).whenRunning hp⟩
  case mutFallingEdge => exact ⟨_, rfl, (pinsOnly_level s s.pins.present false s.pins.strokeDone).whenRunning hp⟩
  case strokeDoneRise => exact ⟨_, rfl, (pinsOnly_level s s.pins.present s.pins.mutHigh true).whenRunning hp⟩
  case joinReceived b | claimReceived b | releaseReceived b | attemptSuccess b =>
    exact ⟨_, rfl, (pinsOnly_level s s.pins.present s.pins.mutHigh b).whenRunning hp⟩
  case agingExpiry b => exact ⟨_, rfl, (pinsOnly_level s s.pins.present s.pins.mutHigh b).whenDue hp⟩
  case graceExpiry => exact ⟨_, rfl, (hs.whenRunning hp).whenDue (by rwa [whenRunning_held hp])⟩
  case widthTimerExpiry | intervalTimerExpiry | delayedGateEvaluation | pointTimerExpiry | heartbeatExpiry
    | listenTimerExpiry | sealInTimeout | strokeTimerExpiry | batchClockTick | lampClockTick =>
    exact ⟨_, rfl, hs.whenDue hp⟩
  all_goals exact ⟨_, rfl, hs.whenRunning hp⟩

/-- Settles O4: the meanings of the two rows, and a tick that leaves a held station. -/
theorem resetTakesHold : Obligations.ResetTakesHold := by
  intro s
  refine ⟨rfl, fun h => ?_, fun h => ?_, fun h hq => ?_⟩
  · exact congrArg Host.Outcome.next (if_neg h)
  · exact congrArg Host.Outcome.next (if_pos h)
  · have htick : tick s = s := by rcases h with h | h <;> simp [tick, h]
    simp [step, hq, htick]

/-! ### The tick -/

/-- The commands with a condition that holds, in order. -/
theorem mem_filterMap_guard {α : Type} (l : List (Bool × α)) (a : α) :
    a ∈ l.filterMap (fun x => if x.1 then some x.2 else none) ↔ (true, a) ∈ l := by
  simp [List.mem_filterMap]

theorem filterMap_guard_sublist {α : Type} (l : List (Bool × α)) :
    (l.filterMap fun x => if x.1 then some x.2 else none).Sublist (l.map Prod.snd) := by
  induction l with
  | nil => exact .slnil
  | cons x l ih =>
    obtain ⟨b, a⟩ := x
    cases b
    · exact ih.cons a
    · exact ih.cons_cons a

theorem dueCommands_nodup (now : Stamp) (s : State) : (dueCommands now s).Nodup :=
  (filterMap_guard_sublist _).nodup (by simp)

/-- The evaluation of a gate falls due one tick after the stamp of the end marker that waits (R21). -/
theorem evaluationDue_eq_some {ec : ErrorComputer} {t : Stamp} : evaluationDue ec = some t ↔
    ∃ n m g b, ec = .gating n m g ∧ g.endMarker = some b ∧ b.t + 1 = t := by
  constructor
  · intro h
    unfold evaluationDue at h
    split at h
    · next n m a k o b => exact ⟨n, m, ⟨a, k, o, some b⟩, b, rfl, rfl, Option.some.inj h⟩
    · cases h
  · rintro ⟨n, m, ⟨a, k, o, e⟩, b, rfl, rfl, rfl⟩
    rfl

/-- Settles O2: a tick queues the rows of `dueCommands`, whose conditions are those of the timers. -/
theorem idleStationTicks : Obligations.IdleStationTicks := by
  intro s hq
  refine ⟨fun hp => ?_, fun hp => by simp [step, hq, tick, hp, advance]⟩
  have hstep : step s = .next { advance s with pending := dueCommands (s.fe.now + 1) s } := by
    simp [step, hq, tick, hp]
  refine ⟨_, hstep, rfl, dueCommands_nodup _ s, fun i hi => ?_, ?_⟩
  · have hmem := (filterMap_guard_sublist _).subset hi
    simpa using hmem
  · simp only [dueCommands, mem_filterMap_guard]
    simp [eq_comm (a := true), dueAt_iff, evaluationDue_eq_some, later]

/-! ### The end of a reset -/

theorem slotGet_replicate_none {α : Type} (p : Nat) : slotGet (Vector.replicate 32 (none : Option α)) p = none := by
  by_cases hp : p < 32 <;> simp [slotGet, hp]

theorem markGet_replicate_clean (p : Nat) : markGet (Vector.replicate 32 .clean) p = .clean := by
  by_cases hp : p < 32 <;> simp [markGet, hp]

theorem hasNotice_zero (n : Notice) : hasNotice 0 n = false := by simp [hasNotice]

/-- With no notice pending and the queue empty, a notice becomes pending and its NOTICE is the whole queue, if the mask
lets it in (R169). -/
theorem raiseNotice_first {n : Notice} {s : State} (hn : s.cmd.notices = 0) (hq : s.line.queue = []) :
    raiseNotice n s = { s with
      cmd := { s.cmd with notices := n.single }
      line := { s.line with
        queue := if hasNotice s.cmd.mask n then [newFrame s.fe.now (.notice n.single)] else [] } } := by
  have hset : withNotice 0 n = n.single := BitVec.zero_or
  unfold raiseNotice
  rw [hn, hasNotice_zero, hset]
  simp only [Bool.false_eq_true, if_false]
  split
  · simp [enqueue, queueFrame, admitFrame, hq, Config.queueCapacity]
  · rw [← hq]

/-- What the end of a reset leaves: with PRESENT low the notice of the condition and, under the mask, its NOTICE besides
the blocks' reset states (R11, R169, R171). -/
def resetEnded (straps : BitVec 6) (present midFrame : Bool) (s : State) : State :=
  let t := resetBlocks s.phase straps present midFrame s
  { t with
    cmd := { t.cmd with notices := if present then 0 else Notice.scannerAbsent.single }
    line := { t.line with queue := if present = false ∧ hasNotice t.cmd.mask .scannerAbsent = true then
      [newFrame 0 (.notice Notice.scannerAbsent.single)] else [] } }

theorem exec_resetEnd {straps : BitVec 6} {present midFrame : Bool} {s : State} (h : s.phase ≠ .running) :
    exec (.resetEnd straps present midFrame) s = .next (resetEnded straps present midFrame s) := by
  show Host.Outcome.next _ = _
  rw [if_neg h]
  cases present
  · refine congrArg Host.Outcome.next ((raiseNotice_first rfl rfl).trans ?_)
    simp [resetEnded, resetBlocks, FrontEnd.reset]
  · rfl

theorem joinCause_eq (p : Phase) :
    p.joinCause = if p = .command then .command else if p = .pin then .pin else .power := by
  cases p <;> rfl

theorem listenTimer_reset (straps : BitVec 6) (cause : JoinCause) (midFrame : Bool) :
    (LineController.reset straps cause midFrame).listenTimer =
      if 1 ≤ straps.toNat ∧ straps.toNat ≤ 60 then some 100000000#48 else none := by
  simp [LineController.reset, validNumber, Config.second]

/-- The absence timer of a reset that ends with PRESENT low (R11). -/
theorem resetAbsence_low (grace : Nat) : resetAbsence false grace =
    if grace = 0 then none else some ⟨0, BitVec.ofNat 48 (grace * 100000000)⟩ := by
  simp [resetAbsence, startAbsence, later, Config.second]

/-- Settles O5: every block of `resetEnded`, field by field. -/
theorem resetEndRestores : Obligations.ResetEndRestores := by
  intro straps present midFrame s
  refine ⟨fun h => congrArg Host.Outcome.next (if_pos h), fun h => ⟨_, exec_resetEnd h, ?_⟩⟩
  have hslots : ∀ p < 32,
      slotGet (resetEnded straps present midFrame s).plan.staged p = none ∧
      slotGet (resetEnded straps present midFrame s).plan.active p = none ∧
      markGet (resetEnded straps present midFrame s).plan.marks p = .clean := fun p _ =>
    ⟨slotGet_replicate_none p, slotGet_replicate_none p, markGet_replicate_clean p⟩
  refine ⟨rfl, rfl, rfl, rfl, rfl, rfl, rfl, rfl, rfl, fun hp => ?_, fun hp => ?_, rfl, rfl, hslots, rfl, rfl, rfl, rfl,
    rfl, fun p _ => slotGet_replicate_none p, rfl, rfl, rfl, rfl, fun p _ => slotGet_replicate_none p, rfl, rfl, rfl,
    rfl, rfl, rfl, rfl, rfl, rfl, rfl, rfl, rfl, rfl, ?_, rfl, rfl, fun hc => ?_, fun hc => ?_⟩
  · subst hp; rfl
  · subst hp; exact resetAbsence_low _
  · rw [← joinCause_eq, ← listenTimer_reset straps s.phase.joinCause midFrame]; rfl
  · simp [resetEnded, resetBlocks, hc, CommandHandler.reset, SealUnit.reset]
  · simp [resetEnded, resetBlocks, hc, CommandHandler.reset, SealUnit.reset]

/-- Settles O6: the values are those of `State.reset`. -/
theorem resetStateValues : Obligations.ResetStateValues := by
  unfold Obligations.ResetStateValues
  decide

/-- Settles O7: at `State.reset` queues and lists are empty and no run is open. -/
theorem resetKeepsBounds : Obligations.ResetKeepsBounds :=
  ⟨by decide, by decide, by decide, by decide, ⟨by decide, fun _ he => nomatch he⟩, by decide, by decide,
    fun _ hx => nomatch hx⟩

/-! ### Clocks -/

/-- Settles O11: the effect of each timer's row where it falls due, and none where it does not. -/
theorem timersOfNoOtherEffect : Obligations.TimersOfNoOtherEffect := by
  intro s hp
  refine ⟨fun h => ?_, fun h => ?_, fun n h => ?_, fun h => ?_, fun h => ?_, fun h => ?_, ?_⟩
  · exact congrArg Host.Outcome.next (whenDue_due hp h)
  · exact congrArg Host.Outcome.next (whenDue_not_due h)
  · have hdue : s.meter.clock.map BatchClock.nextAt = some s.fe.now := by rw [h]; rfl
    refine congrArg Host.Outcome.next ((whenDue_due hp hdue).trans ?_)
    rw [h]; rfl
  · refine congrArg Host.Outcome.next (whenDue_not_due fun hdue => ?_)
    obtain ⟨c, hc, hnow⟩ := Option.map_eq_some_iff.1 hdue
    exact h c.seconds (by rw [hc, ← hnow])
  · exact congrArg Host.Outcome.next ((whenDue_due hp (congrArg some h)).trans (by rw [← h]; rfl))
  · exact congrArg Host.Outcome.next (whenDue_not_due fun hdue => h (Option.some.inj hdue))
  · exact congrArg Host.Outcome.next (whenRunning_running hp)

end Sys2Proof.Machine
end

section
/-! SUPPORT. What queuing and evaluating remember: the point records and the notices that are pending; and what a close
leaves (R69, R71, R169). -/

namespace Sys2Proof.Machine

/-! ### Notices -/

theorem hasNotice_withNotice (set : BitVec 10) (n k : Notice) :
    hasNotice (withNotice set n) k = (hasNotice set k || n == k) := by
  have hbit : n.single.getLsbD k.bit = (n == k) := by cases n <;> cases k <;> decide
  simp [hasNotice, withNotice, hbit]

/-- The second state holds the point records of the first, and every notice that was pending in it. -/
structure Remembers (s t : State) : Prop where
  records : t.meter.records = s.meter.records
  notices : ∀ n, hasNotice s.cmd.notices n = true → hasNotice t.cmd.notices n = true

namespace Remembers

theorem refl (s : State) : Remembers s s := ⟨rfl, fun _ h => h⟩

theorem trans {s t u : State} (h : Remembers s t) (k : Remembers t u) : Remembers s u :=
  ⟨k.records.trans h.records, fun n hn => k.notices n (h.notices n hn)⟩

theorem of_same {s t : State} (hr : t.meter.records = s.meter.records) (hn : t.cmd.notices = s.cmd.notices) :
    Remembers s t := ⟨hr, fun n h => by rwa [hn]⟩

/-- A notice made pending. -/
theorem of_raised {s t : State} {n : Notice} (hr : t.meter.records = s.meter.records)
    (hn : t.cmd.notices = withNotice s.cmd.notices n) : Remembers s t :=
  ⟨hr, fun k h => by rw [hn, hasNotice_withNotice, h, Bool.true_or]⟩

end Remembers

theorem raiseTxDropped_remembers (s : State) : Remembers s (raiseTxDropped s) := by
  unfold raiseTxDropped
  split
  · exact .refl s
  · dsimp only
    split <;> exact .of_raised rfl rfl

theorem evaluateRecord_remembers (s : State) : Remembers s (evaluateRecord s) := by
  unfold evaluateRecord
  split
  · exact .of_same rfl rfl
  · exact .refl s

theorem tellOwner_remembers (m : TxMsg) (s : State) : Remembers s (tellOwner m s) := by
  unfold tellOwner
  split
  · split
    · exact Remembers.trans (.of_same (by rfl) (by rfl)) (evaluateRecord_remembers _)
    · exact .refl s
  · split
    · exact .of_same rfl rfl
    · exact .refl s
  · exact .refl s

theorem frameLost_remembers (m : TxMsg) (s : State) : Remembers s (frameLost m s) :=
  (raiseTxDropped_remembers s).trans (tellOwner_remembers m _)

theorem enqueue_remembers (m : TxMsg) (s : State) : Remembers s (enqueue m s) := by
  unfold enqueue
  dsimp only
  split
  · exact Remembers.trans (.of_same (by rfl) (by rfl)) (frameLost_remembers _ _)
  · exact .of_same rfl rfl

theorem raiseNotice_remembers (n : Notice) (s : State) : Remembers s (raiseNotice n s) := by
  unfold raiseNotice
  split
  · exact .refl s
  · dsimp only
    split
    · exact Remembers.trans (.of_raised (n := n) (by rfl) (by rfl)) (enqueue_remembers _ _)
    · exact .of_raised rfl rfl

/-- A notice is pending once it is raised, whatever the queuing of its NOTICE does (R169). -/
theorem raiseNotice_raises (n : Notice) (s : State) : hasNotice (raiseNotice n s).cmd.notices n = true := by
  have hset : hasNotice (withNotice s.cmd.notices n) n = true := by simp [hasNotice_withNotice]
  unfold raiseNotice
  split
  · assumption
  · dsimp only
    split
    · exact (enqueue_remembers _ _).notices n hset
    · exact hset

theorem sealCheck_remembers (t : Text) (s : State) : Remembers s (sealCheck t s) := by
  unfold sealCheck
  split
  · exact (raiseNotice_remembers _ s).trans (.of_same rfl rfl)
  · exact Remembers.trans (.of_same (by rfl) (by rfl)) (enqueue_remembers _ _)

theorem checkHeld_remembers (s : State) : Remembers s (checkHeld s) := by
  unfold checkHeld
  split
  · split
    · exact sealCheck_remembers _ s
    · exact .refl s
  · exact .refl s

theorem evaluate_remembers (s : State) : Remembers s (evaluate s) := by
  unfold evaluate
  dsimp only
  split
  · exact (evaluateRecord_remembers s).trans (checkHeld_remembers _)
  · exact evaluateRecord_remembers s

/-! ### A close -/

/-- Disarming reaches the error computer and the marker queue alone: outside IDLE both are emptied (R19). -/
theorem disarm_fields (s : State) : (disarm s).ec = .idle ∧
    (disarm s).trk = { s.trk with queue := if s.ec = .idle then s.trk.queue else [] } ∧
    (disarm s).run = s.run ∧ (disarm s).pins = s.pins ∧ (disarm s).meter = s.meter ∧ (disarm s).cmd = s.cmd := by
  unfold disarm
  split <;> simp_all

/-- What a close of run x leaves: no open run, the standing, the record, the error computer of a run that is not of kind
ACCURACY, and the notices that were pending (R69, R71). -/
structure RunClosed (c : CloseCause) (x : Run) (s t : State) : Prop where
  keeps : ClosingKeeps s t
  run : t.run = { s.run with run := none, standing := .closed x.p x.r }
  record : x.p < 32 → slotGet t.meter.records x.p = some (closeRecord c s.pins.present s.trk.count x)
  disarmed : x.kind = .accuracy → t.ec = .idle ∧
    t.trk = { s.trk with queue := if s.ec = .idle then s.trk.queue else [] }
  spared : x.kind ≠ .accuracy → t.ec = s.ec ∧ t.trk = s.trk
  notices : ∀ n, hasNotice s.cmd.notices n = true → hasNotice t.cmd.notices n = true

theorem QueuingKeeps.runner_eq {s t : State} (h : QueuingKeeps s t) : t.run = s.run ∧ t.ec = s.ec ∧ t.trk = s.trk := by
  have hblocks := h.blocks
  unfold QueuingOnly at hblocks
  rw [hblocks]
  exact ⟨rfl, rfl, rfl⟩

theorem ClosingKeeps.setup {s t : State} (h : ClosingKeeps s t) : t.cmd.setup = s.cmd.setup := by
  obtain ⟨_, _, _, _, h⟩ := h
  exact h.setup

/-- The state in which a close writes its record: no run is open, and the error computer of an ACCURACY run is
disarmed (R69). -/
def runRemoved (x : Run) (s : State) : State :=
  let s := { s with run := { s.run with run := none, standing := .closed x.p x.r } }
  if x.kind = .accuracy then disarm s else s

theorem runRemoved_fields (x : Run) (s : State) :
    (runRemoved x s).run = { s.run with run := none, standing := .closed x.p x.r } ∧ (runRemoved x s).pins = s.pins ∧
      (runRemoved x s).meter = s.meter ∧ (runRemoved x s).cmd = s.cmd ∧
      (x.kind = .accuracy → (runRemoved x s).ec = .idle ∧
        (runRemoved x s).trk = { s.trk with queue := if s.ec = .idle then s.trk.queue else [] }) ∧
      (x.kind ≠ .accuracy → (runRemoved x s).ec = s.ec ∧ (runRemoved x s).trk = s.trk) ∧
      (runRemoved x s).trk.count = s.trk.count := by
  unfold runRemoved
  dsimp only
  split
  · next h =>
    obtain ⟨hec, htrk, hrun, hpins, hmeter, hcmd⟩ := disarm_fields
      { s with run := { s.run with run := none, standing := .closed x.p x.r } }
    exact ⟨hrun, hpins, hmeter, hcmd, fun _ => ⟨hec, htrk⟩, fun hn => absurd h hn, by rw [htrk]⟩
  · next h => simp [h]

theorem closeRun_closed {c : CloseCause} {x : Run} {s : State} (hx : s.run.run = some x) :
    RunClosed c x s (closeRun c s) := by
  obtain ⟨hrun, hpins, hmeter, hcmd, hacc, hother, hcount⟩ := runRemoved_fields x s
  let rec_ := closeRecord c (runRemoved x s).pins.present (runRemoved x s).trk.count x
  let written := writeRecord rec_ (runRemoved x s)
  let told := if c = .scanner then enqueue (.progress x.p x.r .withdrawn .running) written else written
  have hclose : closeRun c s = evaluate (enqueue (resultOf rec_) told) := by
    simp only [closeRun, hx]
    rfl
  have htold : QueuingKeeps written told ∧ Remembers written told := by
    by_cases hc : c = .scanner
    · simpa only [told, if_pos hc] using ⟨enqueue_keeps _ written, enqueue_remembers _ written⟩
    · simpa only [told, if_neg hc] using ⟨QueuingKeeps.refl written, Remembers.refl written⟩
  have hkeeps : QueuingKeeps written (closeRun c s) := by
    rw [hclose]; exact (htold.1.trans (enqueue_keeps _ _)).trans (evaluate_keeps _)
  have hremembers : Remembers written (closeRun c s) := by
    rw [hclose]; exact (htold.2.trans (enqueue_remembers _ _)).trans (evaluate_remembers _)
  obtain ⟨hrun', hec, htrk⟩ := hkeeps.runner_eq
  have hp : rec_.p = x.p := by
    simp only [rec_, closeRecord]; cases x.kind <;> rfl
  refine ⟨closeRun_closing c s, hrun'.trans hrun, fun hp32 => ?_, fun h => ?_, fun h => ?_, fun n hn => ?_⟩
  · rw [hremembers.records]
    show slotGet (slotSet _ rec_.p (some rec_)) x.p = _
    rw [hp, slotGet_slotSet_same _ hp32]
    simp only [rec_, hpins, hcount]
  · rw [hec, htrk]; exact hacc h
  · rw [hec, htrk]; exact hother h
  · exact hremembers.notices n (by rw [writeRecord_cmd, hcmd]; exact hn)

end Sys2Proof.Machine
end

section
/-! SUPPORT. The pulse inputs: reference edges, MUT edges that do not qualify, and PRESENT (R3 to R12, R23). -/

namespace Sys2Proof.Machine

/-! ### REF -/

theorem refCounted_iff {s : State} :
    refCounted s = true ↔ ∀ l, s.trk.last = some l → 40 ≤ elapsed s.fe.now l := by
  unfold refCounted
  split
  · next l hl =>
    rw [decide_eq_true_eq, hl]
    exact ⟨fun h k hk => Option.some.inj hk ▸ h, fun h => h l rfl⟩
  · next hn => simp [hn]

theorem exec_refRisingEdge_counted {s : State} (hp : s.phase = .running) (h : refCounted s = true) :
    exec .refRisingEdge s = .next (countRef s) :=
  congrArg Host.Outcome.next ((whenRunning_running hp).trans (if_pos h))

theorem exec_refRisingEdge_refused {s : State} (hp : s.phase = .running) (h : refCounted s = false) :
    exec .refRisingEdge s =
      .next (raiseNotice .inputOverrate { s with trk := { s.trk with overrate := true } }) :=
  congrArg Host.Outcome.next ((whenRunning_running hp).trans (if_neg (by simp [h])))

/-- Of markers that all wait, a counted edge leaves those of its own tick, with the edge as their last one (R14). -/
theorem fillQueue_of_waiting (e : Stamp) {q : List Marker} (hq : ∀ m ∈ q, m.rNext = none) :
    fillQueue e q = (q.filter fun m => m.t == e).map fun m => { m with c := m.c + 1, rPrev := some e } := by
  induction q with
  | nil => rfl
  | cons m q ih =>
    have hm : m.rNext = none := hq m (by simp)
    have htail := ih fun x hx => hq x (by simp [hx])
    unfold fillQueue at htail ⊢
    by_cases ht : m.t = e <;> simp [fillMarker, hm, ht, htail]

/-- Settles O8: a counted edge is `countRef`, which fills snapshot, markers and gate one by one; a refused one raises
INPUT_OVERRATE. -/
theorem refEdgeCountedOrRefused : Obligations.RefEdgeCountedOrRefused := by
  intro s hp
  refine ⟨fun h => ?_, fun l hl hgap => ?_⟩
  · refine ⟨_, exec_refRisingEdge_counted hp (refCounted_iff.2 h), rfl, rfl, rfl, rfl,
      fun hw => fillQueue_of_waiting _ hw.2, fun x hx ht => ?_, fun x hx ht hr => ?_, fun x r hx ht hr => ?_,
      fun hx => ?_, fun n m k o a hec ht hr => ?_⟩
    · simp [countRef, hx, fillSnapshot, ht]
    · simp [countRef, hx, fillSnapshot, ht, hr]
    · simp [countRef, hx, fillSnapshot, ht, hr]
    · simp [countRef, hx]
    · simp [countRef, hec, fillErrorComputer, fillGate, fillMarker, ht, hr]
  · have hrefused : refCounted s = false := by
      rw [← Bool.not_eq_true, refCounted_iff]
      intro h
      have := h l hl
      omega
    have hkeeps := raiseNotice_keeps .inputOverrate { s with trk := { s.trk with overrate := true } }
    exact ⟨_, exec_refRisingEdge_refused hp hrefused, by simp, by simp, by simp, by simp, by simp, by simp, by simp,
      by simp, hkeeps.setup, raiseNotice_raises _ _⟩

/-! ### MUT -/

theorem exec_mutRisingEdge {s : State} (hp : s.phase = .running) :
    exec .mutRisingEdge s = .next (mutRise { s with pins := { s.pins with mutHigh := true } }) :=
  congrArg Host.Outcome.next (whenRunning_running hp)

theorem exec_mutFallingEdge {s : State} (hp : s.phase = .running) :
    exec .mutFallingEdge s = .next (mutFall { s with pins := { s.pins with mutHigh := false } }) :=
  congrArg Host.Outcome.next (whenRunning_running hp)

/-- The interval test passes with no edge qualified, or the interval timer stopped (R6). -/
theorem intervalPassed_of_none {s : State} (h : s.fe.intervalTimer = none ∨ s.fe.lastQualified = none) :
    intervalPassed s = true := by
  unfold intervalPassed
  split
  · simp_all
  · rfl

theorem elapsed_add_ofNat (q : Stamp) {m : Nat} (hm : m < 2 ^ 48) : elapsed (q + BitVec.ofNat 48 m) q = m := by
  have hsub : q + BitVec.ofNat 48 m - q = BitVec.ofNat 48 m := add_sub_cancel_left q _
  simp only [elapsed, hsub, BitVec.toNat_ofNat, Nat.mod_eq_of_lt hm]

/-- Settles O9: the branches of `mutRise` and `mutFall` that qualify no edge. -/
theorem pendingEdgeMadeAndDropped : Obligations.PendingEdgeMadeAndDropped := by
  intro s hp
  rw [exec_mutRisingEdge hp, exec_mutFallingEdge hp]
  refine ⟨fun h => ?_, fun hpresent hpassed hwidth => ?_, intervalPassed_of_none, fun q m hq hm ht => ?_,
    fun h => ?_, fun x hx hearly => ?_⟩
  · have hignored : ¬ (s.pins.present && intervalPassed s) = true := by
      rcases h with h | h <;> simp [h]
    exact congrArg Host.Outcome.next (if_neg hignored)
  · have hpending : ¬ s.cmd.setup.mutWidth * 1000 = 0 := by omega
    have htaken : (s.pins.present && intervalPassed s) = true := by simp [hpresent, hpassed]
    exact congrArg Host.Outcome.next ((if_pos htaken).trans (if_neg hpending))
  · simp only [intervalPassed, ht, hq, elapsed_add_ofNat q hm, decide_eq_true_eq]
    rfl
  · simp [mutFall, h]
  · simp [mutFall, hx, hearly]

/-! ### PRESENT -/

/-- The state in which a fall of PRESENT raises its notice: no edge, no qualification, and the absence timer (R10,
R11). -/
def headLost (s : State) : State := { s with
  pins := { s.pins with present := false }
  fe := ⟨s.fe.now, none, none, none, true, startAbsence s.fe.now s.cmd.setup.scannerGrace, none⟩ }

/-- The state that a fall of PRESENT leaves under a grace above 0 (R11, R23). -/
def headAbsent (s : State) : State := scannerLoss (raiseNotice .scannerAbsent (headLost s))

theorem exec_presentFall {s : State} (hp : s.phase = .running) (h : s.pins.present = true) :
    exec .presentFall s =
      .next (if s.cmd.setup.scannerGrace = 0 then graceExpires (headAbsent s) else headAbsent s) := by
  have hsetup : (headAbsent s).cmd.setup = s.cmd.setup :=
    ((raiseNotice_keeps _ _).closing.trans (scannerLoss_closing _)).setup
  show Host.Outcome.next _ = _
  rw [if_pos h, ← hsetup]
  exact congrArg Host.Outcome.next (whenRunning_running hp)

/-- Scanner loss reaches the error computer and the marker queue alone: a gate is discarded, outside IDLE the error
computer stays armed and no marker waits (R23). -/
theorem scannerLoss_fields (s : State) : (scannerLoss s).pins = s.pins ∧ (scannerLoss s).fe = s.fe ∧
    (scannerLoss s).run = s.run ∧ (scannerLoss s).cmd = s.cmd ∧ (scannerLoss s).trk.count = s.trk.count ∧
    (scannerLoss s).trk.last = s.trk.last ∧ (s.ec ≠ .idle → (scannerLoss s).trk.queue = []) ∧
    (∀ n m g, s.ec = .gating n m g → (scannerLoss s).ec = .armed n m) := by
  unfold scannerLoss
  split <;> simp_all

theorem exec_presentRise {s : State} (hp : s.phase = .running) (h : s.pins.present = false) :
    exec .presentRise s = .next (presentRises { s with pins := { s.pins with present := true } }) := by
  show Host.Outcome.next _ = _
  rw [if_neg (by simp [h])]
  exact congrArg Host.Outcome.next (whenRunning_running hp)

/-- A close keeps the notices that are pending, and an empty marker queue. -/
theorem closeRun_leaves (c : CloseCause) (s : State) :
    (∀ n, hasNotice s.cmd.notices n = true → hasNotice (closeRun c s).cmd.notices n = true) ∧
      (s.trk.queue = [] → (closeRun c s).trk.queue = []) := by
  cases hx : s.run.run with
  | none => simp [closeRun, hx]
  | some x =>
    have hclosed := closeRun_closed (c := c) hx
    refine ⟨hclosed.notices, fun hq => ?_⟩
    by_cases hk : x.kind = .accuracy
    · simp [(hclosed.disarmed hk).2, hq]
    · rw [(hclosed.spared hk).2, hq]

/-- What a fall of PRESENT leaves before the point runner is told (R10, R11, R23). -/
theorem headAbsent_fields (s : State) : (headAbsent s).pins = { s.pins with present := false } ∧
    (headAbsent s).fe = ⟨s.fe.now, none, none, none, true, startAbsence s.fe.now s.cmd.setup.scannerGrace, none⟩ ∧
    hasNotice (headAbsent s).cmd.notices .scannerAbsent = true ∧ (headAbsent s).trk.count = s.trk.count ∧
    (headAbsent s).trk.last = s.trk.last ∧ (s.ec ≠ .idle → (headAbsent s).trk.queue = []) ∧
    (headAbsent s).run = s.run ∧ ∀ n m g, s.ec = .gating n m g → (headAbsent s).ec = .armed n m := by
  obtain ⟨hpins, hfe, hrun, hcmd, hcount, hlast, hqueue, hec⟩ :=
    scannerLoss_fields (raiseNotice .scannerAbsent (headLost s))
  simp only [raiseNotice_pins, raiseNotice_fe, raiseNotice_run, raiseNotice_trk, raiseNotice_ec] at *
  exact ⟨hpins, hfe, by unfold headAbsent; rw [hcmd]; exact raiseNotice_raises _ _, hcount, hlast, hqueue, hrun, hec⟩

/-- Settles O12: under a grace above 0 the fall leaves `headAbsent`; under a grace of 0 the run closes on top of it. -/
theorem presenceIsFollowed : Obligations.PresenceIsFollowed := by
  intro s hp
  refine ⟨fun h => ?_, fun h => ⟨?_, exec_presentRise hp h⟩, fun h => congrArg Host.Outcome.next (if_pos h)⟩
  · obtain ⟨hpins, hfe, hnotice, hcount, hlast, hqueue, hrun, hec⟩ := headAbsent_fields s
    refine ⟨_, exec_presentFall hp h, ?_⟩
    by_cases hgrace : s.cmd.setup.scannerGrace = 0
    · rw [if_pos hgrace, if_pos hgrace]
      have hkeeps := closeRun_closing .scanner
        { headAbsent s with fe := { (headAbsent s).fe with absenceTimer := none } }
      obtain ⟨hnotices, hempty⟩ := closeRun_leaves .scanner
        { headAbsent s with fe := { (headAbsent s).fe with absenceTimer := none } }
      obtain ⟨hpins', -, hfe', hcount', hlast', -⟩ := hkeeps.fields
      exact ⟨hpins'.trans hpins, hfe'.trans (by rw [hfe]), hnotices _ hnotice, hcount'.trans hcount,
        hlast'.trans hlast, fun hn => hempty (hqueue hn), fun hn => absurd hgrace hn, fun _ => closeRun_run _ _⟩
    · rw [if_neg hgrace, if_neg hgrace]
      refine ⟨hpins, hfe.trans ?_, hnotice, hcount, hlast, hqueue, fun _ => ⟨hrun, hec⟩, fun h0 => absurd h0 hgrace⟩
      rw [startAbsence, if_neg hgrace]
      rfl
  · exact congrArg Host.Outcome.next (if_neg (by simp [h]))

end Sys2Proof.Machine
end

section
/-! SUPPORT. What a marker does at the error computer and what a qualified edge does at a window run (R20 to R24, R77,
R78). -/

namespace Sys2Proof.Machine

/-! ### Completion -/

/-- The completion test leaves the state, or closes the open run by completion (R67). -/
theorem completionTest_cases {x : Run} {s : State} (hx : s.run.run = some x) :
    completionTest s = s ∨ RunClosed .completion x s (completionTest s) := by
  simp only [completionTest, hx]
  split
  · exact .inr (closeRun_closed hx)
  · exact .inl rfl

/-- The run that reporting leaves open, beside the queue alone (R55). -/
theorem reportProgress_fields (x : Run) (v : Progress) (s : State) :
    (reportProgress x v s).run = { s.run with run := some { x with progress := v } } ∧
      (reportProgress x v s).ec = s.ec ∧ (reportProgress x v s).trk = s.trk ∧ (reportProgress x v s).fe = s.fe ∧
      (reportProgress x v s).pins = s.pins ∧ (reportProgress x v s).roster = s.roster := by
  simp [reportProgress, queueProgress]

/-! ### Results -/

/-- The second state has the error computer and the tracker of the first, or is that of a completed ACCURACY run x,
whose error computer is disarmed. -/
def HoldsOrCompletes (x : Run) (s t : State) : Prop :=
  (t.ec = s.ec ∧ t.trk = s.trk) ∨
    (t.run.run = none ∧ t.run.standing = .closed x.p x.r ∧ t.ec = .idle ∧ (s.ec ≠ .idle → t.trk.queue = []))

/-- The completion test of an ACCURACY run, from a state that differs in the run and the queue (R67). -/
theorem completionTest_holdsOrCompletes {x y : Run} {s t : State} (hy : t.run.run = some y) (hk : y.kind = .accuracy)
    (hp : y.p = x.p) (hr : y.r = x.r) (hec : t.ec = s.ec) (htrk : t.trk = s.trk) :
    HoldsOrCompletes x s (completionTest t) := by
  rcases completionTest_cases hy with h | h
  · rw [h]; exact .inl ⟨hec, htrk⟩
  · obtain ⟨hidle, hqueue⟩ := h.disarmed hk
    refine .inr ⟨by rw [h.run], by rw [h.run, hp, hr], hidle, fun hn => ?_⟩
    rw [hqueue, if_neg (hec ▸ hn)]

theorem settlementTest_holdsOrCompletes {x y : Run} {s t : State} (hy : t.run.run = some y) (hk : y.kind = .accuracy)
    (hp : y.p = x.p) (hr : y.r = x.r) (hec : t.ec = s.ec) (htrk : t.trk = s.trk) :
    HoldsOrCompletes x s (settlementTest t) := by
  simp only [settlementTest, hy]
  split
  · obtain ⟨hrun, hec', htrk', -⟩ := reportProgress_fields { y with state := .settled } .settled t
    exact completionTest_holdsOrCompletes (congrArg PointRunner.run hrun) hk hp hr (hec'.trans hec) (htrk'.trans htrk)
  · obtain ⟨-, hec', htrk', -⟩ := reportProgress_fields { y with state := .measuring } .measuring t
    exact .inl ⟨hec'.trans hec, htrk'.trans htrk⟩
  · exact .inl ⟨hec, htrk⟩

/-- A result kept and offered to the stream leaves the run open, with its index and number (R60, R62). -/
theorem keepAndOffer_run (q : GateResult) (x : Run) (e : KeptEntry) (s : State) :
    ∃ y, (if s.cmd.setup.streaming then offerMeasurement (keepResult q x) e s else setRun (keepResult q x) s).run.run =
        some y ∧ y.kind = x.kind ∧ y.p = x.p ∧ y.r = x.r := by
  unfold offerMeasurement
  split
  · split
    · exact ⟨_, rfl, rfl, rfl, rfl⟩
    · exact ⟨keepResult q x, by simp, rfl, rfl, rfl⟩
  · exact ⟨_, rfl, rfl, rfl, rfl⟩

theorem keepAndOffer_fields (x : Run) (e : KeptEntry) (s : State) :
    (if s.cmd.setup.streaming then offerMeasurement x e s else setRun x s).ec = s.ec ∧
      (if s.cmd.setup.streaming then offerMeasurement x e s else setRun x s).trk = s.trk := by
  unfold offerMeasurement
  split
  · split <;> simp
  · simp

/-- A result reaches the error computer and the tracker only by completing the ACCURACY run that takes it (R59 to
R67). -/
theorem takeResult_cases (q : GateResult) (s : State) :
    ((takeResult q s).ec = s.ec ∧ (takeResult q s).trk = s.trk) ∨
      ∃ x, s.run.run = some x ∧ x.kind = .accuracy ∧ HoldsOrCompletes x s (takeResult q s) := by
  unfold takeResult
  split
  · exact .inl ⟨rfl, rfl⟩
  · next x hx =>
    split
    · next hk =>
      have hkeep : ∀ e, HoldsOrCompletes x s (settlementTest (if s.cmd.setup.streaming then
          offerMeasurement (keepResult q x) e s else setRun (keepResult q x) s)) := fun e => by
        obtain ⟨y, hy, hky, hp, hr⟩ := keepAndOffer_run q x e s
        obtain ⟨hec, htrk⟩ := keepAndOffer_fields (keepResult q x) e s
        exact settlementTest_holdsOrCompletes hy (hky.trans hk) hp hr hec htrk
      split
      · exact .inl ⟨rfl, rfl⟩
      · exact .inr ⟨x, hx, hk, hkeep _⟩
      · exact .inr ⟨x, hx, hk, hkeep _⟩
      all_goals exact .inl ⟨rfl, rfl⟩
    · exact .inl ⟨rfl, rfl⟩

/-- A run that takes no result: none is open, or a window run counts or has decided (R59). -/
def TakesNoResult (s : State) : Prop := ∀ x, s.run.run = some x → x.state = .counting ∨ x.state = .decided

theorem takeResult_of_none {q : GateResult} {s : State} (h : TakesNoResult s) : takeResult q s = s := by
  unfold takeResult
  split
  · rfl
  · next x hx =>
    split
    · rcases h x hx with hs | hs <;> rw [hs]
    · rfl

/-! ### Markers at the error computer -/

section Gating

variable {m : Marker} {n r : Nat} {g : Gate} {s : State}

theorem takeMarker_idle {void : Bool} (h : s.ec = .idle) : takeMarker m void s = s := by
  simp [takeMarker, h]

theorem takeMarker_armed {void : Bool} (h : s.ec = .armed n r) :
    takeMarker m void s = { s with ec := .gating n r (freshGate m) } := by
  simp [takeMarker, h]

theorem takeMarker_void (h : s.ec = .gating n r g) :
    takeMarker m true s = { s with ec := .gating n r (freshGate m) } := by
  simp [takeMarker, h]

theorem takeMarker_waiting (h : s.ec = .gating n r g) (hend : g.endMarker.isSome = true) :
    takeMarker m false s = s := by
  simp [takeMarker, h, hend]

theorem takeMarker_counted (h : s.ec = .gating n r g) (hend : g.endMarker = none) (hk : g.k + 1 < n) :
    takeMarker m false s =
      { s with ec := .gating n r { g with k := g.k + 1, overrate := g.overrate || m.overrate } } := by
  simp [takeMarker, h, hend, hk]

theorem takeMarker_ends_now (h : s.ec = .gating n r g) (hend : g.endMarker = none) (hk : n ≤ g.k + 1)
    (ht : m.t = s.fe.now) : takeMarker m false s = { s with
      ec := .gating n r { g with k := g.k + 1, overrate := g.overrate || m.overrate, endMarker := some m } } := by
  simp [takeMarker, h, hend, Nat.not_lt.2 hk, ht]

/-- An end marker that forms later than its own stamp is evaluated, and starts the next gate (R21, R22). -/
theorem takeMarker_ends_later (h : s.ec = .gating n r g) (hend : g.endMarker = none) (hk : n ≤ g.k + 1)
    (ht : m.t ≠ s.fe.now) : takeMarker m false s =
      takeResult (resultOfGate n r (g.overrate || m.overrate) g.a m s)
        { s with ec := .gating n r (freshGate m) } := by
  simp only [takeMarker, h, hend, Option.isSome_none, Bool.false_eq_true, if_false, if_neg (Nat.not_lt.2 hk), if_neg ht]
  rfl

end Gating

/-- A marker reaches what closing reaches. -/
theorem takeMarker_closing (m : Marker) (void : Bool) (s : State) : ClosingKeeps s (takeMarker m void s) := by
  have hec : ∀ e, ClosingKeeps s { s with ec := e } := fun e => ⟨s.run, e, s.trk.queue, rfl, .refl _⟩
  unfold takeMarker
  split
  · exact .refl s
  · exact hec _
  · split
    · exact hec _
    · split
      · exact .refl s
      · dsimp only
        split
        · exact hec _
        · split
          · exact hec _
          · exact (hec _).trans (evaluateGate_closing _)

/-- Where no result is taken, a marker reaches the error computer alone. -/
theorem takeMarker_of_none (m : Marker) (void : Bool) {s : State} (h : TakesNoResult s) :
    ∃ e, takeMarker m void s = { s with ec := e } := by
  have hgate : ∀ e, ∃ e', evaluateGate { s with ec := e } = { s with ec := e' } := fun e => by
    unfold evaluateGate
    split
    · exact ⟨_, takeResult_of_none h⟩
    · exact ⟨e, rfl⟩
  unfold takeMarker
  split
  · exact ⟨s.ec, rfl⟩
  · exact ⟨_, rfl⟩
  · split
    · exact ⟨_, rfl⟩
    · split
      · exact ⟨s.ec, rfl⟩
      · dsimp only
        split
        · exact ⟨_, rfl⟩
        · split
          · exact ⟨_, rfl⟩
          · exact hgate _

/-! ### Edges at a window run -/

/-- A run with an edge of stamp t counted (R77). -/
def countedPulse (t : Stamp) (x : Run) : Run := { x with
  pulses := x.pulses + 1
  firstOffset := if x.firstOffset.isSome then x.firstOffset else some (elapsed t x.openStamp) }

/-- A run decided (R78). -/
def decidedAs (o : Bool) (x : Run) : Run := { x with state := .decided, decided := some o }

section Pulse

variable {t : Stamp} {x : Run} {o : Bool} {s : State}

theorem countPulse_none (h : s.run.run = none) : countPulse t s = s := by simp [countPulse, h]

theorem countPulse_not_counting (hx : s.run.run = some x) (h : x.state ≠ .counting) : countPulse t s = s := by
  simp [countPulse, hx, h]

theorem countPulse_before (hx : s.run.run = some x) (h : atOrAfter s.fe.now t x.openStamp = false) :
    countPulse t s = s := by
  simp [countPulse, hx, h]

theorem countPulse_undecided (hx : s.run.run = some x) (hs : x.state = .counting)
    (ht : atOrAfter s.fe.now t x.openStamp = true) (hd : windowDecision (countedPulse t x) = none) :
    countPulse t s = setRun (countedPulse t x) s := by
  have hcounted : (x.state = .counting && atOrAfter s.fe.now t x.openStamp) = true := by simp [hs, ht]
  unfold countedPulse at hd ⊢
  simp only [countPulse, hx]
  rw [if_pos hcounted, hd]

theorem countPulse_decides (hx : s.run.run = some x) (hs : x.state = .counting)
    (ht : atOrAfter s.fe.now t x.openStamp = true) (hd : windowDecision (countedPulse t x) = some o) :
    countPulse t s =
      completionTest (reportProgress (decidedAs o (countedPulse t x)) .settled (restoreGrace s)) := by
  have hcounted : (x.state = .counting && atOrAfter s.fe.now t x.openStamp) = true := by simp [hs, ht]
  unfold countedPulse at hd ⊢
  simp only [countPulse, hx]
  rw [if_pos hcounted, hd]
  rfl

end Pulse

/-- A window run alone is decided by an edge (R78). -/
theorem windowDecision_kind {x : Run} {o : Bool} (h : windowDecision x = some o) : x.kind ≠ .accuracy := by
  unfold windowDecision at h
  unfold Run.kind
  cases hpoint : x.entry.point <;> simp_all [PointPart.kind]

/-- A qualified edge at a window run leaves the error computer, the tracker, and all of the front end but the grace
(R77, R78, R82). -/
theorem countPulse_leaves (t : Stamp) (s : State) :
    (countPulse t s).ec = s.ec ∧ (countPulse t s).trk = s.trk ∧ (countPulse t s).fe.edge = s.fe.edge ∧
      (countPulse t s).fe.lastQualified = s.fe.lastQualified ∧ (countPulse t s).fe.intervalTimer = s.fe.intervalTimer ∧
      (countPulse t s).plan = s.plan ∧ (countPulse t s).roster = s.roster ∧ (countPulse t s).xc = s.xc ∧
      (countPulse t s).sealRx = s.sealRx := by
  cases hx : s.run.run with
  | none => simp [countPulse_none hx]
  | some x =>
    by_cases hs : x.state = .counting
    · cases ht : atOrAfter s.fe.now t x.openStamp with
      | false => simp [countPulse_before hx ht]
      | true =>
        cases hd : windowDecision (countedPulse t x) with
        | none => simp [countPulse_undecided hx hs ht hd]
        | some o =>
          rw [countPulse_decides hx hs ht hd]
          have hkeeps := reportProgress_closing (decidedAs o (countedPulse t x)) .settled (restoreGrace s)
          obtain ⟨hrun, hec, htrk, hfe, -⟩ :=
            reportProgress_fields (decidedAs o (countedPulse t x)) .settled (restoreGrace s)
          generalize reportProgress (decidedAs o (countedPulse t x)) .settled (restoreGrace s) = u at *
          have hrun' : u.run.run = some { decidedAs o (countedPulse t x) with progress := .settled } :=
            congrArg PointRunner.run hrun
          have hcomplete : (completionTest u).ec = u.ec ∧ (completionTest u).trk = u.trk := by
            rcases completionTest_cases hrun' with h | h
            · rw [h]; exact ⟨rfl, rfl⟩
            · exact h.spared (windowDecision_kind hd)
          have hall := (hkeeps.trans (completionTest_closing u)).fields
          obtain ⟨-, -, hfe', -, -, -, hplan, -, -, hroster, hxc, hrx, -⟩ := hall
          simp [hcomplete.1, hcomplete.2, hec, htrk, hfe', hplan, hroster, hxc, hrx]
    · simp [countPulse_not_counting hx hs]

end Sys2Proof.Machine
end

section
/-! SUPPORT. A qualified edge: its marker, the marker queue and the gate (R6, R7, R9, R13 to R15, R20 to R24). -/

namespace Sys2Proof.Machine

/-- A qualified edge at the front end (R6, R9). -/
def qualifiedFe (x : PendingEdge) (s : State) : FrontEnd := { s.fe with
  edge := none, lastQualified := some x.t, intervalTimer := intervalExpiry s.fe.now x }

/-- Each way to qualify an edge runs `qualify`, and leaves PRESENT (R5, R7, R9). -/
theorem exec_qualifies {i : Instr} {x : PendingEdge} {s : State} (hp : s.phase = .running) (h : QualifiesBy i x s) :
    ∃ p, exec i s = .next (qualify x { s with pins := p }) ∧ p.present = s.pins.present := by
  rcases h with ⟨rfl, hx, hw⟩ | ⟨rfl, hx, hm, hw⟩ | ⟨rfl, hpresent, hpassed, hwidth, rfl⟩
  · refine ⟨{ s.pins with mutHigh := false }, ?_, rfl⟩
    rw [exec_mutFallingEdge hp]
    simp [mutFall, hx, Nat.not_lt.2 hw]
  · refine ⟨s.pins, ?_, rfl⟩
    have hdue : (s.fe.edge.map fun x => later x.t x.width) = some s.fe.now := by
      rw [hx]; exact congrArg some hw
    refine congrArg Host.Outcome.next ((whenDue_due hp hdue).trans ?_)
    simp [widthExpiry, hx, hm]
  · refine ⟨{ s.pins with mutHigh := true }, ?_, rfl⟩
    rw [exec_mutRisingEdge hp]
    have htaken : (s.pins.present && intervalPassed s) = true := by simp [hpresent, hpassed]
    have hnew : newEdge { s with pins := { s.pins with mutHigh := true } } =
        ⟨s.fe.now, 0, s.cmd.setup.mutInterval * 1000, ⟨s.trk.count, s.trk.last, none⟩⟩ := by
      simp [newEdge, stepsToTicks, hwidth]
    refine congrArg Host.Outcome.next ((if_pos htaken).trans ?_)
    rw [hnew]
    rfl

theorem queueAfter_eq (m : Marker) (q : List Marker) : queueAfter m q =
    if m.rNext.isSome then q else if 4 ≤ q.length then q.drop 1 ++ [m] else q ++ [m] := by
  unfold queueAfter
  split
  · rfl
  · by_cases h : 4 ≤ q.length <;> simp [Config.markerCapacity, h]

/-- The marker of the edge voids the gate: it waits, and the queue is full (R15). -/
abbrev Voids (x : PendingEdge) (s : State) : Prop := x.snap.rNext = none ∧ 4 ≤ s.trk.queue.length

theorem voids_iff (x : PendingEdge) (s : State) :
    (x.snap.rNext.isNone && decide (Config.markerCapacity ≤ s.trk.queue.length)) = true ↔ Voids x s := by
  rw [Bool.and_eq_true, decide_eq_true_eq, Option.isNone_iff_eq_none]
  rfl

/-- The state in which the error computer takes the marker of a qualified edge. -/
def markerFormed (x : PendingEdge) (s : State) : State := { s with
  fe := qualifiedFe x s
  trk := { s.trk with overrate := false, queue := queueAfter (markerOf x s.trk.overrate) s.trk.queue } }

theorem qualify_eq_takeMarker (x : PendingEdge) (s : State) : qualify x s =
    countPulse x.t (takeMarker (markerOf x s.trk.overrate)
      (x.snap.rNext.isNone && decide (Config.markerCapacity ≤ s.trk.queue.length)) (markerFormed x s)) := rfl

/-- What a qualified edge does at front end and tracker, and what it leaves (R9, R13). -/
theorem qualify_fields (x : PendingEdge) (s : State) :
    (qualify x s).fe.edge = none ∧ (qualify x s).fe.lastQualified = some x.t ∧
      (qualify x s).fe.intervalTimer = intervalExpiry s.fe.now x ∧ (qualify x s).trk.overrate = false ∧
      (qualify x s).trk.count = s.trk.count ∧ (qualify x s).trk.last = s.trk.last ∧ (qualify x s).plan = s.plan ∧
      (qualify x s).roster = s.roster ∧ (qualify x s).xc = s.xc ∧ (qualify x s).sealRx = s.sealRx := by
  rw [qualify_eq_takeMarker]
  have hkeeps := takeMarker_closing (markerOf x s.trk.overrate)
    (x.snap.rNext.isNone && decide (Config.markerCapacity ≤ s.trk.queue.length)) (markerFormed x s)
  generalize takeMarker _ _ (markerFormed x s) = u at *
  obtain ⟨-, -, hfe, hcount, hlast, hover, hplan, -, -, hroster, hxc, hrx, -⟩ := hkeeps.fields
  obtain ⟨-, htrk, hedge, hlastq, hint, hplan', hroster', hxc', hrx'⟩ := countPulse_leaves x.t u
  rw [htrk, hedge, hlastq, hint, hplan', hroster', hxc', hrx', hfe]
  exact ⟨rfl, rfl, rfl, hover, hcount, hlast, hplan, hroster, hxc, hrx⟩

/-- With no run open, a qualified edge reaches front end, tracker and error computer alone. -/
theorem qualify_of_no_run (x : PendingEdge) {s : State} (h : s.run.run = none) :
    qualify x s = { s with
      pins := (qualify x s).pins, fe := (qualify x s).fe, trk := (qualify x s).trk, ec := (qualify x s).ec } := by
  rw [qualify_eq_takeMarker]
  obtain ⟨e, he⟩ := takeMarker_of_none (markerOf x s.trk.overrate)
    (x.snap.rNext.isNone && decide (Config.markerCapacity ≤ s.trk.queue.length))
    (s := markerFormed x s) (fun y hy => by rw [show s.run.run = some y from hy] at h; cases h)
  rw [he, countPulse_none (s := { markerFormed x s with ec := e }) h]
  rfl

/-! ### The gate of a qualified edge -/

section Gate

variable {x : PendingEdge} {s : State} {n r : Nat} {g : Gate}

/-- Where the marker leaves all but the error computer, the qualified edge leaves error computer and queue so. -/
theorem qualify_of_takeMarker {e : ErrorComputer} {void : Bool}
    (hv : (x.snap.rNext.isNone && decide (Config.markerCapacity ≤ s.trk.queue.length)) = void)
    (h : takeMarker (markerOf x s.trk.overrate) void (markerFormed x s) = { markerFormed x s with ec := e }) :
    (qualify x s).ec = e ∧ (qualify x s).trk.queue = queueAfter (markerOf x s.trk.overrate) s.trk.queue := by
  obtain ⟨hec, htrk, -⟩ := countPulse_leaves x.t { markerFormed x s with ec := e }
  rw [qualify_eq_takeMarker, hv, h, hec, htrk]
  exact ⟨rfl, rfl⟩

theorem voids_true (h : Voids x s) :
    (x.snap.rNext.isNone && decide (Config.markerCapacity ≤ s.trk.queue.length)) = true := (voids_iff x s).2 h

theorem voids_false (h : ¬ Voids x s) :
    (x.snap.rNext.isNone && decide (Config.markerCapacity ≤ s.trk.queue.length)) = false := by
  rwa [← Bool.not_eq_true, voids_iff]

theorem qualify_idle (h : s.ec = .idle) :
    (qualify x s).ec = .idle ∧ (qualify x s).trk.queue = queueAfter (markerOf x s.trk.overrate) s.trk.queue := by
  refine qualify_of_takeMarker rfl ((takeMarker_idle (s := markerFormed x s) h).trans ?_)
  rw [← h]
  rfl

theorem qualify_armed (h : s.ec = .armed n r) :
    (qualify x s).ec = .gating n r (freshGate (markerOf x s.trk.overrate)) ∧
      (qualify x s).trk.queue = queueAfter (markerOf x s.trk.overrate) s.trk.queue :=
  qualify_of_takeMarker rfl (takeMarker_armed (s := markerFormed x s) h)

theorem qualify_void (h : s.ec = .gating n r g) (hv : Voids x s) :
    (qualify x s).ec = .gating n r (freshGate (markerOf x s.trk.overrate)) ∧
      (qualify x s).trk.queue = queueAfter (markerOf x s.trk.overrate) s.trk.queue :=
  qualify_of_takeMarker (voids_true hv) (takeMarker_void (s := markerFormed x s) h)

theorem qualify_waiting (h : s.ec = .gating n r g) (hv : ¬ Voids x s) (hend : g.endMarker.isSome = true) :
    (qualify x s).ec = s.ec ∧ (qualify x s).trk.queue = queueAfter (markerOf x s.trk.overrate) s.trk.queue :=
  qualify_of_takeMarker (voids_false hv) (takeMarker_waiting (s := markerFormed x s) h hend)

theorem qualify_counted (h : s.ec = .gating n r g) (hv : ¬ Voids x s) (hend : g.endMarker = none)
    (hk : g.k + 1 < n) : (qualify x s).ec = .gating n r ⟨g.a, g.k + 1, g.overrate || s.trk.overrate, none⟩ ∧
      (qualify x s).trk.queue = queueAfter (markerOf x s.trk.overrate) s.trk.queue := by
  rw [← hend]
  exact qualify_of_takeMarker (voids_false hv) (takeMarker_counted (s := markerFormed x s) h hend hk)

theorem qualify_ends_now (h : s.ec = .gating n r g) (hv : ¬ Voids x s) (hend : g.endMarker = none)
    (hk : n ≤ g.k + 1) (ht : x.t = s.fe.now) :
    (qualify x s).ec = .gating n r
        ⟨g.a, g.k + 1, g.overrate || s.trk.overrate, some (markerOf x s.trk.overrate)⟩ ∧
      (qualify x s).trk.queue = queueAfter (markerOf x s.trk.overrate) s.trk.queue :=
  qualify_of_takeMarker (voids_false hv) (takeMarker_ends_now (s := markerFormed x s) h hend hk ht)

theorem qualify_ends_later_no_run (h : s.ec = .gating n r g) (hv : ¬ Voids x s) (hend : g.endMarker = none)
    (hk : n ≤ g.k + 1) (ht : x.t ≠ s.fe.now) (hrun : s.run.run = none) :
    (qualify x s).ec = .gating n r (freshGate (markerOf x s.trk.overrate)) ∧
      (qualify x s).trk.queue = queueAfter (markerOf x s.trk.overrate) s.trk.queue := by
  have hnone : TakesNoResult
      { markerFormed x s with ec := .gating n r (freshGate (markerOf x s.trk.overrate)) } := fun y hy => by
    rw [show s.run.run = some y from hy] at hrun
    cases hrun
  exact qualify_of_takeMarker (voids_false hv)
    ((takeMarker_ends_later (s := markerFormed x s) h hend hk ht).trans (takeResult_of_none hnone))

/-- An end marker that forms later than its stamp starts the next gate, unless its result completes the run
(R22, R67). -/
theorem qualify_ends_later (h : s.ec = .gating n r g) (hv : ¬ Voids x s) (hend : g.endMarker = none)
    (hk : n ≤ g.k + 1) (ht : x.t ≠ s.fe.now) :
    ((qualify x s).ec = .gating n r (freshGate (markerOf x s.trk.overrate)) ∧
      (qualify x s).trk.queue = queueAfter (markerOf x s.trk.overrate) s.trk.queue) ∨
    ∃ y, s.run.run = some y ∧ y.kind = .accuracy ∧ (qualify x s).run.run = none ∧
      (qualify x s).run.standing = .closed y.p y.r ∧ (qualify x s).ec = .idle ∧ (qualify x s).trk.queue = [] := by
  have htaken := takeMarker_ends_later (m := markerOf x s.trk.overrate) (s := markerFormed x s) h hend hk ht
  rw [qualify_eq_takeMarker, voids_false hv, htaken]
  have hcases := takeResult_cases
    (resultOfGate n r (g.overrate || (markerOf x s.trk.overrate).overrate) g.a (markerOf x s.trk.overrate)
      (markerFormed x s))
    { markerFormed x s with ec := .gating n r (freshGate (markerOf x s.trk.overrate)) }
  generalize takeResult _ _ = u at *
  obtain ⟨hec, htrk, -⟩ := countPulse_leaves x.t u
  have hholds (hu : u.ec = .gating n r (freshGate (markerOf x s.trk.overrate)) ∧ u.trk = (markerFormed x s).trk) :
      (countPulse x.t u).ec = .gating n r (freshGate (markerOf x s.trk.overrate)) ∧
        (countPulse x.t u).trk.queue = queueAfter (markerOf x s.trk.overrate) s.trk.queue := by
    rw [hec, htrk, hu.1, hu.2]
    exact ⟨rfl, rfl⟩
  rcases hcases with hu | ⟨y, hy, hky, hu | ⟨hrun, hstanding, hidle, hqueue⟩⟩
  · exact .inl (hholds hu)
  · exact .inl (hholds hu)
  · refine .inr ⟨y, hy, hky, ?_⟩
    rw [countPulse_none hrun]
    exact ⟨hrun, hstanding, hidle, hqueue (by simp)⟩

end Gate

/-- Settles O10: `qualify` field by field, and the marker at each state of the error computer. -/
theorem qualifiedEdgeFormsMarker : Obligations.QualifiedEdgeFormsMarker := by
  refine ⟨fun i x s hp hq => ?_, fun s hp h => ?_⟩
  · intro m full queue
    obtain ⟨p, hexec, -⟩ := exec_qualifies hp hq
    obtain ⟨hedge, hlast, hint, hover, hcount, hlastRef, hplan, hroster, hxc, hrx⟩ :=
      qualify_fields x { s with pins := p }
    have hqueue : queueAfter m s.trk.queue = queue := queueAfter_eq m s.trk.queue
    rw [← hqueue]
    refine ⟨_, hexec, hedge, hlast, hint, hover, hcount, hlastRef, hplan, hroster, hxc, hrx, fun hrun => ?_,
      fun hec => ?_, fun n r hec => ?_, fun n r g hec => ⟨fun hf => ?_, fun hf hend => ?_, fun hf hend hk => ?_,
      fun hf hend hk ht => ?_, fun hf hend hk ht hrun => ?_, fun hf hend hk ht => ?_⟩⟩
    · exact qualify_of_no_run x (s := { s with pins := p }) hrun
    · exact qualify_idle (s := { s with pins := p }) hec
    · exact qualify_armed (s := { s with pins := p }) hec
    · exact qualify_void (s := { s with pins := p }) hec hf
    · exact qualify_waiting (s := { s with pins := p }) hec hf hend
    · exact qualify_counted (s := { s with pins := p }) hec hf hend hk
    · exact qualify_ends_now (s := { s with pins := p }) hec hf hend hk ht
    · exact qualify_ends_later_no_run (s := { s with pins := p }) hec hf hend hk ht hrun
    · exact qualify_ends_later (s := { s with pins := p }) hec hf hend hk ht
  · refine congrArg Host.Outcome.next ?_
    by_cases hdue : (s.fe.edge.map fun x => later x.t x.width) = some s.fe.now
    · obtain ⟨x, hx, hnow⟩ := Option.map_eq_some_iff.1 hdue
      have hlow : s.pins.mutHigh = false := (h x hx).resolve_left fun hn => hn hnow
      refine (whenDue_due hp hdue).trans ?_
      simp [widthExpiry, hx, hlow]
    · exact whenDue_not_due hdue

end Sys2Proof.Machine
end

section
/-! SUPPORT. Window runs: counting, the decision, completion, and the grace expiry on the tick on which the head returns
(R11, R66, R67, R77 to R82, R113, R114). -/

namespace Sys2Proof.Machine

/-! ### Completion -/

theorem doneWith_eq_false_iff (p r : Nat) (x : Option PeerProgress) :
    doneWith p r x = false ↔ (x.all fun q => !(q.p == p && q.r == r &&
      (q.value == .settled || q.value == .withdrawn || q.value == .closed))) = true := by
  cases x with
  | none => simp [doneWith]
  | some q =>
    have hdone : q.value.done = (q.value == .settled || q.value == .withdrawn || q.value == .closed) := by
      cases q.value <;> rfl
    simp only [doneWith, hdone, Option.all_some, Bool.not_eq_true']

theorem pendingPeer_iff (p r : Nat) (e : RosterEntry) : pendingPeer p r e = true ↔
    e.batch = some .running ∧ (e.progress.all fun q => !(q.p == p && q.r == r &&
      (q.value == .settled || q.value == .withdrawn || q.value == .closed))) = true := by
  rw [pendingPeer, Bool.and_eq_true, beq_iff_eq, Bool.not_eq_true', doneWith_eq_false_iff]

/-- The roster answers that no peer is pending exactly when none is (R113, R114). -/
theorem nonePending_iff (p r : Nat) (s : State) : nonePending p r s = true ↔ ¬ PeerPending p r s := by
  have hnone : nonePending p r s = true ↔ ∀ e ∈ s.roster.entries, ¬ pendingPeer p r e = true := by
    simp [nonePending]
  rw [hnone]
  simp only [pendingPeer_iff]
  exact ⟨fun h ⟨e, he, hpend⟩ => h e he hpend, fun h e he hpend => h ⟨e, he, hpend⟩⟩

theorem completionTest_pending {x : Run} {s : State} (hx : s.run.run = some x) (h : PeerPending x.p x.r s) :
    completionTest s = s := by
  have hnone : nonePending x.p x.r s = false := by
    rw [← Bool.not_eq_true, nonePending_iff]
    exact not_not_intro h
  simp [completionTest, hx, hnone]

theorem completionTest_done {x : Run} {s : State} (hx : s.run.run = some x)
    (hd : x.state.doneForCompletion = true) (h : ¬ PeerPending x.p x.r s) :
    completionTest s = closeRun .completion s := by
  simp [completionTest, hx, hd, (nonePending_iff _ _ _).2 h]

/-! ### The decision -/

/-- The next edge decides the run: a CREEP run above its allowed pulses, a START run at its required ones (R78). -/
abbrev Deciding (w n : Nat) (r : Run) : Prop :=
  (r.entry.point = .creep w n ∧ n < r.pulses + 1) ∨ (r.entry.point = .start w n ∧ n ≤ r.pulses + 1)

/-- The run that its deciding edge of stamp t leaves open: FAIL for CREEP, PASS for START (R78). -/
def decidedRun (t : Stamp) (r : Run) : Run :=
  { decidedAs (r.kind == .start) (countedPulse t r) with progress := .settled }

section Decision

variable {r : Run} {t : Stamp} {w n : Nat}

theorem windowDecision_creep (h : r.entry.point = .creep w n) :
    windowDecision (countedPulse t r) = if n < r.pulses + 1 then some false else none := by
  have hpoint : (countedPulse t r).entry.point = .creep w n := h
  unfold windowDecision
  rw [hpoint]
  rfl

theorem windowDecision_start (h : r.entry.point = .start w n) :
    windowDecision (countedPulse t r) = if n ≤ r.pulses + 1 then some true else none := by
  have hpoint : (countedPulse t r).entry.point = .start w n := h
  unfold windowDecision
  rw [hpoint]
  rfl

theorem windowDecision_deciding (h : Deciding w n r) :
    windowDecision (countedPulse t r) = some (r.kind == .start) := by
  rcases h with ⟨hpoint, hn⟩ | ⟨hpoint, hn⟩
  · rw [windowDecision_creep hpoint, if_pos hn, Run.kind, hpoint]
    rfl
  · rw [windowDecision_start hpoint, if_pos hn, Run.kind, hpoint]
    rfl

theorem kind_of_deciding (h : Deciding w n r) : r.kind = .creep ∨ r.kind = .start := by
  unfold Run.kind
  rcases h with ⟨hpoint, -⟩ | ⟨hpoint, -⟩
  · exact .inl (by rw [hpoint]; rfl)
  · exact .inr (by rw [hpoint]; rfl)

end Decision

/-- The record of a window run is judged by Table 5.1. -/
theorem closeRecord_window {x : Run} (hk : x.kind = .creep ∨ x.kind = .start) (c : CloseCause) (present : Bool)
    (count : Stamp) : (closeRecord c present count x).verdict = (judgeWindow c present x).verdict ∧
      (closeRecord c present count x).cause = (judgeWindow c present x).cause := by
  unfold closeRecord
  rcases hk with hk | hk <;> rw [hk] <;> exact ⟨rfl, rfl⟩

/-- A decided run closes with its outcome, whatever closes it (R80, R82). -/
theorem closeRecord_decided {x : Run} {o : Bool} (hk : x.kind = .creep ∨ x.kind = .start) (hd : x.decided = some o)
    (c : CloseCause) (present : Bool) (count : Stamp) :
    (closeRecord c present count x).verdict = (if x.entry.limits.isSome then (if o then .pass else .fail) else .info) ∧
      (closeRecord c present count x).cause = none := by
  obtain ⟨hv, hcause⟩ := closeRecord_window hk c present count
  rw [hv, hcause]
  simp [judgeWindow, windowOutcome, hd]

theorem closeRecord_decidedRun {r : Run} {w n : Nat} (hd : Deciding w n r) (t : Stamp) (c : CloseCause) (present : Bool)
    (count : Stamp) : (closeRecord c present count (decidedRun t r)).verdict =
        (if r.entry.limits.isSome then (if r.kind == .start then .pass else .fail) else .info) ∧
      (closeRecord c present count (decidedRun t r)).cause = none := by
  have hk := kind_of_deciding hd
  exact closeRecord_decided (x := decidedRun t r) hk rfl c present count

/-- An undecided window run that the scanner closes is INCOMPLETE (R80). -/
theorem closeRecord_scanner {x : Run} (hk : x.kind = .creep ∨ x.kind = .start) (hd : x.decided = none)
    (present : Bool) (count : Stamp) : (closeRecord .scanner present count x).verdict = .incomplete ∧
      (closeRecord .scanner present count x).cause = some .scanner := by
  obtain ⟨hv, hcause⟩ := closeRecord_window hk .scanner present count
  rw [hv, hcause]
  simp [judgeWindow, windowOutcome, hd]

/-! ### A qualified edge at a window run -/

section Edge

variable {x : PendingEdge} {r : Run} {s : State}

/-- A window run takes no result, so that the marker of the edge reaches the error computer alone. -/
theorem qualify_at_window (x : PendingEdge) (hr : s.run.run = some r)
    (hs : r.state = .counting ∨ r.state = .decided) :
    ∃ e, qualify x s = countPulse x.t { markerFormed x s with ec := e } := by
  obtain ⟨e, he⟩ := takeMarker_of_none (s := markerFormed x s) (markerOf x s.trk.overrate)
    (x.snap.rNext.isNone && decide (Config.markerCapacity ≤ s.trk.queue.length))
    (fun y hy => Option.some.inj (hr.symm.trans hy) ▸ hs)
  exact ⟨e, by rw [qualify_eq_takeMarker, he]⟩

theorem qualify_decided (hr : s.run.run = some r) (hs : r.state = .decided) : (qualify x s).run = s.run := by
  obtain ⟨e, he⟩ := qualify_at_window x hr (.inr hs)
  rw [he, countPulse_not_counting (s := { markerFormed x s with ec := e }) hr (by simp [hs])]
  rfl

/-- An edge before the opening is not counted (R77). -/
theorem qualify_before (hr : s.run.run = some r) (hs : r.state = .counting)
    (ht : elapsed s.fe.now r.openStamp < elapsed s.fe.now x.t) : (qualify x s).run = s.run := by
  obtain ⟨e, he⟩ := qualify_at_window x hr (.inl hs)
  have hbefore : atOrAfter s.fe.now x.t r.openStamp = false := decide_eq_false (Nat.not_le.2 ht)
  rw [he, countPulse_before (s := { markerFormed x s with ec := e }) hr hbefore]
  rfl

theorem atOrAfter_of_lt {now a b : Stamp} (h : elapsed now a < elapsed now b + 1) : atOrAfter now a b = true :=
  decide_eq_true (Nat.le_of_lt_succ h)

theorem qualify_undecided (hr : s.run.run = some r) (hs : r.state = .counting)
    (ht : elapsed s.fe.now x.t < elapsed s.fe.now r.openStamp + 1)
    (hd : windowDecision (countedPulse x.t r) = none) :
    (qualify x s).run = { s.run with run := some (countedPulse x.t r) } := by
  obtain ⟨e, he⟩ := qualify_at_window x hr (.inl hs)
  rw [he, countPulse_undecided (s := { markerFormed x s with ec := e }) hr hs (atOrAfter_of_lt ht) hd]
  rfl

/-- The state in which a deciding edge asks for completion: the run is decided, PROGRESS SETTLED queued, and a stopped
grace restored (R78, R82). -/
structure EdgeDecided (x : PendingEdge) (r : Run) (s u : State) : Prop where
  run : u.run = { s.run with run := some (decidedRun x.t r) }
  queue : s.line.queue.length < 8 → u.line.queue = s.line.queue ++
    [⟨.progress r.p r.r .settled s.meter.batch, s.fe.now, 0, false⟩]
  fe : u.fe = { qualifiedFe x s with absenceTimer := graceAfterEdge s.fe, stoppedGrace := none }
  pins : u.pins = s.pins
  phase : u.phase = s.phase
  count : u.trk.count = s.trk.count
  roster : u.roster = s.roster

theorem qualify_decides {w n : Nat} (hr : s.run.run = some r) (hs : r.state = .counting)
    (ht : elapsed s.fe.now x.t < elapsed s.fe.now r.openStamp + 1) (hd : Deciding w n r) :
    ∃ u, qualify x s = completionTest u ∧ EdgeDecided x r s u := by
  obtain ⟨e, he⟩ := qualify_at_window x hr (.inl hs)
  refine ⟨_, he.trans (countPulse_decides (s := { markerFormed x s with ec := e }) hr hs (atOrAfter_of_lt ht)
    (windowDecision_deciding hd)), ?_⟩
  obtain ⟨hrun, -, htrk, hfe, hpins, hroster⟩ := reportProgress_fields
    (decidedAs (r.kind == .start) (countedPulse x.t r)) .settled (restoreGrace { markerFormed x s with ec := e })
  refine ⟨hrun, fun hroom => ?_, hfe, hpins, ?_, (congrArg Tracker.count htrk).trans rfl, hroster⟩
  · exact congrArg (fun u => u.line.queue) (enqueue_room (.progress r.p r.r .settled s.meter.batch)
      (setRun (decidedRun x.t r) (restoreGrace { markerFormed x s with ec := e })) rfl hroom)
  · simp [reportProgress, queueProgress, markerFormed]

/-- With a peer pending the decided run waits (R67, R113). -/
theorem qualify_decides_pending {w n : Nat} (hr : s.run.run = some r) (hs : r.state = .counting)
    (ht : elapsed s.fe.now x.t < elapsed s.fe.now r.openStamp + 1) (hd : Deciding w n r)
    (hpend : PeerPending r.p r.r s) : EdgeDecided x r s (qualify x s) := by
  obtain ⟨u, hu, hdecided⟩ := qualify_decides hr hs ht hd
  have hpend' : PeerPending (decidedRun x.t r).p (decidedRun x.t r).r u := by
    unfold PeerPending
    rw [hdecided.roster]
    exact hpend
  rw [hu, completionTest_pending (congrArg PointRunner.run hdecided.run) hpend']
  exact hdecided

/-- With none pending it closes by completion (R67). -/
theorem qualify_decides_done {w n : Nat} (hr : s.run.run = some r) (hs : r.state = .counting)
    (ht : elapsed s.fe.now x.t < elapsed s.fe.now r.openStamp + 1) (hd : Deciding w n r)
    (hpend : ¬ PeerPending r.p r.r s) (hp : r.p < 32) :
    (qualify x s).run.run = none ∧ (qualify x s).run.standing = .closed r.p r.r ∧
      slotGet (qualify x s).meter.records r.p =
        some (closeRecord .completion s.pins.present s.trk.count (decidedRun x.t r)) := by
  obtain ⟨u, hu, hdecided⟩ := qualify_decides hr hs ht hd
  have hrun : u.run.run = some (decidedRun x.t r) := congrArg PointRunner.run hdecided.run
  have hpend' : ¬ PeerPending (decidedRun x.t r).p (decidedRun x.t r).r u := by
    unfold PeerPending
    rw [hdecided.roster]
    exact hpend
  have hclosed := closeRun_closed (c := .completion) hrun
  rw [hu, completionTest_done hrun rfl hpend', hclosed.run]
  refine ⟨rfl, rfl, ?_⟩
  rw [← hdecided.pins, ← hdecided.count]
  exact hclosed.record hp

end Edge

/-! ### The grace on the tick on which the head returns -/

theorem spendGrace_of_none {s : State} (h : s.fe.stoppedGrace = none) : spendGrace s = s := by
  rw [spendGrace_eq, ← h]

theorem exec_graceExpiry_due {a : AbsenceTimer} {s : State} (hp : s.phase = .running)
    (ha : s.fe.absenceTimer = some a) (hnow : a.expiry = s.fe.now) :
    exec .graceExpiry s = .next (graceExpires (spendGrace s)) := by
  have hdue : s.fe.absenceTimer.map AbsenceTimer.expiry = some s.fe.now := by rw [ha, ← hnow]; rfl
  show Host.Outcome.next _ = _
  rw [whenRunning_running hp]
  exact congrArg Host.Outcome.next (whenDue_due (s := spendGrace s) hp hdue)

theorem exec_graceExpiry_stopped {s : State} (hp : s.phase = .running) (ha : s.fe.absenceTimer = none) :
    exec .graceExpiry s = .next (spendGrace s) := by
  have hdue : s.fe.absenceTimer.map AbsenceTimer.expiry ≠ some s.fe.now := by simp [ha]
  show Host.Outcome.next _ = _
  rw [whenRunning_running hp]
  exact congrArg Host.Outcome.next (whenDue_not_due (s := spendGrace s) hdue)

/-- What the grace expiry leaves of an open run (R66). -/
theorem graceExpires_closes {x : Run} {s : State} (hx : s.run.run = some x) (hp : x.p < 32) :
    (graceExpires s).run.run = none ∧ (graceExpires s).run.standing = .closed x.p x.r ∧
      slotGet (graceExpires s).meter.records x.p = some (closeRecord .scanner s.pins.present s.trk.count x) := by
  have hclosed := closeRun_closed (c := .scanner) (s := { s with fe := { s.fe with absenceTimer := none } }) hx
  refine ⟨closeRun_run _ _, ?_, hclosed.record hp⟩
  unfold graceExpires
  rw [hclosed.run]

/-- A rise of MUT under a minimum width of 0 that decides the open run while a peer is pending (R5, R78). -/
theorem mutRise_decides {r : Run} {w n : Nat} {s : State} (hp : s.phase = .running) (hpresent : s.pins.present = true)
    (hwidth : s.cmd.setup.mutWidth = 0) (hlast : s.fe.lastQualified = none) (hr : s.run.run = some r)
    (hs : r.state = .counting) (hd : Deciding w n r) (hpend : PeerPending r.p r.r s) :
    ∃ t, exec .mutRisingEdge s = .next t ∧ t.run = { s.run with run := some (decidedRun s.fe.now r) } ∧
      t.fe.now = s.fe.now ∧ t.fe.absenceTimer = graceAfterEdge s.fe ∧ t.fe.stoppedGrace = none ∧
      t.pins.present = true ∧ t.trk.count = s.trk.count ∧ t.phase = .running := by
  obtain ⟨pins, hexec, hpins⟩ := exec_qualifies hp
    (.inr (.inr ⟨rfl, hpresent, intervalPassed_of_none (.inr hlast), hwidth, rfl⟩))
  have hnow : elapsed s.fe.now s.fe.now < elapsed s.fe.now r.openStamp + 1 := by simp [elapsed]
  have hdecided := qualify_decides_pending (s := { s with pins := pins })
    (x := ⟨s.fe.now, 0, s.cmd.setup.mutInterval * 1000, ⟨s.trk.count, s.trk.last, none⟩⟩) hr hs hnow hd hpend
  refine ⟨_, hexec, hdecided.run, by rw [hdecided.fe]; rfl, by rw [hdecided.fe], by rw [hdecided.fe], ?_,
    hdecided.count, hdecided.phase.trans hp⟩
  rw [hdecided.pins]
  exact hpins.trans hpresent

/-- What a return of the head on the tick of its grace expiry leaves: the timer stopped and held for this tick (R11,
R82). -/
theorem presentRise_holds {a : AbsenceTimer} {s : State} (ha : s.fe.absenceTimer = some a)
    (hnow : a.expiry = s.fe.now) : (presentRises { s with pins := { s.pins with present := true } }).fe =
      { s.fe with absent := false, absenceTimer := none, stoppedGrace := some a } := by
  have hdue : graceDueNow s.fe = some a := graceDueNow_eq_some.2 ⟨ha, hnow⟩
  rw [presentRises_fe]
  exact congrArg (fun g => { s.fe with absent := false, absenceTimer := none, stoppedGrace := g }) hdue

/-- The grace expiry after a deciding edge of the tick: where R82 is followed it closes the run by the scanner, with the
decided verdict, and where R11 is it changes nothing (log 35). -/
theorem graceExpiry_after_decision {a : AbsenceTimer} {x : Run} {s : State} (hp : s.phase = .running)
    (hstopped : s.fe.stoppedGrace = none) (hnow : a.expiry = s.fe.now)
    (ha : s.fe.absenceTimer = if Config.graceAfterDecision then some a else none) (hx : s.run.run = some x)
    (hx32 : x.p < 32) :
    ∃ t, exec .graceExpiry s = .next t ∧ if Config.graceAfterDecision then
      t.run.run = none ∧ t.run.standing = .closed x.p x.r ∧
        slotGet t.meter.records x.p = some (closeRecord .scanner s.pins.present s.trk.count x)
      else t = s := by
  by_cases hfree : Config.graceAfterDecision
  · rw [if_pos hfree] at ha
    refine ⟨_, exec_graceExpiry_due hp ha hnow, ?_⟩
    rw [if_pos hfree, spendGrace_of_none hstopped]
    exact graceExpires_closes hx hx32
  · rw [if_neg hfree] at ha
    refine ⟨_, exec_graceExpiry_stopped hp ha, ?_⟩
    rw [if_neg hfree, spendGrace_of_none hstopped]

/-- Settles O18: at a window run `qualify` counts or decides; on the tick of the return the held grace makes the
difference between the orders of edge and expiry. -/
theorem windowRunDecides : Obligations.WindowRunDecides := by
  refine ⟨fun i x r s hp hq hr => ?_,
    fun r a w n s hp hpresent ha hnow hwidth hlast hr hs hundecided hp32 hpend hd => ?_⟩
  · intro report
    obtain ⟨pins, hexec, hpins⟩ := exec_qualifies hp hq
    refine ⟨fun hs => ⟨_, hexec, qualify_decided (s := { s with pins := pins }) hr hs⟩,
      fun hs ht => ⟨fun w n hpoint hn => ?_, fun w n hpoint hn => ?_,
        fun w n hd => ⟨fun hpend => ?_, fun hpend hp32 => ?_⟩⟩,
      fun hs ht => ⟨_, hexec, qualify_before (s := { s with pins := pins }) hr hs ht⟩⟩
    · exact ⟨_, hexec, qualify_undecided (s := { s with pins := pins }) hr hs ht
        (by rw [windowDecision_creep hpoint, if_neg (Nat.not_lt.2 hn)])⟩
    · exact ⟨_, hexec, qualify_undecided (s := { s with pins := pins }) hr hs ht
        (by rw [windowDecision_start hpoint, if_neg (Nat.not_le.2 hn)])⟩
    · have hdecided := qualify_decides_pending (s := { s with pins := pins }) hr hs ht hd hpend
      exact ⟨_, hexec, hdecided.run, hdecided.queue⟩
    · obtain ⟨hrun, hstanding, hrecord⟩ :=
        qualify_decides_done (s := { s with pins := pins }) hr hs ht hd hpend hp32
      refine ⟨_, _, hexec, hrun, hstanding, hrecord, ?_, ?_⟩
      · rw [← hpins]; rfl
      · exact (closeRecord_decidedRun hd _ _ _ _).1
  · have hrise := presentRise_holds ha hnow
    refine ⟨_, exec_presentRise hp hpresent, ?_, ?_, ?_⟩
    · obtain ⟨edge, hedge, hrun, hnow', hgrace, hstopped, hpresent', hcount, hphase⟩ :=
        mutRise_decides (s := presentRises { s with pins := { s.pins with present := true } }) hp rfl hwidth hlast hr hs
          hd hpend
      have hgrace' : edge.fe.absenceTimer = if Config.graceAfterDecision then some a else none := by
        rw [hgrace, hrise]
        rfl
      have hrun' : edge.run.run = some (decidedRun s.fe.now r) := congrArg PointRunner.run hrun
      obtain ⟨done, hdone, hclosed⟩ :=
        graceExpiry_after_decision hphase hstopped (hnow.trans hnow'.symm) hgrace' hrun' hp32
      obtain ⟨hverdict, hcause⟩ := closeRecord_decidedRun hd s.fe.now .scanner true s.trk.count
      refine ⟨edge, done, _, hedge, by rw [hrun']; rfl, rfl, hcause, hverdict, hdone, ?_⟩
      rw [hpresent', hcount] at hclosed
      exact hclosed
    · obtain ⟨hrun, -, hrecord⟩ := graceExpires_closes (s := spendGrace s) hr hp32
      obtain ⟨hverdict, hcause⟩ := closeRecord_scanner (kind_of_deciding hd) hundecided s.pins.present s.trk.count
      exact ⟨_, _, exec_graceExpiry_due hp ha hnow, hrun, hrecord, hverdict, hcause⟩
    · have hstopped : (presentRises { s with pins := { s.pins with present := true } }).fe.absenceTimer = none := rfl
      obtain ⟨edge, hedge, -, -, hgrace, hspent, -, -, hphase⟩ :=
        mutRise_decides (s := spendGrace (presentRises { s with pins := { s.pins with present := true } })) hp rfl
          hwidth hlast hr hs hd hpend
      refine ⟨_, edge, exec_graceExpiry_stopped hp hstopped, rfl, hedge, ?_⟩
      rw [exec_graceExpiry_stopped hphase hgrace, spendGrace_of_none hspent]

end Sys2Proof.Machine
end

section
/-! SUPPORT. The arithmetic of results: rounding half away from zero, saturation, means and spreads, and the results of
a gate and of a register reading (R25 to R31, R35, 00_scope.md 3.4). -/

namespace Sys2Proof.Machine

/-! ### Rounding -/

/-- The quotient of two naturals rounded to the nearest one, a half upwards. -/
def roundNat (n y : Nat) : Nat := if y ≤ 2 * (n % y) then n / y + 1 else n / y

/-- Rounding half away from zero rounds the magnitude (R28). -/
theorem roundDiv_eq (x : Int) (y : Nat) :
    roundDiv x y = if x < 0 then -(roundNat x.natAbs y : Int) else roundNat x.natAbs y := rfl

/-- A rounded magnitude lies within half of the divisor, and above the exact quotient at a half. -/
theorem roundNat_bounds (n : Nat) {y : Nat} (hy : 0 < y) :
    -(y : Int) ≤ 2 * (n - roundNat n y * y) ∧ 2 * ((n : Int) - roundNat n y * y) < y := by
  have hdiv : (n : Int) = (n / y : Nat) * y + (n % y : Nat) := by
    exact_mod_cast (Nat.div_add_mod' n y).symm
  have hmod : n % y < y := Nat.mod_lt n hy
  unfold roundNat
  split
  · rw [Nat.cast_succ, add_mul]
    omega
  · omega

/-- The model's rounding is that of R28. -/
theorem roundDiv_roundsTo (x : Int) {y : Nat} (hy : 0 < y) : RoundsTo x y (roundDiv x y) := by
  obtain ⟨hlow, hhigh⟩ := roundNat_bounds x.natAbs hy
  rw [roundDiv_eq]
  generalize roundNat x.natAbs y = q at *
  have hprod : ((q : Int) * y).natAbs = (q : Int) * y := Int.natAbs_of_nonneg (by positivity)
  have hnonneg : 0 ≤ (q : Int) * y := by positivity
  unfold RoundsTo
  split
  · rw [neg_mul, Int.natAbs_neg]
    omega
  · omega

/-- A rounded quotient is 0 or has the sign of its numerator (R28). -/
theorem roundDiv_sign (x : Int) {y : Nat} (hy : 0 < y) : roundDiv x y = 0 ∨ (roundDiv x y).sign = x.sign := by
  rw [roundDiv_eq]
  rcases lt_trichotomy x 0 with h | rfl | h
  · rw [if_pos h, Int.sign_eq_neg_one_of_neg h]
    rcases Nat.eq_zero_or_pos (roundNat x.natAbs y) with hq | hq
    · exact .inl (by rw [hq]; rfl)
    · exact .inr (Int.sign_eq_neg_one_of_neg (by omega))
  · exact .inl (by simp [roundNat, hy.ne'])
  · rw [if_neg h.le.not_gt, Int.sign_eq_one_of_pos h]
    rcases Nat.eq_zero_or_pos (roundNat x.natAbs y) with hq | hq
    · exact .inl (by rw [hq]; rfl)
    · exact .inr (Int.sign_eq_one_of_pos (by omega))

theorem errorDenominator_cast {cMut m : Nat} (hm : 1 ≤ m) (gate : Nat) :
    (errorDenominator cMut m gate : Int) = (cMut : Int) * ((m : Int) - 1) * gate := by
  simp [errorDenominator, Nat.cast_sub hm]

theorem errorDenominator_pos {cMut m gate : Nat} (hc : 1 ≤ cMut) (hm : 2 ≤ m) (hg : 1 ≤ gate) :
    0 < errorDenominator cMut m gate :=
  Nat.mul_pos (Nat.mul_pos hc (by omega)) hg

/-- Settles O14: `roundDiv` rounds to the nearest, and keeps the sign. -/
theorem errorRoundedOnce : Obligations.ErrorRoundedOnce := by
  intro n cRef cMut mi ref gate hc hm hg X Y e
  have hpos := errorDenominator_pos hc hm hg
  have hY : Y = (errorDenominator cMut mi gate : Int) := (errorDenominator_cast (by omega) gate).symm
  have hsign : (10 ^ 6 * X).sign = X.sign := by rw [Int.sign_mul, show (10 ^ 6 : Int).sign = 1 from rfl, one_mul]
  rw [hY, Int.natAbs_natCast, ← hsign]
  obtain ⟨hnear, htie⟩ := roundDiv_roundsTo (10 ^ 6 * X) hpos
  exact ⟨by exact_mod_cast hpos, hnear, htie, roundDiv_sign _ hpos⟩

/-! ### Gate and register results -/

/-- A rounded error is stated as it is inside ±999,999, and CLAMPED to the nearer end outside (R29, R30). -/
theorem statedError_eq (e : Int) (status : GateStatus) : statedError e status =
    if e < -999999 then ⟨.clamped, some (-999999)⟩ else if 999999 < e then ⟨.clamped, some 999999⟩
      else ⟨status, some e⟩ := by
  unfold statedError saturate Config.maxError
  split_ifs with hsat hlow hhigh hlow hhigh
  · omega
  · omega
  · rfl
  · simp only [GateResult.mk.injEq, true_and, Option.some.injEq]; omega
  · simp only [GateResult.mk.injEq, true_and, Option.some.injEq]; omega
  · omega

section Rows

variable {n minRef cRef cMut : Nat} {suspect overrate : Bool} {a b : Marker}

theorem gateResult_long (h : Config.maxGate < dGate a b) :
    gateResult n minRef cRef cMut suspect overrate a b = ⟨.gateLong, none⟩ := if_pos h

theorem gateResult_overrate (h : dGate a b ≤ Config.maxGate) :
    gateResult n minRef cRef cMut suspect true a b = ⟨.overrate, none⟩ := if_neg h.not_gt

/-- Fewer than two counts, or no next reference stamp of the start marker, make no reference (Table 2.2). -/
theorem gateResult_noReference (h : dGate a b ≤ Config.maxGate) (hm : mInt a b < 2 ∨ a.rNext = none) :
    gateResult n minRef cRef cMut suspect false a b = ⟨.noReference, none⟩ := by
  refine (if_neg h.not_gt).trans ((if_neg Bool.false_ne_true).trans ?_)
  by_cases hcount : mInt a b < 2
  · exact if_pos hcount
  · rw [if_neg hcount, dRef, hm.resolve_left hcount]

theorem gateResult_stated {ref : Nat} (h : dGate a b ≤ Config.maxGate) (hm : 2 ≤ mInt a b)
    (href : dRef a b = some ref) : gateResult n minRef cRef cMut suspect false a b =
      statedError (gateError n cRef cMut (mInt a b) ref (dGate a b)) (fitStatus (mInt a b) minRef suspect) := by
  refine (if_neg h.not_gt).trans ((if_neg Bool.false_ne_true).trans ((if_neg hm.not_gt).trans ?_))
  rw [href]

end Rows

/-- Settles O15: the rows of Table 2.2 in their order, each with the rounding of R28. -/
theorem gateAndRegisterResults : Obligations.GateAndRegisterResults := by
  refine ⟨fun n minRef cRef cMut suspect overrate a b => ?_, fun cRef before after mReg => ⟨fun hm => if_pos hm, fun hm => ?_⟩⟩
  · refine ⟨gateResult_long, fun hgate ho => ?_, fun hgate ho hm => ?_, fun x y hgate ho hm hx hy hc hg => ?_⟩
    · rw [ho]; exact gateResult_overrate hgate
    · rw [ho]; exact gateResult_noReference hgate hm
    · intro X
      have href : dRef a b = some (y - x).toNat := by rw [dRef, hx, hy]; rfl
      rw [ho, gateResult_stated hgate hm href, statedError_eq]
      exact ⟨_, roundDiv_roundsTo _ (errorDenominator_pos hc hm hg), rfl⟩
  · refine ⟨_, roundDiv_roundsTo _ (Nat.pos_of_ne_zero hm), ?_⟩
    rw [registerResult, if_neg hm, statedError_eq]

end Sys2Proof.Machine
end

section
/-! SUPPORT. Means, spreads, and the record of a close by the verdict tables of the three kinds of run (R29, R70, R71,
R80, R81, R84, R85, 00_scope.md 3.4). -/

namespace Sys2Proof.Machine

/-! ### Means and spreads -/

theorem mean_of_ne {xs : List Int} (h : xs ≠ []) : mean xs = some (roundDiv xs.sum xs.length) := if_neg h

/-- A rounded quotient lies in every range of whole numbers that the exact one lies in. -/
theorem roundsTo_range {x e b : Int} {y : Nat} (hy : 0 < y) (hlow : -(y * b) ≤ x) (hhigh : x ≤ y * b)
    (h : RoundsTo x y e) : -b ≤ e ∧ e ≤ b := by
  obtain ⟨hnear, -⟩ := h
  have hpos : (0 : Int) < y := by exact_mod_cast hy
  refine ⟨not_lt.1 fun hlt => ?_, not_lt.1 fun hlt => ?_⟩
  · have hfar : e * y ≤ (-b - 1) * y := by gcongr; omega
    have hexpand : (-b - 1) * (y : Int) = -(y * b) - y := by ring
    omega
  · have hfar : (b + 1) * y ≤ e * y := by gcongr; omega
    have hexpand : (b + 1) * (y : Int) = y * b + y := by ring
    omega

/-- The mean of values in a range is in it (R29). -/
theorem mean_range {xs : List Int} {b : Int} (hne : xs ≠ []) (h : ∀ x ∈ xs, -b ≤ x ∧ x ≤ b) :
    -b ≤ roundDiv xs.sum xs.length ∧ roundDiv xs.sum xs.length ≤ b := by
  have hlow := List.card_nsmul_le_sum xs (-b) fun x hx => (h x hx).1
  have hhigh := List.sum_le_card_nsmul xs b fun x hx => (h x hx).2
  simp only [nsmul_eq_mul, mul_neg] at hlow hhigh
  have hpos := List.length_pos_iff.2 hne
  exact roundsTo_range hpos hlow hhigh (roundDiv_roundsTo _ hpos)

/-- The spread is the difference of two members, and none is larger. -/
theorem spread_spec {es : List Int} (h : es ≠ []) :
    (∃ u ∈ es, ∃ w ∈ es, (spread es : Int) = u - w) ∧ ∀ u ∈ es, ∀ w ∈ es, u - w ≤ (spread es : Int) := by
  obtain ⟨x, xs, rfl⟩ := List.exists_cons_of_ne_nil h
  obtain ⟨hmax, habove⟩ := List.max?_eq_some_iff.1 (List.max?_cons' (x := x) (xs := xs))
  obtain ⟨hmin, hbelow⟩ := List.min?_eq_some_iff.1 (List.min?_cons' (x := x) (xs := xs))
  have hspread : (spread (x :: xs) : Int) = xs.foldl max x - xs.foldl min x :=
    Int.toNat_of_nonneg (by have := habove _ hmin; omega)
  rw [hspread]
  refine ⟨⟨_, hmax, _, hmin, rfl⟩, fun u hu w hw => ?_⟩
  have := habove u hu
  have := hbelow w hw
  omega

/-- A spread is within a limit exactly when every difference of two members is. -/
theorem spread_le_iff (es : List Int) (l : Nat) :
    spread es ≤ l ↔ ∀ u ∈ es, ∀ w ∈ es, u - w ≤ (l : Int) := by
  by_cases h : es = []
  · simp [h, spread]
  · obtain ⟨⟨u, hu, w, hw, hspread⟩, hall⟩ := spread_spec h
    refine ⟨fun hl a ha b hb => (hall a ha b hb).trans (by exact_mod_cast hl), fun hl => ?_⟩
    have := hl u hu w hw
    omega

/-! ### The record of a close -/

/-- The record of a run for a judgment, with what its kind adds (R71). -/
def judgedRecord (x : Run) (j : Judgment) (completed drops : Nat) (body : RecordBody) : PointRecord where
  p := x.p
  r := x.r
  kind := x.kind
  verdict := j.verdict
  cause := j.cause
  value := j.value
  spread := j.spread
  completed := completed
  streamDrops := drops
  stale := false
  body := body

section Record

variable {c : CloseCause} {present : Bool} {count : Stamp} {x : Run}

theorem closeRecord_accuracy (hk : x.kind = .accuracy) : closeRecord c present count x =
    judgedRecord x (judgeAccuracy c x) x.completed x.streamDrops (.accuracy x.kept) := by
  unfold closeRecord
  rw [hk]
  simp [judgedRecord, hk]

theorem closeRecord_windowRun (hk : x.kind = .creep ∨ x.kind = .start) : closeRecord c present count x =
    judgedRecord x (judgeWindow c present x) x.pulses 0 (.window x.pulses x.firstOffset) := by
  unfold closeRecord
  rcases hk with hk | hk <;> rw [hk] <;> simp [judgedRecord, hk]

theorem closeRecord_register (hk : x.kind = .register) : closeRecord c present count x =
    judgedRecord x (judgeRegister c x) 0 0
      (.register x.before none (elapsed count x.openCount) x.entry.limits x.void none) := by
  unfold closeRecord
  rw [hk]
  simp [judgedRecord, hk]

theorem closeRecord_header : (closeRecord c present count x).p = x.p ∧ (closeRecord c present count x).r = x.r ∧
    (closeRecord c present count x).kind = x.kind ∧ (closeRecord c present count x).stale = false := by
  unfold closeRecord
  cases x.kind <;> exact ⟨rfl, rfl, rfl, rfl⟩

/-! Table 4.3 -/

theorem judgeAccuracy_void (h : x.void = true) : judgeAccuracy c x = ⟨.void, none, none, none⟩ := if_pos h

theorem judgeAccuracy_scanner (h : x.void = false) : judgeAccuracy .scanner x =
    ⟨.incomplete, some .scanner, mean (validErrors x.kept), none⟩ := by
  simp [judgeAccuracy, h]

theorem judgeAccuracy_settled (h : x.void = false) (hc : c ≠ .scanner) (hs : x.state = .settled) :
    judgeAccuracy c x = ⟨judgeValue x.entry.limits ((mean (latestErrors x)).getD 0), none, mean (latestErrors x),
      some (spread (latestErrors x))⟩ := by
  simp [judgeAccuracy, h, hc, hs]

theorem judgeAccuracy_unsettled (h : x.void = false) (hc : c ≠ .scanner) (hs : x.state ≠ .settled)
    (hn : x.stability ≤ x.completed) :
    judgeAccuracy c x = ⟨.unsettled, none, mean (validErrors x.kept), none⟩ := by
  simp [judgeAccuracy, h, hc, hs, hn]

theorem judgeAccuracy_incomplete (h : x.void = false) (hc : c ≠ .scanner) (hs : x.state ≠ .settled)
    (hn : x.completed < x.stability) :
    judgeAccuracy c x = ⟨.incomplete, some c.incomplete, mean (validErrors x.kept), none⟩ := by
  simp [judgeAccuracy, h, hc, hs, hn]

/-- A run passes only where it is settled, not void, not closed by the scanner, and its mean is within its limits
(Table 4.3). -/
theorem judgeAccuracy_pass (hne : latestErrors x ≠ []) (h : (judgeAccuracy c x).verdict = .pass) :
    x.state = .settled ∧ x.void = false ∧ c ≠ .scanner ∧
      ∃ l v, x.entry.limits = some l ∧ (judgeAccuracy c x).value = some v ∧ l.lower ≤ v ∧ v ≤ l.upper := by
  cases hv : x.void with
  | true => rw [judgeAccuracy_void hv] at h; cases h
  | false =>
    by_cases hc : c = .scanner
    · subst hc; rw [judgeAccuracy_scanner hv] at h; cases h
    by_cases hs : x.state = .settled
    · rw [judgeAccuracy_settled hv hc hs, mean_of_ne hne] at h ⊢
      refine ⟨hs, rfl, hc, ?_⟩
      cases hl : x.entry.limits with
      | none => rw [hl] at h; cases h
      | some l =>
        rw [hl] at h
        simp only [judgeValue, Option.getD_some] at h
        split at h
        · next hin => exact ⟨l, _, rfl, rfl, hin⟩
        · cases h
    by_cases hn : x.stability ≤ x.completed
    · rw [judgeAccuracy_unsettled hv hc hs hn] at h; cases h
    · rw [judgeAccuracy_incomplete hv hc hs (not_le.1 hn)] at h; cases h

/-! Table 5.1 -/

theorem judgeWindow_decided {o : Bool} (h : x.decided = some o ∨
    (x.decided = none ∧ c = .time ∧ present = true ∧ o = decide (x.kind = .creep))) : judgeWindow c present x =
      ⟨if x.entry.limits.isSome then (if o then .pass else .fail) else .info, none, none, none⟩ := by
  have houtcome : windowOutcome c present x = some o := by
    rcases h with h | ⟨h, rfl, rfl, rfl⟩
    · simp [windowOutcome, h]
    · simp only [windowOutcome, h]; rfl
  simp only [judgeWindow, houtcome]

theorem judgeWindow_undecided (h : x.decided = none) (hc : ¬ (c = .time ∧ present = true)) : judgeWindow c present x =
    ⟨.incomplete, some (if c = .scanner ∨ c = .time then .scanner else .forced), none, none⟩ := by
  have houtcome : windowOutcome c present x = none := by simpa [windowOutcome, h] using hc
  simp [judgeWindow, houtcome]

/-- A window run passes only decided so, or as a CREEP run at its window end (R78, R79). -/
theorem judgeWindow_pass_iff : (judgeWindow c present x).verdict = .pass ↔ x.entry.limits.isSome = true ∧
    (x.decided = some true ∨ (x.decided = none ∧ c = .time ∧ present = true ∧ x.kind = .creep)) := by
  cases hd : x.decided with
  | some o =>
    rw [judgeWindow_decided (.inl hd)]
    cases o <;> cases x.entry.limits.isSome <;> simp
  | none =>
    by_cases hc : c = .time ∧ present = true
    · rw [judgeWindow_decided (.inr ⟨hd, hc.1, hc.2, rfl⟩)]
      by_cases hk : x.kind = .creep <;> cases x.entry.limits.isSome <;> simp [hc, hk]
    · rw [judgeWindow_undecided hd hc]
      simp only [reduceCtorEq, false_or, false_iff, not_and]
      exact fun _ _ ht hp => absurd ⟨ht, hp⟩ hc

/-! Table 5.3 -/

theorem judgeRegister_without (h : x.before = none) : judgeRegister c x = ⟨.incomplete, some .noReading, none, none⟩ := by
  simp [judgeRegister, h]

theorem judgeRegister_scanner (h : x.before ≠ none) :
    judgeRegister .scanner x = ⟨.incomplete, some .scanner, none, none⟩ := by
  obtain ⟨b, hb⟩ := Option.ne_none_iff_exists'.1 h
  simp [judgeRegister, hb]

theorem judgeRegister_pending (h : x.before ≠ none) (hc : c ≠ .scanner) :
    judgeRegister c x = ⟨.pending, none, none, none⟩ := by
  obtain ⟨b, hb⟩ := Option.ne_none_iff_exists'.1 h
  simp [judgeRegister, hb, hc]

end Record

/-- A record reads as the judgment it is written for. -/
theorem judgedRecord_reads {x : Run} {j : Judgment} {n d : Nat} {b : RecordBody} {v : Verdict} {cause : Option Cause}
    {value : Option Int} {sp : Option Nat} (h : j = ⟨v, cause, value, sp⟩) :
    (judgedRecord x j n d b).verdict = v ∧ (judgedRecord x j n d b).cause = cause ∧
      (judgedRecord x j n d b).value = value ∧ (judgedRecord x j n d b).spread = sp := by
  subst h
  exact ⟨rfl, rfl, rfl, rfl⟩

/-- Settles O16: the record of each kind is the judgment of its table, row by row. -/
theorem closeRecordFollowsTables : Obligations.CloseRecordFollowsTables := by
  refine ⟨fun c present count x => ?_, rfl, fun xs hne => ⟨_, mean_of_ne hne, ?_, mean_range hne⟩⟩
  · intro y reads
    obtain ⟨hp, hr, hkind, hstale⟩ := closeRecord_header (c := c) (present := present) (count := count) (x := x)
    refine ⟨hp, hr, hkind, hstale, fun n st k m lim hpoint => ?_, fun hk hne hpass => ?_, fun hk => ?_, fun hk => ?_⟩
    · intro valid es
      have hst : x.stability = st := by rw [Run.stability, hpoint]
      have hy : y = judgedRecord x (judgeAccuracy c x) x.completed x.streamDrops (.accuracy x.kept) :=
        closeRecord_accuracy (by rw [Run.kind, hpoint]; rfl)
      have hes : latestErrors x = es := by rw [latestErrors, hst]; rfl
      clear_value y
      subst hy hst
      refine ⟨rfl, rfl, rfl, fun hv => judgedRecord_reads (judgeAccuracy_void hv), fun hv hc => ?_, fun hv hc =>
        ⟨fun hs hne => ?_, fun hs hn => judgedRecord_reads (judgeAccuracy_unsettled hv hc hs hn), fun hs hn => ?_⟩⟩
      · subst hc
        exact judgedRecord_reads (judgeAccuracy_scanner hv)
      · have hj := judgeAccuracy_settled hv hc hs
        rw [hes, mean_of_ne hne] at hj
        obtain ⟨hmember, hall⟩ := spread_spec hne
        refine ⟨_, _, mean_of_ne hne, hmember, hall, fun hl => ?_, fun l hl => ?_⟩
        · exact judgedRecord_reads (by rw [hj, hl]; rfl)
        · exact judgedRecord_reads (by rw [hj, hl]; rfl)
      · have hj := judgeAccuracy_incomplete hv hc hs hn
        refine ⟨fun hc => ?_, fun hc => ?_⟩ <;> subst hc <;> exact judgedRecord_reads hj
    · have hy : y = judgedRecord x (judgeAccuracy c x) x.completed x.streamDrops (.accuracy x.kept) :=
        closeRecord_accuracy hk
      clear_value y
      subst hy
      exact judgeAccuracy_pass hne hpass
    · have hy : y = judgedRecord x (judgeWindow c present x) x.pulses 0 (.window x.pulses x.firstOffset) :=
        closeRecord_windowRun hk
      clear_value y
      subst hy
      refine ⟨rfl, rfl, rfl, fun o ho => judgedRecord_reads (judgeWindow_decided ho), fun hd hc => ?_, fun hd hc => ?_,
        judgeWindow_pass_iff⟩
      · rcases hc with rfl | ⟨rfl, rfl⟩ <;> exact judgedRecord_reads (judgeWindow_undecided hd (by simp))
      · subst hc
        exact judgedRecord_reads (judgeWindow_undecided hd (by simp))
    · have hy : y = judgedRecord x (judgeRegister c x) 0 0
          (.register x.before none (elapsed count x.openCount) x.entry.limits x.void none) := closeRecord_register hk
      clear_value y
      subst hy
      refine ⟨rfl, rfl, rfl, fun hb => judgedRecord_reads (judgeRegister_without hb), fun hb hc => ?_,
        fun hb hc => judgedRecord_reads (judgeRegister_pending hb hc)⟩
      subst hc
      exact judgedRecord_reads (judgeRegister_scanner hb)
  · exact roundDiv_roundsTo _ (List.length_pos_iff.2 hne)

end Sys2Proof.Machine
end

section
/-! SUPPORT. The result of an evaluated gate: kept, offered to the stream, and settling or unsettling the run (R21, R22,
R59 to R63, R67, R113). -/

namespace Sys2Proof.Machine

/-! ### Results at the run -/

/-- The state with another open run and another transmit queue. -/
def withRunAndQueue (z : Run) (frames : List TxFrame) (s : State) : State :=
  { s with run := { s.run with run := some z }, line := { s.line with queue := frames } }

/-- PROGRESS into a queue with room: the run's progress value and the frame (R55, R87). -/
theorem reportProgress_room (x : Run) (v : Progress) {s : State} (h : s.line.queue.length < 8) :
    reportProgress x v s = withRunAndQueue { x with progress := v }
      (s.line.queue ++ [⟨.progress x.p x.r v s.meter.batch, s.fe.now, 0, false⟩]) s :=
  enqueue_room _ (setRun { x with progress := v } s) rfl h

/-- The run with a result kept, and a stream drop where the stream declines it (R60, R62). -/
def offeredRun (q : GateResult) (x : Run) (s : State) : Run := { keepResult q x with
  streamDrops := if s.cmd.setup.streaming = true ∧ 6 ≤ s.line.queue.length then min 65535 (x.streamDrops + 1)
    else x.streamDrops }

/-- The queue after a kept result is offered to the stream (R62, R162). -/
def offeredQueue (q : GateResult) (x : Run) (s : State) : List TxFrame := s.line.queue ++
  if s.cmd.setup.streaming = true ∧ s.line.queue.length < 6 then
    [⟨.measurement x.p x.r (nextSeq x.lastSeq) q.status q.error, s.fe.now, 0, false⟩] else []

theorem offeredQueue_room (q : GateResult) (x : Run) {s : State} (h : s.line.queue.length < 8) :
    (offeredQueue q x s).length < 8 := by
  unfold offeredQueue
  split
  · simp only [List.length_append, List.length_singleton]; omega
  · simpa using h

section Results

variable {q : GateResult} {x : Run} {s : State}

theorem takeResult_not_accuracy (hx : s.run.run = some x) (hk : x.kind ≠ .accuracy) : takeResult q s = s := by
  simp only [takeResult, hx, if_neg hk]

/-- A SKIPPING run counts a result down (R61). -/
theorem takeResult_skipping (hx : s.run.run = some x) (hk : x.kind = .accuracy) (hs : x.state = .skipping) :
    takeResult q s =
      setRun { x with skip := x.skip - 1, state := if x.skip ≤ 1 then .measuring else .skipping } s := by
  simp only [takeResult, hx, if_pos hk, hs]

/-- A kept result reaches the run and the queue, before the settlement test (R60, R62, R162). -/
theorem keepAndOffer_eq (q : GateResult) (x : Run) (s : State) :
    (if s.cmd.setup.streaming then
        offerMeasurement (keepResult q x) ⟨(keepResult q x).lastSeq, q.status, q.error⟩ s
      else setRun (keepResult q x) s) = withRunAndQueue (offeredRun q x s) (offeredQueue q x s) s := by
  by_cases hon : s.cmd.setup.streaming = true
  · by_cases hfull : 6 ≤ s.line.queue.length
    · simp [hon, hfull, hfull.not_gt, offerMeasurement, Config.measurementLimit, withRunAndQueue, offeredRun,
        offeredQueue, setRun, keepResult, Config.maxCount]
    · have hroom : s.line.queue.length < Config.queueCapacity := by simp only [Config.queueCapacity]; omega
      rw [if_pos hon, offerMeasurement, if_neg (show ¬ Config.measurementLimit ≤ _ from hfull),
        enqueue_room _ (setRun (keepResult q x) s) rfl hroom]
      simp [withRunAndQueue, offeredRun, offeredQueue, setRun, keepResult, newFrame, hon, hfull, not_le.1 hfull]
  · simp [hon, withRunAndQueue, offeredRun, offeredQueue, setRun, keepResult]

theorem takeResult_kept (hx : s.run.run = some x) (hk : x.kind = .accuracy)
    (hs : x.state = .measuring ∨ x.state = .settled) :
    takeResult q s = settlementTest (withRunAndQueue (offeredRun q x s) (offeredQueue q x s) s) := by
  rw [← keepAndOffer_eq]
  rcases hs with hs | hs <;> simp only [takeResult, hx, if_pos hk, hs]

/-! ### Settlement -/

/-- The settlement condition: S entries at least, the latest S all VALID, their spread within the limit (R63). -/
theorem settles_iff (x : Run) : settles x = true ↔ x.stability ≤ x.kept.length ∧
    (∀ e ∈ x.kept.drop (x.kept.length - x.stability), e.status = .valid) ∧
    ∀ l, x.entry.limits = some l → ∀ u ∈ latestErrors x, ∀ v ∈ latestErrors x, u - v ≤ (l.spread : Int) := by
  unfold settles
  rw [Bool.and_eq_true, Bool.and_eq_true, decide_eq_true_eq, and_assoc]
  refine and_congr Iff.rfl (and_congr (by simp [latest]) ?_)
  cases x.entry.limits with
  | none => simp
  | some l => simp [spread_le_iff]

theorem settlementTest_stays (hx : s.run.run = some x) (hs : x.state = .measuring ∨ x.state = .settled)
    (h : x.state = .settled ↔ settles x = true) : settlementTest s = s := by
  rcases hs with hs | hs
  · have hno : settles x = false := by rw [← Bool.not_eq_true, ← h, hs]; simp
    simp only [settlementTest, hx, hs, hno]
  · simp only [settlementTest, hx, hs, h.1 hs]

theorem settlementTest_unsettles (hx : s.run.run = some x) (hs : x.state = .settled) (h : ¬ settles x = true) :
    settlementTest s = reportProgress { x with state := .measuring } .measuring s := by
  have hno : settles x = false := by rwa [← Bool.not_eq_true]
  simp only [settlementTest, hx, hs, hno]

theorem settlementTest_settles (hx : s.run.run = some x) (hs : x.state = .measuring) (h : settles x = true) :
    settlementTest s = completionTest (reportProgress { x with state := .settled } .settled s) := by
  simp only [settlementTest, hx, hs, h]

end Results

/-! ### The command that evaluates a gate -/

/-- What a command that evaluates the gate from A to B hands over, and to which state: the end marker has started the next
gate, and a qualified edge may have reached pins, front end and tracker (R21, R22). -/
def gateTaken (n m : Nat) (o : Bool) (a b : Marker) (pins : Pins) (fe : FrontEnd) (trk : Tracker) (s : State) : State :=
  takeResult (resultOfGate n m o a b s)
    { s with pins := pins, fe := fe, trk := trk, ec := .gating n m ⟨b, 0, false, none⟩ }

/-- The delayed evaluation hands the result over in the state as it stands, a qualified edge after its marker has formed,
and before a counting run counts it. -/
structure GateExec (i : Instr) (n m : Nat) (o : Bool) (a b : Marker) (pins : Pins) (fe : FrontEnd) (trk : Tracker)
    (s t : State) : Prop where
  exec : exec i s = .next t
  ec : t.ec = (gateTaken n m o a b pins fe trk s).ec
  uncounted : (∀ x, (gateTaken n m o a b pins fe trk s).run.run = some x → x.state ≠ .counting) →
    t = gateTaken n m o a b pins fe trk s
  present : pins.present = s.pins.present
  now : fe.now = s.fe.now
  count : trk.count = s.trk.count
  delayed : i = .delayedGateEvaluation →
    t = gateTaken n m o a b pins fe trk s ∧ pins = s.pins ∧ fe = s.fe ∧ trk = s.trk

theorem countPulse_uncounted {t : Stamp} {s : State} (h : ∀ x, s.run.run = some x → x.state ≠ .counting) :
    countPulse t s = s := by
  cases hx : s.run.run with
  | none => exact countPulse_none hx
  | some x => exact countPulse_not_counting hx (h x hx)

theorem exec_evaluatesGate {i : Instr} {n m : Nat} {a b : Marker} {o : Bool} {s : State} (hp : s.phase = .running)
    (h : EvaluatesGate i n m a b o s) : ∃ pins fe trk t, GateExec i n m o a b pins fe trk s t := by
  rcases h with ⟨rfl, ⟨k, hec⟩, hdue⟩ | ⟨x, k, spoiled, hq, ht, hec, hk, hroom, rfl, rfl⟩
  · have heval : exec .delayedGateEvaluation s = .next (gateTaken n m o a b s.pins s.fe s.trk s) := by
      have hdue' : evaluationDue s.ec = some s.fe.now := by rw [hec, ← hdue]; rfl
      refine congrArg Host.Outcome.next ((whenDue_due hp hdue').trans ?_)
      simp only [evaluateGate, hec]
      rfl
    exact ⟨s.pins, s.fe, s.trk, _, heval, rfl, fun _ => rfl, rfl, rfl, rfl, fun _ => ⟨rfl, rfl, rfl, rfl⟩⟩
  · obtain ⟨pins, hexec, hpresent⟩ := exec_qualifies hp hq
    have hvoid : ¬ Voids x { s with pins := pins } := by
      rintro ⟨hnext, hfull⟩
      exact hroom.elim (fun hn => hn hnext) (fun hl => absurd hfull hl.not_ge)
    have htaken := takeMarker_ends_later (m := markerOf x s.trk.overrate) (s := markerFormed x { s with pins := pins })
      hec rfl hk ht
    have hqualify : qualify x { s with pins := pins } = countPulse x.t (gateTaken n m (spoiled || s.trk.overrate) a
        (markerOf x s.trk.overrate) pins (qualifiedFe x s)
        (markerFormed x s).trk s) := by
      rw [qualify_eq_takeMarker, voids_false hvoid]
      exact congrArg (countPulse x.t) htaken
    refine ⟨pins, qualifiedFe x s, (markerFormed x s).trk, _, hexec, ?_, fun huncounted => ?_, hpresent, rfl, rfl,
      fun hi => ?_⟩
    · rw [hqualify]
      exact (countPulse_leaves _ _).1
    · rw [hqualify]
      exact countPulse_uncounted huncounted
    · subst hi
      rcases hq with ⟨hi, -⟩ | ⟨hi, -⟩ | ⟨hi, -⟩ <;> cases hi

/-- Where the result handed over leaves u, beside pins, front end and tracker, and no run counts edges, so does the
command. -/
theorem GateExec.leaves {i : Instr} {n m : Nat} {o : Bool} {a b : Marker} {pins : Pins} {fe : FrontEnd} {trk : Tracker}
    {s t u : State} (h : GateExec i n m o a b pins fe trk s t)
    (hu : gateTaken n m o a b pins fe trk s = { u with pins := pins, fe := fe, trk := trk })
    (hrun : ∀ x, u.run.run = some x → x.state ≠ .counting)
    (hsame : u.pins = s.pins ∧ u.fe = s.fe ∧ u.trk = s.trk) :
    ∃ t, Machine.exec i s = .next t ∧ t = { u with pins := t.pins, fe := t.fe, trk := t.trk } ∧
      (i = .delayedGateEvaluation → t = u) := by
  have ht : t = { u with pins := pins, fe := fe, trk := trk } := by
    rw [← hu]
    refine h.uncounted ?_
    rw [hu]
    exact hrun
  obtain ⟨hpins, hfe, htrk⟩ := hsame
  refine ⟨t, h.exec, by rw [ht], fun hi => ?_⟩
  obtain ⟨-, hpins', hfe', htrk'⟩ := h.delayed hi
  rw [ht, hpins', hfe', htrk', ← hpins, ← hfe, ← htrk]

/-- A run that settles with no peer pending closes by completion (R63, R67). -/
theorem settlementTest_completes {x : Run} {s : State} (hx : s.run.run = some x) (hs : x.state = .measuring)
    (h : settles x = true) (hpend : ¬ PeerPending x.p x.r s) :
    RunClosed .completion { x with state := .settled, progress := .settled }
      (reportProgress { x with state := .settled } .settled s) (settlementTest s) := by
  obtain ⟨hrun, -, -, -, -, hroster⟩ := reportProgress_fields { x with state := .settled } .settled s
  have hrun' := congrArg PointRunner.run hrun
  rw [settlementTest_settles hx hs h, completionTest_done hrun' rfl (by unfold PeerPending; rw [hroster]; exact hpend)]
  exact closeRun_closed hrun'

/-- With a peer pending a run that settles stays open (R63, R67). -/
theorem settlementTest_waits {x : Run} {s : State} (hx : s.run.run = some x) (hs : x.state = .measuring)
    (h : settles x = true) (hpend : PeerPending x.p x.r s) :
    settlementTest s = reportProgress { x with state := .settled } .settled s := by
  obtain ⟨hrun, -, -, -, -, hroster⟩ := reportProgress_fields { x with state := .settled } .settled s
  rw [settlementTest_settles hx hs h]
  exact completionTest_pending (congrArg PointRunner.run hrun) (by unfold PeerPending; rw [hroster]; exact hpend)

theorem offeredRun_eq {q : GateResult} {x : Run} {s : State} : offeredRun q x s = { x with
    lastSeq := nextSeq x.lastSeq
    kept := (x.kept ++ [KeptEntry.mk (nextSeq x.lastSeq) q.status q.error]).drop (x.kept.length + 1 - 16)
    completed := min 65535 (x.completed + 1)
    streamDrops := if s.cmd.setup.streaming = true ∧ 6 ≤ s.line.queue.length then min 65535 (x.streamDrops + 1)
      else x.streamDrops } := by
  simp only [offeredRun, keepResult, latest, List.length_append, List.length_singleton]
  rfl

/-- Settles O13: the command hands the gate's result to the run, which takes it by its kind and state. -/
theorem gateEvaluated : Obligations.GateEvaluated := by
  refine ⟨fun s hp h => ?_, fun i n m a b o s hp he => ?_⟩
  · refine congrArg Host.Outcome.next (whenDue_not_due fun hdue => ?_)
    obtain ⟨n, m, ⟨a, k, o, e⟩, b, hec, hend, hnow⟩ := evaluationDue_eq_some.1 hdue
    obtain rfl : e = some b := hend
    exact (h n m a k o b).elim (fun hne => hne hec) (fun hne => hne hnow)
  · intro leaves next
    obtain ⟨pins, fe, trk, t, hg⟩ := exec_evaluatesGate hp he
    let v : State := { s with pins := pins, fe := fe, trk := trk, ec := next }
    have hother : ∀ x, s.run.run = some x → x.kind ≠ .accuracy → gateTaken n m o a b pins fe trk s = v :=
      fun x hx hk => takeResult_not_accuracy (s := v) hx hk
    refine ⟨fun hrun => ?_, fun x hx hk => ⟨fun hcase => ?_, t, hg.exec, ?_⟩, fun x hx hk hs => ?_, ?_⟩
    · have hnone : TakesNoResult v := fun x hx => by
        rw [show s.run.run = some x from hx] at hrun
        cases hrun
      exact hg.leaves (u := { s with ec := next }) (takeResult_of_none hnone)
        (fun x hx => by rw [show s.run.run = some x from hx] at hrun; cases hrun) ⟨rfl, rfl, rfl⟩
    · rcases hcase with hi | hs
      · obtain ⟨ht, hpins, hfe, htrk⟩ := hg.delayed hi
        have ht' : t = { s with ec := next } := by rw [ht, hother x hx hk]; simp only [v, hpins, hfe, htrk]
        exact ⟨t, hg.exec, by rw [ht'], fun _ => ht'⟩
      · refine hg.leaves (u := { s with ec := next }) (hother x hx hk) (fun y hy => ?_) ⟨rfl, rfl, rfl⟩
        exact Option.some.inj (hx.symm.trans hy) ▸ hs
    · rw [hg.ec, hother x hx hk]
    · refine hg.leaves (takeResult_skipping (s := v) hx hk hs) (fun y hy => ?_) ⟨rfl, rfl, rfl⟩
      obtain rfl := Option.some.inj hy
      dsimp only
      split <;> simp
    · intro x nn st kk mr lim cMut hx hpoint hs hconst q seq declined y queue last sett after
      have hk : x.kind = .accuracy := by rw [Run.kind, hpoint]; rfl
      have hq : resultOfGate n m o a b s = q := by simp only [resultOfGate, hconst]; rfl
      have hy : offeredRun q x v = y := offeredRun_eq
      have hqueue : offeredQueue q x v = queue := by
        simp only [offeredQueue, v, hg.now]
        rfl
      have hgate : gateTaken n m o a b pins fe trk s = settlementTest (withRunAndQueue y queue v) := by
        rw [← hy, ← hqueue, ← hq]
        exact takeResult_kept (s := v) hx hk hs
      have hst : y.stability = st := by simp only [Run.stability, y, hpoint]
      have hsett : settles y = true ↔ sett := by rw [settles_iff, latestErrors, hst]; rfl
      have hw : (withRunAndQueue y queue v).run.run = some y := rfl
      have hroom (h : s.line.queue.length < 8) : (withRunAndQueue y queue v).line.queue.length < 8 :=
        hqueue ▸ offeredQueue_room (s := v) q x h
      refine ⟨fun hiff => ?_, fun hset hno hlen => ?_, fun hmeas hyes hpend hlen => ?_, fun hmeas hyes hpend hp32 => ?_⟩
      · refine hg.leaves (u := after y queue) (hgate.trans (settlementTest_stays hw hs (hiff.trans hsett.symm)))
          (fun z hz => ?_) ⟨rfl, rfl, rfl⟩
        obtain rfl := Option.some.inj hz
        rcases hs with hs | hs <;> simp [y, hs]
      · rw [settlementTest_unsettles hw hset (fun h => hno (hsett.1 h)), reportProgress_room _ _ (hroom hlen)] at hgate
        refine hg.leaves (hgate.trans ?_) (fun z hz => ?_) ⟨rfl, rfl, rfl⟩
        · simp only [withRunAndQueue, v, hg.now]
          rfl
        · obtain rfl := Option.some.inj hz
          simp
      · rw [settlementTest_waits hw hmeas (hsett.2 hyes) hpend, reportProgress_room _ _ (hroom hlen)] at hgate
        refine hg.leaves (hgate.trans ?_) (fun z hz => ?_) ⟨rfl, rfl, rfl⟩
        · simp only [withRunAndQueue, v, hg.now]
          rfl
        · obtain rfl := Option.some.inj hz
          simp
      · have hclosed := settlementTest_completes hw hmeas (hsett.2 hyes) hpend
        obtain ⟨-, -, htrk, -, hpins, -⟩ :=
          reportProgress_fields { y with state := .settled } .settled (withRunAndQueue y queue v)
        have hnone : (settlementTest (withRunAndQueue y queue v)).run.run = none := by rw [hclosed.run]
        have ht : t = settlementTest (withRunAndQueue y queue v) := by
          rw [← hgate]
          exact hg.uncounted fun z hz => by rw [hgate, hnone] at hz; cases hz
        refine ⟨t, hg.exec, by rw [ht, hnone], by rw [ht, hclosed.run], by rw [ht, (hclosed.disarmed hk).1], ?_⟩
        rw [ht, hclosed.record hp32, hpins, htrk]
        exact congrArg₂ (fun p c => some (closeRecord .completion p c _)) hg.present hg.count

end Sys2Proof.Machine
end

section
/-! SUPPORT. The evaluation of the meter record and the seal check of a held number, in the terms of the statements (R94 to
R97, R132). -/

namespace Sys2Proof.Machine

/-! ### The overall verdict -/

theorem sealRelevant_iff (s : State) (p : Nat) : sealRelevant s p = true ↔ SealRelevant s p := by
  unfold sealRelevant activeEntry SealRelevant
  split
  · next h => simp [h]
  · next h =>
    cases he : slotGet s.plan.active p with
    | none => simp
    | some e =>
      obtain ⟨point, limits⟩ := e
      cases limits with
      | none => simp
      | some l => exact absurd he (h point l)

theorem currentRecord_iff (s : State) (p : Nat) : currentRecord s p = true ↔
    ((slotGet s.meter.records p).any fun x => !x.stale && x.verdict != .pending) = true := by
  unfold currentRecord
  split <;> simp_all

theorem passRecord_iff (s : State) (p : Nat) : passRecord s p = true ↔
    ((slotGet s.meter.records p).any fun x => x.verdict == .pass) = true := by
  unfold passRecord
  split <;> simp_all

theorem mem_sealRelevantSet {s : State} {p : Nat} : p ∈ sealRelevantSet s ↔ p < 32 ∧ SealRelevant s p := by
  simp only [sealRelevantSet, List.mem_filter, List.mem_range, sealRelevant_iff]

/-- An overall verdict exists exactly where R94 has one. -/
theorem verdictExists_iff (s : State) : VerdictExists s ↔ overallVerdict s ≠ none := by
  have hguard : ((sealRelevantSet s).isEmpty || !(sealRelevantSet s).all (currentRecord s) || s.run.run.isSome) = false ↔
      VerdictExists s := by
    simp only [Bool.or_eq_false_iff, Bool.not_eq_false', List.all_eq_true, Option.isSome_eq_false_iff,
      Option.isNone_iff_eq_none, List.isEmpty_eq_false_iff_exists_mem, mem_sealRelevantSet, currentRecord_iff]
    exact ⟨fun ⟨⟨hex, hall⟩, hrun⟩ => ⟨hrun, hex, fun p hp hs => hall p ⟨hp, hs⟩⟩,
      fun ⟨hrun, hex, hall⟩ => ⟨⟨hex, fun p hp => hall p hp.1 hp.2⟩, hrun⟩⟩
  rw [← hguard, overallVerdict, ← Bool.not_eq_true]
  split
  · simp_all
  · split <;> simp_all

theorem allPass_iff (s : State) : AllPass s ↔ (sealRelevantSet s).all (passRecord s) = true := by
  simp only [List.all_eq_true, mem_sealRelevantSet, passRecord_iff]
  exact ⟨fun h p hp => h p hp.1 hp.2, fun h p hp hs => h p ⟨hp, hs⟩⟩

/-- The overall verdict is ELIGIBLE exactly where one exists and every seal-relevant record is PASS (R94). -/
theorem eligible_iff (s : State) : overallVerdict s = some .eligible ↔ VerdictExists s ∧ AllPass s := by
  rw [verdictExists_iff, allPass_iff, overallVerdict]
  split
  · simp
  · split <;> simp_all

/-- A verdict that exists is ELIGIBLE or REJECTED. -/
theorem overallVerdict_cases (s : State) :
    (¬ VerdictExists s ∧ overallVerdict s = none) ∨ (VerdictExists s ∧ AllPass s ∧ overallVerdict s = some .eligible) ∨
      (VerdictExists s ∧ ¬ AllPass s ∧ overallVerdict s = some .rejected) := by
  have helig := eligible_iff s
  cases h : overallVerdict s with
  | none => exact .inl ⟨by rw [verdictExists_iff, h]; simp, rfl⟩
  | some v =>
    have hex : VerdictExists s := by rw [verdictExists_iff, h]; simp
    cases v with
    | eligible => exact .inr (.inl ⟨hex, (helig.1 h).2, rfl⟩)
    | rejected => exact .inr (.inr ⟨hex, fun hall => by have := helig.2 ⟨hex, hall⟩; simp [h] at this, rfl⟩)

/-- Verdict and batch state are evaluated where they are those of the overall verdict (Table 6.3). -/
theorem evaluated_of_eq {s : State} (hv : s.meter.verdict = overallVerdict s)
    (hb : s.meter.batch = stateOfVerdict (overallVerdict s)) : Evaluated s := by
  rcases overallVerdict_cases s with ⟨hex, h⟩ | ⟨hex, hall, h⟩ | ⟨hex, hall, h⟩ <;> rw [h] at hv hb
  · exact ⟨fun _ => ⟨hv, hb⟩, fun h => absurd h hex, fun h => absurd h hex⟩
  · exact ⟨fun h => absurd hex h, fun _ _ => ⟨hv, hb⟩, fun _ h => absurd hall h⟩
  · exact ⟨fun h => absurd hex h, fun _ h => absurd h hall, fun _ _ => ⟨hv, hb⟩⟩

/-- The overall verdict reads whether a run is open, the active entries and the records, and nothing else (R94). -/
theorem overallVerdict_congr {s t : State} (hrun : t.run.run = s.run.run) (hactive : t.plan.active = s.plan.active)
    (hrecords : t.meter.records = s.meter.records) : overallVerdict t = overallVerdict s := by
  have hset : sealRelevantSet t = sealRelevantSet s := by
    simp only [sealRelevantSet, funext fun p => (show sealRelevant t p = sealRelevant s p by
      simp only [sealRelevant, activeEntry, hactive])]
  have hcurrent : currentRecord t = currentRecord s := by funext p; simp only [currentRecord, hrecords]
  have hpass : passRecord t = passRecord s := by funext p; simp only [passRecord, hrecords]
  simp only [overallVerdict, hset, hcurrent, hpass, hrun]

theorem evaluated_congr {s t : State} (hrun : t.run.run = s.run.run) (hactive : t.plan.active = s.plan.active)
    (hmeter : t.meter = s.meter) (h : s.meter.verdict = overallVerdict s ∧
      s.meter.batch = stateOfVerdict (overallVerdict s)) : Evaluated t := by
  have hsame := overallVerdict_congr hrun hactive (by rw [hmeter])
  exact evaluated_of_eq (by rw [hmeter, hsame, h.1]) (by rw [hmeter, hsame, h.2])

/-! ### The evaluation -/

theorem evaluateRecord_active {s : State} (h : evaluates s.meter.batch = true) : evaluateRecord s =
    { s with meter := { s.meter with
      verdict := overallVerdict s, batch := stateOfVerdict (overallVerdict s) } } := if_pos h

/-- An evaluation stores the verdict and sets the state of Table 6.3. -/
theorem evaluateRecord_stores {s : State} (h : evaluates s.meter.batch = true) :
    (evaluateRecord s).meter.verdict = overallVerdict (evaluateRecord s) ∧
      (evaluateRecord s).meter.batch = stateOfVerdict (overallVerdict (evaluateRecord s)) := by
  rw [evaluateRecord_active h]
  exact ⟨rfl, rfl⟩

theorem evaluates_stateOfVerdict (v : Option Overall) : evaluates (stateOfVerdict v) = true := by
  rcases v with _ | _ | _ <;> rfl

/-- An evaluation keeps whether the meter record evaluates, and the held number. -/
theorem evaluateRecord_meter (s : State) : evaluates (evaluateRecord s).meter.batch = evaluates s.meter.batch ∧
    (evaluateRecord s).meter.held = s.meter.held := by
  unfold evaluateRecord
  split
  · next h => exact ⟨by rw [h]; exact evaluates_stateOfVerdict _, rfl⟩
  · exact ⟨rfl, rfl⟩

theorem checkHeld_none {s : State} (h : s.meter.held = none) : checkHeld s = s := by simp only [checkHeld, h]

/-- With no number held an evaluation stores verdict and batch state, and tells no one (R95, R96). -/
theorem evaluate_not_held {s : State} (h : s.meter.held = none) : evaluate s = evaluateRecord s := by
  have hheld : (evaluateRecord s).meter.held = none := (evaluateRecord_meter s).2.trans h
  unfold evaluate
  dsimp only
  split
  · exact checkHeld_none hheld
  · rfl

/-! ### The seal check -/

theorem sealTaken_iff (number : Text) (s : State) : sealTaken number s = true ↔ SealTaken number s := by
  simp [sealTaken, SealTaken]

/-- The state that claims a number, before its CLAIM is queued (R132). -/
def numberClaimed (number : Text) (s : State) : State := { s with
  sealUnit := { s.sealUnit with
    claimNumber := nextClaim s.sealUnit.claimNumber
    current := some ⟨nextClaim s.sealUnit.claimNumber, number, false⟩ }
  meter := { s.meter with batch := .claiming } }

theorem sealCheck_free {number : Text} {s : State} (h : ¬ sealTaken number s = true) :
    sealCheck number s = enqueue (.claim (nextClaim s.sealUnit.claimNumber) number) (numberClaimed number s) := if_neg h

/-- The seal check of a held number, with room for a CLAIM (R132). -/
theorem sealCheck_checked {number : Text} {s : State} (hb : s.meter.batch = .awaitSeal)
    (hheld : s.meter.held = some number) (hroom : s.line.queue.length < 8) :
    SealChecked number s (sealCheck number s) ∧ (sealCheck number s).meter.verdict = s.meter.verdict := by
  by_cases htaken : sealTaken number s = true
  · obtain ⟨hmeter, hunit⟩ := raiseNotice_of_not_claiming .sealReused (s := s) (by simp [hb])
    have hcheck : sealCheck number s = { raiseNotice .sealReused s with
        meter := { (raiseNotice .sealReused s).meter with held := none } } := if_pos htaken
    rw [hcheck, hmeter]
    exact ⟨⟨fun _ => ⟨hb, rfl, hunit, raiseNotice_raises _ _⟩, fun h => absurd ((sealTaken_iff _ _).1 htaken) h⟩, rfl⟩
  · rw [sealCheck_free htaken, enqueue_room _ (numberClaimed number s) rfl hroom]
    exact ⟨⟨fun h => absurd ((sealTaken_iff _ _).2 h) htaken,
      fun _ => ⟨rfl, hheld, rfl, _, List.mem_append_right _ (List.mem_singleton_self _), rfl⟩⟩, rfl⟩

/-- An evaluation in RUNNING over a held number: the number is checked where the verdict is ELIGIBLE, and waits where it
is not (R96). -/
theorem evaluate_held {number : Text} {s : State} (hb : s.meter.batch = .running) (hheld : s.meter.held = some number)
    (hroom : s.line.queue.length < 8) :
    (overallVerdict s ≠ some .eligible → evaluate s = evaluateRecord s) ∧
      (overallVerdict s = some .eligible →
        (evaluate s).meter.verdict = some .eligible ∧ SealChecked number s (evaluate s)) := by
  have hrecord := evaluateRecord_active (s := s) (by rw [hb]; rfl)
  have heval : evaluate s = checkHeld (evaluateRecord s) := by
    unfold evaluate
    exact if_pos (by simp [hb])
  refine ⟨fun hv => heval.trans (checkHeld_of_ne ?_), fun hv => ?_⟩
  · rw [hrecord]
    dsimp only
    rcases overallVerdict_cases s with ⟨-, h⟩ | ⟨-, -, h⟩ | ⟨-, -, h⟩
    · rw [h]; decide
    · exact absurd h hv
    · rw [h]; decide
  · have hawait : (evaluateRecord s).meter.batch = .awaitSeal := by rw [hrecord, hv]; rfl
    have hheld' : (evaluateRecord s).meter.held = some number := (evaluateRecord_meter s).2.trans hheld
    have hcheck : evaluate s = sealCheck number (evaluateRecord s) := by
      simp only [heval, checkHeld, hheld', if_pos hawait]
    have hline : (evaluateRecord s).line = s.line := by rw [hrecord]
    obtain ⟨hchecked, hverdict⟩ := sealCheck_checked hawait hheld' (by rw [hline]; exact hroom)
    rw [hcheck]
    refine ⟨by rw [hverdict, hrecord, hv], ?_⟩
    rw [hrecord] at hchecked ⊢
    exact hchecked

end Sys2Proof.Machine
end

section
/-! SUPPORT. What every close writes, queues and evaluates, and the commands that close an open run (R19, R66 to R71, R87,
R95, R96, R168). -/

namespace Sys2Proof.Machine

/-! ### A close in two steps -/

theorem closeRun_none {c : CloseCause} {s : State} (hx : s.run.run = none) : closeRun c s = s := by
  simp only [closeRun, hx]

theorem disarm_eq (s : State) : disarm s = { s with
    ec := .idle, trk := { s.trk with queue := if s.ec = .idle then s.trk.queue else [] } } := by
  unfold disarm
  cases hec : s.ec with
  | idle => simp [← hec]
  | armed n m => simp
  | gating n m g => simp

/-- Taking the run out reaches the run, the standing, the error computer and the marker queue (R69). -/
theorem runRemoved_eq (x : Run) (s : State) : runRemoved x s = { s with
    run := { s.run with run := none, standing := .closed x.p x.r }
    ec := (runRemoved x s).ec
    trk := (runRemoved x s).trk } := by
  unfold runRemoved
  dsimp only
  split
  · rw [disarm_eq]
  · rfl

/-- The state in which a close evaluates: the record written, WITHDRAWN and POINT-RESULT queued (R69). -/
def closeAnnounced (c : CloseCause) (x : Run) (s : State) : State :=
  let record := closeRecord c s.pins.present s.trk.count x
  let written := writeRecord record (runRemoved x s)
  enqueue (resultOf record) (if c = .scanner then enqueue (.progress x.p x.r .withdrawn .running) written else written)

section Announced

variable {c : CloseCause} {x : Run} {s : State}

theorem closeRun_eq (hx : s.run.run = some x) : closeRun c s = evaluate (closeAnnounced c x s) := by
  obtain ⟨-, hpins, -, -, -, -, hcount⟩ := runRemoved_fields x s
  unfold closeAnnounced
  rw [← hpins, ← hcount]
  simp only [closeRun, hx]
  rfl

/-- Writing the record and queuing the frames of a close reach what queuing reaches, and remember the records. -/
theorem closeAnnounced_keeps (c : CloseCause) (x : Run) (s : State) :
    let written := writeRecord (closeRecord c s.pins.present s.trk.count x) (runRemoved x s)
    QueuingKeeps written (closeAnnounced c x s) ∧ Remembers written (closeAnnounced c x s) := by
  intro written
  unfold closeAnnounced
  dsimp only
  split
  · exact ⟨(enqueue_keeps _ _).trans (enqueue_keeps _ _), (enqueue_remembers _ _).trans (enqueue_remembers _ _)⟩
  · exact ⟨enqueue_keeps _ _, enqueue_remembers _ _⟩

theorem closeRun_records (hx : s.run.run = some x) : (closeRun c s).meter.records =
    slotSet s.meter.records x.p (some (closeRecord c s.pins.present s.trk.count x)) := by
  obtain ⟨-, -, hmeter, -⟩ := runRemoved_fields x s
  rw [closeRun_eq hx, (evaluate_remembers _).records, (closeAnnounced_keeps c x s).2.records]
  simp only [writeRecord_meter, hmeter, closeRecord_header.1]

/-- Outside CLAIMING the announcement writes the record, and leaves the seal unit (R69). -/
theorem closeAnnounced_quiet (c : CloseCause) (x : Run) (hb : s.meter.batch ≠ .claiming) :
    (closeAnnounced c x s).meter = { s.meter with
      records := slotSet s.meter.records x.p (some (closeRecord c s.pins.present s.trk.count x)) } ∧
    (closeAnnounced c x s).sealUnit = s.sealUnit := by
  have hwritten : (writeRecord (closeRecord c s.pins.present s.trk.count x) (runRemoved x s)).meter.batch ≠
      .claiming := by
    rw [writeRecord_meter, runRemoved_eq]
    exact hb
  have hmeter : (writeRecord (closeRecord c s.pins.present s.trk.count x) (runRemoved x s)).meter = { s.meter with
      records := slotSet s.meter.records x.p (some (closeRecord c s.pins.present s.trk.count x)) } := by
    rw [writeRecord_meter, runRemoved_eq, closeRecord_header.1]
  have hunit : (writeRecord (closeRecord c s.pins.present s.trk.count x) (runRemoved x s)).sealUnit = s.sealUnit := by
    rw [writeRecord_sealUnit, runRemoved_eq]
  unfold closeAnnounced
  dsimp only
  split
  · obtain ⟨hm, hu⟩ := enqueue_of_not_claiming (.progress x.p x.r .withdrawn .running) hwritten
    obtain ⟨hm', hu'⟩ := enqueue_of_not_claiming (resultOf (closeRecord c s.pins.present s.trk.count x))
      (s := enqueue (.progress x.p x.r .withdrawn .running)
        (writeRecord (closeRecord c s.pins.present s.trk.count x) (runRemoved x s))) (by rw [hm]; exact hwritten)
    exact ⟨hm'.trans (hm.trans hmeter), hu'.trans (hu.trans hunit)⟩
  · obtain ⟨hm, hu⟩ := enqueue_of_not_claiming (resultOf (closeRecord c s.pins.present s.trk.count x)) hwritten
    exact ⟨hm.trans hmeter, hu.trans hunit⟩

/-- The frames of a close: WITHDRAWN where the scanner closes it, then POINT-RESULT (R69, R72). -/
def closeFrames (c : CloseCause) (x : Run) (s : State) : List TxFrame :=
  let record := closeRecord c s.pins.present s.trk.count x
  (if c = .scanner then [⟨.progress x.p x.r .withdrawn .running, s.fe.now, 0, false⟩] else []) ++
    [⟨.pointResult x.p x.r record.verdict record.value record.spread record.completed, s.fe.now, 0, false⟩]

/-- With room for its frames a close queues them, and nothing else is lost or queued (R69). -/
theorem closeAnnounced_room (c : CloseCause) (x : Run) (h : s.line.queue.length ≤ 6) : closeAnnounced c x s =
    { writeRecord (closeRecord c s.pins.present s.trk.count x) (runRemoved x s) with
      line := { s.line with queue := s.line.queue ++ closeFrames c x s } } := by
  have hline : (writeRecord (closeRecord c s.pins.present s.trk.count x) (runRemoved x s)).line = s.line := by
    rw [writeRecord_line, runRemoved_eq]
  have hfe : (writeRecord (closeRecord c s.pins.present s.trk.count x) (runRemoved x s)).fe = s.fe := by
    rw [writeRecord_fe, runRemoved_eq]
  have hresult : resultOf (closeRecord c s.pins.present s.trk.count x) =
      .pointResult x.p x.r (closeRecord c s.pins.present s.trk.count x).verdict
        (closeRecord c s.pins.present s.trk.count x).value (closeRecord c s.pins.present s.trk.count x).spread
        (closeRecord c s.pins.present s.trk.count x).completed := by
    obtain ⟨hp, hr, -⟩ := closeRecord_header (c := c) (present := s.pins.present) (count := s.trk.count) (x := x)
    rw [resultOf, hp, hr]
  unfold closeAnnounced closeFrames
  dsimp only
  rw [hresult]
  generalize writeRecord _ (runRemoved x s) = w at *
  split
  · rw [enqueue_room _ w rfl (by rw [hline]; exact Nat.lt_of_le_of_lt h (by decide)),
      enqueue_room _ _ rfl (by
        dsimp only
        rw [hline, List.length_append, List.length_singleton]
        exact Nat.lt_of_le_of_lt (Nat.add_le_add_right h 1) (by decide))]
    simp only [hline, hfe, newFrame, List.append_assoc]
  · rw [enqueue_room _ w rfl (by rw [hline]; exact Nat.lt_of_le_of_lt h (by decide))]
    simp only [hline, hfe, newFrame, List.nil_append]

end Announced

/-! ### The effect of a close -/

/-- A record read but for its stale mark. -/
def unstaled (x : PointRecord) : PointRecord := { x with stale := false }

/-- What a close of run x writes, and what it leaves, up to stale marks of a copy made after it (R19, R69, R71). -/
structure RunWritten (c : CloseCause) (x : Run) (s t : State) : Prop where
  run : t.run = { s.run with run := none, standing := .closed x.p x.r }
  record : ∃ y, slotGet t.meter.records x.p = some y ∧ unstaled y = closeRecord c s.pins.present s.trk.count x
  others : ∀ p, p ≠ x.p → (slotGet t.meter.records p).map unstaled = (slotGet s.meter.records p).map unstaled
  count : t.trk.count = s.trk.count
  roster : t.roster = s.roster
  xc : t.xc = s.xc
  setup : t.cmd.setup = s.cmd.setup
  disarmed : x.kind = .accuracy → s.ec ≠ .idle → t.ec = .idle ∧ t.trk.queue = []
  unsealed : s.meter.held = none → s.meter.batch = .running → t.sealUnit = s.sealUnit ∧ t.meter.held = none

/-- What a close of run x spares and queues (R69, R72, R168). -/
structure RunAnnounced (c : CloseCause) (x : Run) (s t : State) : Prop where
  spared : x.kind ≠ .accuracy → t.ec = s.ec ∧ t.trk = s.trk
  queue : s.meter.held = none → s.line.queue.length ≤ 6 → t.line.queue = s.line.queue ++ closeFrames c x s ∧
    t.cmd.series = supersede x.p s.cmd.series ∧ t.meter.held = none

/-- What a close in RUNNING does about a held number: it waits, or is checked where the verdict is ELIGIBLE (R96). -/
def HeldChecked (number : Text) (s t : State) : Prop :=
  (¬ (VerdictExists t ∧ AllPass t) → Evaluated t ∧ t.meter.held = some number ∧ t.sealUnit = s.sealUnit) ∧
  (VerdictExists t → AllPass t → t.meter.verdict = some .eligible ∧ SealChecked number s t)

section Effect

variable {c : CloseCause} {x : Run} {s : State}

theorem closeRun_unsealed (hx : s.run.run = some x) (hheld : s.meter.held = none) (hb : s.meter.batch = .running) :
    (closeRun c s).sealUnit = s.sealUnit ∧ (closeRun c s).meter.held = none := by
  obtain ⟨hmeter, hunit⟩ := closeAnnounced_quiet (s := s) c x (by simp [hb])
  have hheld' : (closeAnnounced c x s).meter.held = none := by rw [hmeter]; exact hheld
  rw [closeRun_eq hx, evaluate_not_held hheld', (evaluateRecord_meter _).2]
  exact ⟨by rw [evaluateRecord_eq]; exact hunit, hheld'⟩

theorem closeRun_written (c : CloseCause) (hx : s.run.run = some x) (hp : x.p < 32) :
    RunWritten c x s (closeRun c s) := by
  have hclosed := closeRun_closed (c := c) hx
  have hrecords := closeRun_records (c := c) hx
  obtain ⟨-, -, -, hcount, -, -, -, -, -, hroster, hxc, -, -, -, -, hsetup, -⟩ := hclosed.keeps.fields
  refine ⟨hclosed.run, ⟨_, hclosed.record hp, ?_⟩, fun p hne => ?_, hcount, hroster, hxc, hsetup, fun hk hec => ?_,
    closeRun_unsealed hx⟩
  · rw [unstaled, ← (closeRecord_header (c := c)).2.2.2]
  · rw [hrecords, slotGet_slotSet_other _ hne.symm]
  · obtain ⟨hidle, htrk⟩ := hclosed.disarmed hk
    exact ⟨hidle, by rw [htrk, if_neg hec]⟩

theorem closeRun_announced (c : CloseCause) (hx : s.run.run = some x) : RunAnnounced c x s (closeRun c s) := by
  refine ⟨(closeRun_closed hx).spared, fun hheld hlen => ?_⟩
  have hroom := closeAnnounced_room c x hlen
  have hheld' : (closeAnnounced c x s).meter.held = none := by
    rw [hroom, runRemoved_eq]
    exact hheld
  rw [closeRun_eq hx, evaluate_not_held hheld', (evaluateRecord_meter _).2, evaluateRecord_eq]
  refine ⟨by rw [hroom], ?_, hheld'⟩
  rw [hroom, writeRecord_cmd, runRemoved_eq, closeRecord_header.1]

/-- The verdict after a close is that of the announced state. -/
theorem closeRun_overallVerdict (hx : s.run.run = some x) :
    overallVerdict (closeRun c s) = overallVerdict (closeAnnounced c x s) := by
  have hblocks := (evaluate_keeps (closeAnnounced c x s)).blocks
  unfold QueuingOnly at hblocks
  rw [closeRun_eq hx]
  exact overallVerdict_congr (by rw [hblocks]) (by rw [hblocks]) (evaluate_remembers _).records

/-- With no number held a close in a state that evaluates is evaluated (R95). -/
theorem closeRun_evaluated (hx : s.run.run = some x) (hheld : s.meter.held = none)
    (hb : evaluates s.meter.batch = true) : Evaluated (closeRun c s) := by
  obtain ⟨hmeter, -⟩ := closeAnnounced_quiet (s := s) c x (by rintro h; rw [h] at hb; cases hb)
  have hheld' : (closeAnnounced c x s).meter.held = none := by rw [hmeter]; exact hheld
  rw [closeRun_eq hx, evaluate_not_held hheld']
  obtain ⟨hv, hs⟩ := evaluateRecord_stores (s := closeAnnounced c x s) (by rw [hmeter]; exact hb)
  exact evaluated_of_eq hv hs

theorem sealChecked_congr {number : Text} {s s' t : State} (hu : s'.sealUnit = s.sealUnit)
    (ho : s'.line.own = s.line.own) (h : SealChecked number s' t) : SealChecked number s t := by
  simpa only [SealChecked, SealTaken, hu, ho] using h

theorem closeRun_held {number : Text} (hx : s.run.run = some x) (hheld : s.meter.held = some number)
    (hb : s.meter.batch = .running) (hlen : s.line.queue.length ≤ 5) : HeldChecked number s (closeRun c s) := by
  obtain ⟨hmeter, hunit⟩ := closeAnnounced_quiet (s := s) c x (by simp [hb])
  have hroom : (closeAnnounced c x s).line.queue.length < 8 := by
    rw [closeAnnounced_room c x (by omega)]
    dsimp only [closeFrames]
    split <;> simp only [List.length_append, List.length_cons, List.length_nil] <;> omega
  have hown : (closeAnnounced c x s).line.own = s.line.own := by
    rw [closeAnnounced_room c x (by omega)]
  have hverdict := closeRun_overallVerdict (c := c) hx
  have hb' : (closeAnnounced c x s).meter.batch = .running := by rw [hmeter]; exact hb
  have hheld' : (closeAnnounced c x s).meter.held = some number := by rw [hmeter]; exact hheld
  obtain ⟨hwaits, hchecks⟩ := evaluate_held hb' hheld' hroom
  refine ⟨fun h => ?_, fun hex hall => ?_⟩
  · rw [← eligible_iff, hverdict] at h
    rw [closeRun_eq hx, hwaits h]
    obtain ⟨hv, hs⟩ := evaluateRecord_stores (s := closeAnnounced c x s) (by rw [hb']; rfl)
    exact ⟨evaluated_of_eq hv hs, (evaluateRecord_meter _).2.trans hheld', by rw [evaluateRecord_eq]; exact hunit⟩
  · have helig := (eligible_iff _).2 ⟨hex, hall⟩
    rw [hverdict] at helig
    rw [closeRun_eq hx]
    exact ⟨(hchecks helig).1, sealChecked_congr hunit hown (hchecks helig).2⟩

end Effect

/-- What a command that closes run x leaves. A fall of PRESENT queues its NOTICE first, and LOAD_OFF copies afterwards, so
that less is said of them. -/
structure CloseEffect (i : Instr) (c : CloseCause) (x : Run) (s t : State) : Prop where
  written : RunWritten c x s t
  announced : i ≠ .presentFall → RunAnnounced c x s t
  evaluated : s.meter.held = none → s.meter.batch = .running → (∀ h, i ≠ .loadOff h []) → Evaluated t
  held : ∀ number, s.meter.held = some number → s.meter.batch = .running → s.line.queue.length ≤ 5 →
    (i = .pointTimerExpiry ∨ i = .graceExpiry ∨ ∃ h b, i = .loadChanging h [b]) → HeldChecked number s t

namespace CloseEffect

variable {i : Instr} {c : CloseCause} {x : Run} {s t : State}

theorem of_closeRun (i : Instr) (c : CloseCause) (hx : s.run.run = some x) (hp : x.p < 32) :
    CloseEffect i c x s (closeRun c s) where
  written := closeRun_written c hx hp
  announced _ := closeRun_announced c hx
  evaluated hheld hb _ := closeRun_evaluated hx hheld (by rw [hb]; rfl)
  held _ hheld hb hlen _ := closeRun_held hx hheld hb hlen

/-- A close reads neither the timers of the front end nor the line but its queue and own number. -/
theorem of_input {fe : FrontEnd} {l : LineController} (hnow : fe.now = s.fe.now) (hqueue : l.queue = s.line.queue)
    (hown : l.own = s.line.own) (h : CloseEffect i c x { s with fe := fe, line := l } t) : CloseEffect i c x s t where
  written := { h.written with }
  announced hi := by
    obtain ⟨hspared, hq⟩ := h.announced hi
    refine ⟨hspared, ?_⟩
    simpa only [hqueue, closeFrames, hnow] using hq
  evaluated := h.evaluated
  held number hheld hb hlen hi := by
    obtain ⟨hwaits, hchecks⟩ := h.held number hheld hb (by rw [hqueue]; exact hlen) hi
    exact ⟨hwaits, fun hex hall => ⟨(hchecks hex hall).1, sealChecked_congr (s' := { s with fe := fe, line := l }) rfl hown
      (hchecks hex hall).2⟩⟩

/-- What the load announcements do to marks and flags after the close reaches nothing of its effect. -/
theorem flagged (h : CloseEffect i c x s t) (marks : Vector Mark 32) (cutOff off : Bool) :
    CloseEffect i c x s { t with plan := { t.plan with marks := marks, cutOff := cutOff, loadOff := off } } where
  written := { h.written with }
  announced hi := { h.announced hi with }
  evaluated := h.evaluated
  held := h.held

end CloseEffect

/-! ### A copy after the close -/

theorem unstaled_markStale (records : Slots PointRecord) (p q : Nat) :
    (slotGet (markStale records p) q).map unstaled = (slotGet records q).map unstaled := by
  unfold markStale
  by_cases hpq : p = q
  · subst hpq
    by_cases hp : p < 32
    · rw [slotGet_slotSet_same _ hp, Option.map_map]
      rfl
    · rw [slotGet_large _ (not_lt.1 hp), slotGet_large _ (not_lt.1 hp)]
  · rw [slotGet_slotSet_other _ hpq]

/-- A copy changes nothing of a record but its stale mark (R52). -/
theorem copyEntries_unstaled (ps : List Nat) (s : State) (q : Nat) :
    (slotGet (copyEntries ps s).meter.records q).map unstaled = (slotGet s.meter.records q).map unstaled := by
  have hfold : ∀ (l : List Nat) (records : Slots PointRecord),
      (slotGet (l.foldl markStale records) q).map unstaled = (slotGet records q).map unstaled := fun l => by
    induction l with
    | nil => intro records; rfl
    | cons p l ih => intro records; exact (ih _).trans (unstaled_markStale records p q)
  unfold copyEntries
  dsimp only
  split
  · exact hfold _ _
  · rw [(evaluate_remembers _).records]
    exact hfold _ _

/-- A copy with no number held reaches the plan and the meter record, and holds none (R52, R95). -/
theorem copyEntries_not_held (ps : List Nat) {s : State} (h : s.meter.held = none) :
    copyEntries ps s = { s with plan := ps.foldl copyEntry s.plan, meter := (copyEntries ps s).meter } ∧
      (copyEntries ps s).meter.held = none := by
  unfold copyEntries
  dsimp only
  split
  · exact ⟨rfl, h⟩
  · rw [evaluate_not_held (by exact h), evaluateRecord_eq]
    exact ⟨rfl, (evaluateRecord_meter _).2.trans h⟩

theorem RunWritten.copied {c : CloseCause} {x : Run} {s t : State} (h : RunWritten c x s t) (ps : List Nat) :
    RunWritten c x s (copyEntries ps t) := by
  have hkeeps := copyEntries_keeps ps t
  obtain ⟨hrun, hec, htrk⟩ := hkeeps.runner_eq
  have hblocks := hkeeps.blocks
  unfold QueuingOnly at hblocks
  obtain ⟨y, hy, hrecord⟩ := h.record
  refine ⟨hrun.trans h.run, ?_, fun p hp => (copyEntries_unstaled ps t p).trans (h.others p hp),
    (congrArg Tracker.count htrk).trans h.count, by rw [hblocks]; exact h.roster, by rw [hblocks]; exact h.xc,
    hkeeps.setup.trans h.setup, fun hk hec' => ?_, fun hheld hb => ?_⟩
  · have hcopy := copyEntries_unstaled ps t x.p
    rw [hy] at hcopy
    obtain ⟨z, hz, hzy⟩ := Option.map_eq_some_iff.1 hcopy
    exact ⟨z, hz, hzy.trans hrecord⟩
  · rw [hec, htrk]
    exact h.disarmed hk hec'
  · obtain ⟨hunit, hnone⟩ := h.unsealed hheld hb
    obtain ⟨heq, hnone'⟩ := copyEntries_not_held ps hnone
    exact ⟨by rw [heq]; exact hunit, hnone'⟩

theorem CloseEffect.copied {h : Hdr} {c : CloseCause} {x : Run} {s t : State}
    (he : CloseEffect (.loadOff h []) c x s t) (ps : List Nat) :
    CloseEffect (.loadOff h []) c x s (copyEntries ps t) where
  written := he.written.copied ps
  announced hi := by
    obtain ⟨hspared, hqueue⟩ := he.announced hi
    obtain ⟨-, hec, htrk⟩ := (copyEntries_keeps ps t).runner_eq
    refine ⟨fun hk => by rw [hec, htrk]; exact hspared hk, fun hheld hlen => ?_⟩
    obtain ⟨hq, hseries, hnone⟩ := hqueue hheld hlen
    obtain ⟨heq, hnone'⟩ := copyEntries_not_held ps hnone
    exact ⟨by rw [heq]; exact hq, by rw [heq]; exact hseries, hnone'⟩
  evaluated _ _ hi := absurd rfl (hi h)
  held _ _ _ _ hi := by rcases hi with hi | hi | ⟨_, _, hi⟩ <;> cases hi

/-! ### The commands that close -/

/-- The commands that close an open run, with the cause of the close (R66, R68, R79). -/
abbrev ClosesBy (i : Instr) (c : CloseCause) (x : Run) (s : State) : Prop :=
  (i = .pointTimerExpiry ∧ c = .time ∧ x.pointTimer = s.fe.now) ∨
  (i = .graceExpiry ∧ c = .scanner ∧ s.fe.absenceTimer.map AbsenceTimer.expiry = some s.fe.now) ∨
  (i = .presentFall ∧ c = .scanner ∧ s.pins.present = true ∧ s.cmd.setup.scannerGrace = 0) ∨
  (∃ h b, Hears s ∧ FromSource h ∧ i = .loadChanging h [b] ∧ c = .forced) ∨
  (∃ h, Hears s ∧ FromSource h ∧ i = .loadOff h [] ∧ c = .forced)

/-- A close by the scanner does not read PRESENT (R80). -/
theorem closeRecord_scanner_present (x : Run) (count : Stamp) (a b : Bool) :
    closeRecord .scanner a count x = closeRecord .scanner b count x := by
  have hwindow : judgeWindow .scanner a x = judgeWindow .scanner b x := by
    simp [judgeWindow, windowOutcome]
  unfold closeRecord
  rw [hwindow]

theorem closeEffect_loadChanging {h : Hdr} {b : Byte} {x : Run} {s : State} (hh : Hears s) (hs : FromSource h)
    (hx : s.run.run = some x) (hp : x.p < 32) :
    ∃ t, exec (.loadChanging h [b]) s = .next t ∧ CloseEffect (.loadChanging h [b]) .forced x s t := by
  refine ⟨loadChanging (acked s),
    congrArg Host.Outcome.next (receiveKind_source .loadChanging h [b] s hh hs rfl rfl (by simp)), ?_⟩
  exact (CloseEffect.of_input (fe := s.fe) (l := (acked s).line) rfl rfl rfl
    (.of_closeRun (s := acked s) _ .forced hx hp)).flagged _ _ _

theorem closeEffect_loadOff {h : Hdr} {x : Run} {s : State} (hh : Hears s) (hs : FromSource h)
    (hx : s.run.run = some x) (hp : x.p < 32) :
    ∃ t, exec (.loadOff h []) s = .next t ∧ CloseEffect (.loadOff h []) .forced x s t := by
  refine ⟨loadOff (acked s),
    congrArg Host.Outcome.next (receiveKind_source .loadOff h [] s hh hs rfl rfl (by simp)), ?_⟩
  exact ((CloseEffect.of_input (fe := s.fe) (l := (acked s).line) rfl rfl rfl
    (.of_closeRun (s := acked s) _ .forced hx hp)).copied _).flagged _ _ _

/-- The loss of the head leaves records, plan, roster, cross-check and setup, and outside CLAIMING the meter record and
the seal unit (R11, R23). -/
theorem headAbsent_leaves (s : State) : (headAbsent s).meter.records = s.meter.records ∧
    (headAbsent s).plan = s.plan ∧ (headAbsent s).roster = s.roster ∧ (headAbsent s).xc = s.xc ∧
    (headAbsent s).cmd.setup = s.cmd.setup ∧ (s.meter.batch ≠ .claiming →
      (headAbsent s).meter = s.meter ∧ (headAbsent s).sealUnit = s.sealUnit) := by
  have hloss : ∀ u : State, (scannerLoss u).meter = u.meter ∧ (scannerLoss u).sealUnit = u.sealUnit := fun u => by
    unfold scannerLoss
    split <;> exact ⟨rfl, rfl⟩
  have hkeeps : ClosingKeeps (headLost s) (headAbsent s) :=
    (raiseNotice_keeps _ _).closing.trans (scannerLoss_closing _)
  obtain ⟨-, -, -, -, -, -, hplan, -, -, hroster, hxc, -, -, -, -, hsetup, -⟩ := hkeeps.fields
  obtain ⟨hmeter, hunit⟩ := hloss (raiseNotice .scannerAbsent (headLost s))
  refine ⟨?_, hplan, hroster, hxc, hsetup, fun hb => ?_⟩
  · exact (congrArg MeterRecord.records hmeter).trans (raiseNotice_remembers .scannerAbsent (headLost s)).records
  · obtain ⟨hm, hu⟩ := raiseNotice_of_not_claiming .scannerAbsent (s := headLost s) hb
    exact ⟨hmeter.trans hm, hunit.trans hu⟩

/-- A fall of PRESENT under a grace of 0 closes the run over the state that the loss of the head leaves (R11, R23, R66). -/
theorem closeEffect_presentFall {x : Run} {s : State} (hrun : s.phase = .running) (hpresent : s.pins.present = true)
    (hgrace : s.cmd.setup.scannerGrace = 0) (hx : s.run.run = some x) (hp : x.p < 32) :
    ∃ t, exec .presentFall s = .next t ∧ CloseEffect .presentFall .scanner x s t := by
  obtain ⟨hpins, -, -, hcount, -, hqueue, hrun', -⟩ := headAbsent_fields s
  obtain ⟨hrecords, -, hroster, hxc, hsetup, hquiet⟩ := headAbsent_leaves s
  let lost : State := { headAbsent s with fe := { (headAbsent s).fe with absenceTimer := none } }
  have hx' : lost.run.run = some x := (congrArg PointRunner.run hrun').trans hx
  have hwritten := closeRun_written .scanner hx' hp
  have hmeter (hb : s.meter.batch = .running) : lost.meter = s.meter ∧ lost.sealUnit = s.sealUnit :=
    hquiet (by simp [hb])
  refine ⟨_, exec_presentFall hrun hpresent, ?_⟩
  rw [if_pos hgrace]
  refine ⟨⟨hwritten.run.trans (congrArg (fun r => { r with run := none, standing := .closed x.p x.r }) hrun'), ?_,
    fun p hne => (hwritten.others p hne).trans (congrArg (fun v => (slotGet v p).map unstaled) hrecords),
    hwritten.count.trans hcount, hwritten.roster.trans hroster, hwritten.xc.trans hxc, hwritten.setup.trans hsetup,
    fun hk hec => ?_, fun hheld hb => ?_⟩, fun hi => absurd rfl hi, fun hheld hb _ => ?_, fun _ _ _ _ hi => ?_⟩
  · obtain ⟨y, hy, hrecord⟩ := hwritten.record
    refine ⟨y, hy, hrecord.trans ?_⟩
    rw [closeRecord_scanner_present x _ lost.pins.present s.pins.present]
    exact congrArg (fun n => closeRecord .scanner _ n x) hcount
  · exact ⟨((closeRun_closed hx').disarmed hk).1, (closeRun_leaves .scanner lost).2 (hqueue hec)⟩
  · obtain ⟨hm, hu⟩ := hmeter hb
    obtain ⟨hunit, hnone⟩ := hwritten.unsealed (by rw [hm]; exact hheld) (by rw [hm]; exact hb)
    exact ⟨hunit.trans hu, hnone⟩
  · obtain ⟨hm, -⟩ := hmeter hb
    exact closeRun_evaluated hx' (by rw [hm]; exact hheld) (by rw [hm, hb]; rfl)
  · rcases hi with hi | hi | ⟨_, _, hi⟩ <;> cases hi

theorem closesBy_effect {i : Instr} {c : CloseCause} {x : Run} {s : State} (hp : s.phase = .running)
    (hx : s.run.run = some x) (hx32 : x.p < 32) (h : ClosesBy i c x s) :
    ∃ t, exec i s = .next t ∧ CloseEffect i c x s t := by
  rcases h with ⟨rfl, rfl, hdue⟩ | ⟨rfl, rfl, hdue⟩ | ⟨rfl, rfl, hpresent, hgrace⟩ | ⟨h, b, hh, hs, rfl, rfl⟩ |
    ⟨h, hh, hs, rfl, rfl⟩
  · have hdue' : s.run.run.map Run.pointTimer = some s.fe.now := by rw [hx, ← hdue]; rfl
    exact ⟨_, congrArg Host.Outcome.next (whenDue_due hp hdue'), .of_closeRun _ _ hx hx32⟩
  · obtain ⟨a, ha, hnow⟩ := Option.map_eq_some_iff.1 hdue
    refine ⟨_, exec_graceExpiry_due hp ha hnow, ?_⟩
    exact CloseEffect.of_input (fe := { s.fe with stoppedGrace := none, absenceTimer := none }) (l := s.line) rfl rfl rfl
      (.of_closeRun (s := { s with fe := { s.fe with stoppedGrace := none, absenceTimer := none } }) _ _ hx hx32)
  · exact closeEffect_presentFall hp hpresent hgrace hx hx32
  · exact closeEffect_loadChanging hh hs hx hx32
  · exact closeEffect_loadOff hh hs hx hx32

end Sys2Proof.Machine
end

section
/-! SUPPORT. Opening a run, and what LOAD_SETTLED leaves of the records (R18, R50, R55 to R58, R84). -/

namespace Sys2Proof.Machine

/-! ### Opening -/

/-- Arming reaches the error computer and the marker queue (R18). -/
theorem arm_eq (n m : Nat) (s : State) : arm n m s = { s with
    ec := .armed n m, trk := { s.trk with queue := (arm n m s).trk.queue } } := by
  unfold arm
  split <;> rfl

theorem armFor_eq (e : PlanEntry) (s : State) : armFor e s = { s with
    ec := (armFor e s).ec, trk := { s.trk with queue := (armFor e s).trk.queue } } := by
  unfold armFor
  split
  · rw [arm_eq]
  · rfl

theorem armFor_accuracy {e : PlanEntry} {n st k m l : Nat} (h : e.point = .accuracy n st k m l) (s : State) :
    (armFor e s).ec = .armed n m := by
  simp only [armFor, h]
  rw [arm_eq]

theorem armFor_other {e : PlanEntry} (h : e.point.kind ≠ .accuracy) (s : State) : armFor e s = s := by
  unfold armFor
  split
  · next hpoint => exact absurd (by rw [hpoint]; rfl) h
  · rfl

/-- An opening reaches the point runner, verdict and batch state, the error computer and the marker queue (R57). -/
theorem beginRun_eq (p r : Nat) (e : PlanEntry) (s : State) : beginRun p r e s = { s with
    run := { s.run with
      run := some (openedRun p r e s), slots := bindSlot p e s.run.slots, standing := .opened p r }
    meter := { s.meter with batch := .running, verdict := none }
    ec := (armFor e s).ec
    trk := { s.trk with queue := (armFor e s).trk.queue } } := by
  unfold beginRun
  rw [armFor_eq]
  unfold armFor arm
  split
  · dsimp only
    split <;> rfl
  · rfl

theorem QueuingKeeps.setRun {s t : State} (h : QueuingKeeps s t) (x : Run) :
    QueuingKeeps (setRun x s) (setRun x t) := by
  have hb := h.blocks
  refine ⟨?_, h.state, h.own, h.faultTally, h.goodFrames, h.listenTimer, h.heartbeat, h.awaitingIdle, h.idle, h.drive,
    h.resetCause, h.setup, h.mask⟩
  unfold QueuingOnly Machine.setRun at *
  rw [hb]

/-- PROGRESS of the run sets its progress value, and remembers the records; outside CLAIMING it leaves the meter
record. -/
theorem reportProgress_leaves (x : Run) (v : Progress) (s : State) :
    QueuingKeeps (setRun { x with progress := v } s) (reportProgress x v s) ∧ Remembers s (reportProgress x v s) ∧
      (s.meter.batch ≠ .claiming → (reportProgress x v s).meter = s.meter) := by
  have hremembers := enqueue_remembers (.progress x.p x.r v s.meter.batch) (setRun { x with progress := v } s)
  exact ⟨enqueue_keeps _ _, ⟨hremembers.records, hremembers.notices⟩,
    fun hb => (enqueue_of_not_claiming _ (s := setRun { x with progress := v } s) hb).1⟩

/-- What the frames of an opening leave: the run with the progress value of the last of them (R57, R84). -/
theorem announceRun_leaves {e : PlanEntry} {x : Run} {s : State} (hx : s.run.run = some x) :
    QueuingKeeps (setRun { x with progress := if e.point.kind = .register then .settled else .opened } s)
      (announceRun e s) ∧ Remembers s (announceRun e s) ∧
    (s.meter.batch ≠ .claiming → (announceRun e s).meter = s.meter) := by
  obtain ⟨hkeeps, hremembers, hmeter⟩ := reportProgress_leaves x .opened s
  simp only [announceRun, hx]
  by_cases hk : e.point.kind = .register
  · obtain ⟨hkeeps', hremembers', hmeter'⟩ := reportProgress_leaves x .settled (reportProgress x .opened s)
    rw [if_pos hk, if_pos hk]
    exact ⟨(hkeeps.setRun _).trans hkeeps', hremembers.trans hremembers',
      fun hb => (hmeter' (by rw [hmeter hb]; exact hb)).trans (hmeter hb)⟩
  · rw [if_neg hk, if_neg hk]
    exact ⟨hkeeps, hremembers, hmeter⟩

/-- The opening test ignores the announcement, declines it, or opens a run (R56). -/
theorem openOrDecline_cases (p r : Nat) (s : State) : openOrDecline p r s = s ∨
    openOrDecline p r s = declineRun p r s ∨ ∃ e, openOrDecline p r s = openRun p r e s := by
  unfold openOrDecline
  split
  · exact .inl rfl
  iterate 4
    · split
      · exact .inr (.inl rfl)
      · exact .inl rfl
  iterate 4
    · split
      · split
        · exact .inr (.inr ⟨_, rfl⟩)
        · exact .inr (.inl rfl)
      · exact .inl rfl

theorem openRun_record {p r q : Nat} {e : PlanEntry} {s : State} (h : s.pins.present = true ∨ p ≠ q) :
    slotGet (openRun p r e s).meter.records q = slotGet s.meter.records q := by
  have hbegin : (beginRun p r e s).meter.records = s.meter.records := by rw [beginRun_eq]
  have hrun : (beginRun p r e s).run.run = some (openedRun p r e s) := by rw [beginRun_eq]
  unfold openRun
  split
  · rw [(announceRun_leaves hrun).2.1.records, hbegin]
  · next hlow =>
    rw [closeRun_records hrun, hbegin]
    exact slotGet_slotSet_other _ (h.resolve_left hlow) _

/-- The opening test leaves every record, but with PRESENT low that of its own index (R56 to R58). -/
theorem openOrDecline_record {p r q : Nat} {s : State} (h : s.pins.present = true ∨ p ≠ q) :
    slotGet (openOrDecline p r s).meter.records q = slotGet s.meter.records q := by
  rcases openOrDecline_cases p r s with hcase | hcase | ⟨e, hcase⟩ <;> rw [hcase]
  · unfold declineRun queueProgress
    rw [(enqueue_remembers _ _).records]
  · exact openRun_record h

theorem exec_loadSettled {h : Hdr} {s : State} (p r : Byte) (hh : Hears s) (hs : FromSource h) :
    exec (.loadSettled h [p, r]) s = .next (loadSettled p.toNat r.toNat (acked s)) :=
  congrArg Host.Outcome.next (receiveKind_source .loadSettled h [p, r] s hh hs rfl rfl (by simp))

/-- LOAD_SETTLED over an open run writes the record of the forced close, before it opens or declines (R50, R68). -/
theorem loadSettled_writes {p r : Nat} {x : Run} {s : State} (hx : s.run.run = some x) (hp : x.p < 32)
    (h : s.pins.present = true ∨ p ≠ x.p) : ∃ y, slotGet (loadSettled p r s).meter.records x.p = some y ∧
      unstaled y = closeRecord .forced s.pins.present s.trk.count x := by
  have hwritten := (closeRun_written .forced hx hp).copied (markedIndexes (closeRun .forced s).plan (· == .due))
  obtain ⟨y, hy, hrecord⟩ := hwritten.record
  have hpins : (copyEntries (markedIndexes (closeRun .forced s).plan (· == .due)) (closeRun .forced s)).pins = s.pins := by
    have hblocks := (copyEntries_keeps (markedIndexes (closeRun .forced s).plan (· == .due))
      (closeRun .forced s)).blocks
    unfold QueuingOnly at hblocks
    rw [hblocks]
    exact (closeRun_closing .forced s).fields.1
  refine ⟨y, Eq.trans ?_ hy, hrecord⟩
  exact openOrDecline_record (by rw [show _ = s.pins from hpins]; exact h)

/-! ### The timers with nothing to close -/

theorem exec_pointTimerExpiry_not_due {s : State} (h : ∀ x, s.run.run = some x → x.pointTimer ≠ s.fe.now) :
    exec .pointTimerExpiry s = .next s := by
  refine congrArg Host.Outcome.next (whenDue_not_due fun hdue => ?_)
  obtain ⟨x, hx, hnow⟩ := Option.map_eq_some_iff.1 hdue
  exact h x hx hnow

theorem exec_graceExpiry_not_due {s : State} (hp : s.phase = .running)
    (h : ∀ a, s.fe.absenceTimer = some a → a.expiry ≠ s.fe.now) : exec .graceExpiry s = .next (spendGrace s) := by
  show Host.Outcome.next _ = _
  rw [whenRunning_running hp]
  refine congrArg Host.Outcome.next (whenDue_not_due (s := spendGrace s) fun hdue => ?_)
  obtain ⟨a, ha, hnow⟩ := Option.map_eq_some_iff.1 hdue
  exact h a ha hnow

/-- Settles O17: each command that closes has the effect of `closeRun` on the state it closes in. -/
theorem everyCloseWritesRecord : Obligations.EveryCloseWritesRecord := by
  refine ⟨fun i c x s hp hx hx32 hi => ?_, fun h p r x s hh hs hx hx32 hcase => ?_, fun s hp =>
    ⟨exec_pointTimerExpiry_not_due, exec_graceExpiry_not_due hp, fun a hx ha hnow => ?_⟩⟩
  · intro record
    obtain ⟨t, hexec, ⟨hw, hannounced, hevaluated, hheld⟩⟩ := closesBy_effect hp hx hx32 hi
    obtain ⟨y, hy, hrecord⟩ := hw.record
    refine ⟨t, y, hexec, by rw [hw.run], by rw [hw.run], hy, hrecord, fun p _ hne => hw.others p hne, by rw [hw.run],
      hw.count, hw.roster, hw.xc, hw.setup, hw.disarmed, fun hk hfall => (hannounced hfall).spared hk,
      fun hnone hlen hfall => ?_, fun hnone hb => ⟨(hw.unsealed hnone hb).1, hevaluated hnone hb⟩, hheld⟩
    obtain ⟨hqueue, hseries, -⟩ := (hannounced hfall).queue hnone hlen
    exact ⟨hqueue.trans (List.append_assoc _ _ _).symm, hseries⟩
  · obtain ⟨y, hy, hrecord⟩ := loadSettled_writes (s := acked s) (r := r.toNat) hx hx32 hcase
    exact ⟨_, y, exec_loadSettled p r hh hs, hy, hrecord⟩
  · rw [exec_graceExpiry_due hp ha hnow]
    exact congrArg Host.Outcome.next
      (closeRun_none (s := { s with fe := { s.fe with absenceTimer := none, stoppedGrace := none } }) hx)

end Sys2Proof.Machine
end

section
/-! SUPPORT. BEFORE and AFTER readings: the answer of a command, the resolution of a PENDING record, and the restated
standing (R83, R86, R87, R163). -/

namespace Sys2Proof.Machine

/-! ### The answer of a command -/

/-- What the answer of a command leaves of the state u in which it has been executed: all, beside the queuing of its REPLY;
to a group there is none (R163). -/
structure Answered (h : Hdr) (s u t : State) : Prop where
  keeps : QueuingKeeps u t
  remembers : Remembers u t
  quiet : u.meter.batch ≠ .claiming → t.meter = u.meter ∧ t.sealUnit = u.sealUnit
  unanswered : ¬ ToThis h s → t = u

/-- A command that clamps no field is executed and answered (R163). -/
theorem command_answered {k : FrameKind} {h : Hdr} {f : State → State × ReplyCode} {s : State}
    (hdest : ToThis h s ∨ ToGroup h) (hcode : (f s).2 ≠ .doneClamped) :
    Answered h s (f s).1 (command k h.dest.toNat f s) := by
  by_cases hown : h.dest.toNat = s.line.own
  · have haddr : command k h.dest.toNat f s = reply k (f s).2 (f s).1 := by
      simp only [command, addressing, if_pos hown]
    rw [haddr]
    exact ⟨enqueue_keeps _ _, enqueue_remembers _ _, fun hb => enqueue_of_not_claiming _ hb, fun h => absurd hown h⟩
  · have haddr : command k h.dest.toNat f s = (f s).1 := by
      simp only [command, addressing, if_neg hown, if_pos (hdest.resolve_left hown), groupAnswer, if_neg hcode]
    rw [haddr]
    exact ⟨.refl _, .refl _, fun _ => ⟨rfl, rfl⟩, fun _ => rfl⟩

/-! ### Readings past the checks of R83 -/

section Reading

variable {p : Byte} {digits : List Byte} {s : State}

theorem readReading_word {w : Byte} {after : Bool} (hw : boolOfCode w.toNat = some after) (hlen : digits.length = 5)
    (hv : beNat digits < 10 ^ 12) : readReading (w :: digits) = some (after, beNat digits) := by
  simp only [readReading, if_pos hlen, hw, if_pos hv]

theorem readingCommand_before (hp : p.toNat ≤ 31) (hlen : digits.length = 5) (hv : beNat digits < 10 ^ 12)
    (hb : s.meter.batch ≠ .idle) :
    readingCommand (p :: 0 :: digits) s = takeBefore p.toNat (beNat digits) s := by
  simp only [readingCommand, if_neg hp.not_gt, readReading_word (w := 0) rfl hlen hv, if_neg hb,
    Bool.false_eq_true, if_false]

theorem readingCommand_after (hp : p.toNat ≤ 31) (hlen : digits.length = 5) (hv : beNat digits < 10 ^ 12)
    (hb : s.meter.batch ≠ .idle) :
    readingCommand (p :: 1 :: digits) s = takeAfter p.toNat (beNat digits) s := by
  simp only [readingCommand, if_neg hp.not_gt, readReading_word (w := 1) rfl hlen hv, if_neg hb, if_true]

end Reading

/-! ### Resolution -/

section Resolution

variable {cRef v b m : Nat} {a : Option Nat} {limits : Option Limits} {void : Bool} {st : Option GateStatus}
  {x : PointRecord}

/-- A record resolved with the register result of its readings (R86). -/
def resolvedRecord (cRef b v m : Nat) (limits : Option Limits) (void : Bool) (x : PointRecord) : PointRecord :=
  let q := registerResult cRef b v m
  { x with
    verdict := (resolution limits void q).1
    value := (resolution limits void q).2
    body := .register (some b) (some v) m limits void (some q.status) }

theorem resolve_pending (hx : x.verdict = .pending) (hbody : x.body = .register (some b) a m limits void st)
    (h : b ≤ v) : resolve cRef v x = .inl (resolvedRecord cRef b v m limits void x) := by
  simp only [resolve, hx, hbody, if_neg h.not_gt]
  rfl

theorem resolve_below (hx : x.verdict = .pending) (hbody : x.body = .register (some b) a m limits void st)
    (h : v < b) : resolve cRef v x = .inr .badValue := by
  simp only [resolve, hx, hbody, if_pos h]

theorem resolve_not_pending (hx : x.verdict ≠ .pending) : resolve cRef v x = .inr .wrongState := by
  unfold resolve
  split
  · next h _ => exact absurd h hx
  · rfl

/-- The code that refuses an AFTER reading is none of the clamping. -/
theorem resolve_code {code : ReplyCode} (h : resolve cRef v x = .inr code) : code ≠ .doneClamped := by
  unfold resolve at h
  split at h
  · split at h
    · rw [← Sum.inr.inj h]; simp
    · cases h
  · rw [← Sum.inr.inj h]; simp

theorem resolution_void {q : GateResult} (h : void = true ∨ q.status = .noReference) :
    resolution limits void q = (.void, none) := if_pos (by simpa using h)

theorem resolution_clamped {q : GateResult} (hv : void = false) (hq : q.status = .clamped) :
    resolution limits void q = (if limits.isSome then .fail else .info, q.error) := by
  simp [resolution, hv, hq]

theorem resolution_valid {q : GateResult} (hv : void = false) (hq : q.status = .valid) :
    resolution limits void q = (judgeValue limits (q.error.getD 0), q.error) := by
  simp [resolution, hv, hq]

/-- Verdict and value of a resolved record, by Table 5.5. -/
theorem resolvedRecord_judged :
    let res := registerResult cRef b v m
    let y := resolvedRecord cRef b v m limits void x
    (void = true ∨ res.status = .noReference → y.verdict = .void ∧ y.value = none) ∧
    (void = false → res.status = .clamped →
      y.verdict = (if limits.isSome then .fail else .info) ∧ y.value = res.error) ∧
    (void = false → res.status = .valid → y.value = res.error ∧ (limits = none → y.verdict = .info) ∧
      ∀ l e, limits = some l → res.error = some e →
        y.verdict = if l.lower ≤ e ∧ e ≤ l.upper then .pass else .fail) := by
  intro res y
  have hy : y.verdict = (resolution limits void res).1 ∧ y.value = (resolution limits void res).2 := ⟨rfl, rfl⟩
  rw [hy.1, hy.2]
  refine ⟨fun h => ?_, fun hv hq => ?_, fun hv hq => ?_⟩
  · rw [resolution_void h]; exact ⟨rfl, rfl⟩
  · rw [resolution_clamped hv hq]; exact ⟨rfl, rfl⟩
  · rw [resolution_valid hv hq]
    exact ⟨rfl, fun hl => by rw [hl]; rfl, fun l e hl he => by rw [hl, he]; rfl⟩

end Resolution

/-! ### The restated standing -/

/-- The frame that restates the latest point standing after a resolution of run (p, r) (R87). -/
def restated (p r : Nat) (s : State) : Option TxMsg :=
  match s.run.standing with
  | .none => none
  | .opened _ _ => s.run.run.map fun x => .progress x.p x.r x.progress s.meter.batch
  | .closed p' r' => if p' = p ∧ r' = r then none else (slotGet s.meter.records p').map resultOf
  | .withdrawn p' r' => some (.progress p' r' .withdrawn s.meter.batch)

theorem restateStanding_eq (p r : Nat) (s : State) :
    restateStanding p r s = (restated p r s).elim s fun m => enqueue m s := by
  unfold restateStanding restated
  cases s.run.standing with
  | none => rfl
  | opened => cases s.run.run <;> rfl
  | closed p' r' =>
    dsimp only
    split
    · rfl
    · cases slotGet s.meter.records p' <;> rfl
  | withdrawn => rfl

theorem restated_coalesces {p r : Nat} {s : State} {m : TxMsg} (h : restated p r s = some m) :
    coalesces m.kind = false := by
  unfold restated at h
  split at h
  · cases h
  · obtain ⟨x, -, rfl⟩ := Option.map_eq_some_iff.1 h; rfl
  · split at h
    · cases h
    · obtain ⟨x, -, rfl⟩ := Option.map_eq_some_iff.1 h; rfl
  · rw [← Option.some.inj h]; rfl

theorem restateStanding_leaves (p r : Nat) (s : State) :
    QueuingKeeps s (restateStanding p r s) ∧ Remembers s (restateStanding p r s) ∧
      (s.meter.batch ≠ .claiming → (restateStanding p r s).meter = s.meter) := by
  rw [restateStanding_eq]
  cases restated p r s with
  | none => exact ⟨.refl s, .refl s, fun _ => rfl⟩
  | some m => exact ⟨enqueue_keeps m s, enqueue_remembers m s, fun hb => (enqueue_of_not_claiming m hb).1⟩

theorem restateStanding_room (p r : Nat) {s : State} (h : s.line.queue.length < 8) :
    (restateStanding p r s).line.queue =
      s.line.queue ++ (restated p r s).toList.map fun m => ⟨m, s.fe.now, 0, false⟩ := by
  rw [restateStanding_eq]
  cases hm : restated p r s with
  | none => simp
  | some m =>
    rw [Option.elim_some, enqueue_room m s (restated_coalesces hm) h]
    rfl

/-! ### An AFTER reading -/

/-- The state with a record put into a slot, where no series reads it (R86). -/
def withRecord (q : Nat) (y : PointRecord) (s : State) : State :=
  { s with meter := { s.meter with records := slotSet s.meter.records q (some y) } }

/-- The state in which an AFTER reading evaluates: the record resolved in place, POINT-RESULT and the restated standing
queued (R86, R87). -/
def readingResolved (q : Nat) (y : PointRecord) (s : State) : State :=
  restateStanding y.p y.r (enqueue (resultOf y) (withRecord q y s))

theorem takeAfter_resolved {q v : Nat} {x y : PointRecord} {s : State} (hx : slotGet s.meter.records q = some x)
    (h : resolve s.cmd.setup.cRef v x = .inl y) :
    takeAfter q v s = (evaluate (readingResolved q y s), .done) := by
  simp only [takeAfter, hx, h]
  rfl

theorem takeAfter_refused {q v : Nat} {x : PointRecord} {code : ReplyCode} {s : State}
    (hx : slotGet s.meter.records q = some x) (h : resolve s.cmd.setup.cRef v x = .inr code) :
    takeAfter q v s = (s, code) := by
  simp only [takeAfter, hx, h]

theorem takeAfter_absent {q v : Nat} {s : State} (hx : slotGet s.meter.records q = none) :
    takeAfter q v s = (s, .noSuchPoint) := by
  simp only [takeAfter, hx]

/-- An AFTER reading resolves the record of its index, or is refused and changes nothing; no code of it says that a field
was clamped (R86). -/
theorem takeAfter_cases (q v : Nat) (s : State) :
    (∃ x y, slotGet s.meter.records q = some x ∧ resolve s.cmd.setup.cRef v x = .inl y ∧
      takeAfter q v s = (evaluate (readingResolved q y s), .done)) ∨
    ∃ code, code ≠ .doneClamped ∧ takeAfter q v s = (s, code) := by
  cases hx : slotGet s.meter.records q with
  | none => exact .inr ⟨_, by simp, takeAfter_absent hx⟩
  | some x =>
    cases hy : resolve s.cmd.setup.cRef v x with
    | inl y => exact .inl ⟨x, y, rfl, hy, takeAfter_resolved hx hy⟩
    | inr code => exact .inr ⟨code, resolve_code hy, takeAfter_refused hx hy⟩

section Resolved

variable {q : Nat} {y : PointRecord} {s : State}

theorem readingResolved_leaves (q : Nat) (y : PointRecord) (s : State) :
    QueuingKeeps s (readingResolved q y s) ∧
    (readingResolved q y s).meter.records = slotSet s.meter.records q (some y) ∧
    (s.meter.batch ≠ .claiming → (readingResolved q y s).meter = (withRecord q y s).meter) := by
  obtain ⟨hkeeps, hremembers, hmeter⟩ := restateStanding_leaves y.p y.r (enqueue (resultOf y) (withRecord q y s))
  refine ⟨((keeps_blocks s _ s.sealUnit).trans (enqueue_keeps _ (withRecord q y s))).trans hkeeps,
    hremembers.records.trans (enqueue_remembers (resultOf y) (withRecord q y s)).records, fun hb => ?_⟩
  have henqueue := (enqueue_of_not_claiming (resultOf y) (s := withRecord q y s) hb).1
  exact (hmeter (by rw [henqueue]; exact hb)).trans henqueue

/-- With room for both frames POINT-RESULT and the restated standing are queued (R87). -/
theorem readingResolved_room (y : PointRecord) (hlen : s.line.queue.length ≤ 6) :
    (readingResolved q y s).line.queue = s.line.queue ++
      (resultOf y :: (restated y.p y.r (withRecord q y s)).toList).map fun m => ⟨m, s.fe.now, 0, false⟩ := by
  have hroom : (withRecord q y s).line.queue.length < Config.queueCapacity := Nat.lt_of_le_of_lt hlen (by decide)
  have henqueue := enqueue_room (resultOf y) (withRecord q y s) rfl hroom
  have hlen' : (enqueue (resultOf y) (withRecord q y s)).line.queue.length < 8 := by
    rw [henqueue]
    simp only [List.length_append, List.length_singleton]
    exact Nat.lt_of_le_of_lt (Nat.add_le_add_right hlen 1) (by decide)
  rw [readingResolved, restateStanding_room _ _ hlen', henqueue]
  exact List.append_assoc _ _ _

end Resolved

/-- What an AFTER reading leaves, whatever its answer (R86, R95). -/
theorem takeAfter_leaves (q v : Nat) (s : State) : QueuingKeeps s (takeAfter q v s).1 ∧
    (takeAfter q v s).2 ≠ .doneClamped ∧
    ∀ k, k ≠ q → slotGet (takeAfter q v s).1.meter.records k = slotGet s.meter.records k := by
  rcases takeAfter_cases q v s with ⟨x, y, -, -, h⟩ | ⟨code, hcode, h⟩ <;> rw [h]
  · obtain ⟨hkeeps, hrecords, -⟩ := readingResolved_leaves q y s
    refine ⟨hkeeps.trans (evaluate_keeps _), by simp, fun k hk => ?_⟩
    rw [(evaluate_remembers _).records, hrecords, slotGet_slotSet_other _ hk.symm]
  · exact ⟨.refl s, hcode, fun _ _ => rfl⟩

/-- A resolution with no number held is evaluated, in a state that evaluates (R95). -/
theorem readingResolved_evaluated {q : Nat} {y : PointRecord} {s : State} (hheld : s.meter.held = none)
    (hb : evaluates s.meter.batch = true) :
    (evaluate (readingResolved q y s)).meter.batch ≠ .claiming ∧
      (evaluate (readingResolved q y s)).meter.verdict = overallVerdict (evaluate (readingResolved q y s)) ∧
      (evaluate (readingResolved q y s)).meter.batch =
        stateOfVerdict (overallVerdict (evaluate (readingResolved q y s))) := by
  have hmeter := (readingResolved_leaves q y s).2.2 (by rintro h; rw [h] at hb; cases hb)
  rw [evaluate_not_held (by rw [hmeter]; exact hheld)]
  obtain ⟨hv, hs⟩ := evaluateRecord_stores (s := readingResolved q y s) (by rw [hmeter]; exact hb)
  refine ⟨fun h => ?_, hv, hs⟩
  have hevaluates := evaluates_stateOfVerdict (overallVerdict (evaluateRecord (readingResolved q y s)))
  rw [← hs, h] at hevaluates
  cases hevaluates

/-- A BEFORE reading reaches the slots alone, and clamps no field (R83). -/
theorem takeBefore_leaves (q v : Nat) (s : State) : (takeBefore q v s).1 = { s with run := (takeBefore q v s).1.run } ∧
    (takeBefore q v s).1.run.run = s.run.run ∧ (takeBefore q v s).1.run.standing = s.run.standing ∧
    (takeBefore q v s).2 ≠ .doneClamped ∧
    ((∃ x, s.run.run = some x ∧ x.p = q) → (takeBefore q v s).1.run.slots = s.run.slots) ∧
    ((∀ x, s.run.run = some x → x.p ≠ q) → (takeBefore q v s).1.run.slots = slotSet s.run.slots q (some v)) := by
  unfold takeBefore
  split
  · next h =>
    obtain ⟨x, hx, hp⟩ := (Option.any_eq_true _ _).1 h
    exact ⟨rfl, rfl, rfl, by simp, fun _ => rfl, fun hn => absurd (by simpa using hp) (hn x hx)⟩
  · next h =>
    refine ⟨rfl, rfl, rfl, by simp, fun ⟨x, hx, hp⟩ => absurd ?_ h, fun _ => rfl⟩
    rw [hx]
    simpa using hp

/-! ### The commands -/

section Exec

variable {h : Hdr} {p : Byte} {digits : List Byte} {s : State}

theorem exec_readingBefore (hh : Hears s) (hs : FromConsole h) (hdest : ToThis h s ∨ ToGroup h) (hp : p.toNat ≤ 31)
    (hlen : digits.length = 5) (hv : beNat digits < 10 ^ 12) (hb : s.meter.batch ≠ .idle) :
    ∃ t, exec (.readingBefore h (p :: 0 :: digits)) s = .next t ∧
      Answered h (acked s) (takeBefore p.toNat (beNat digits) (acked s)).1 t := by
  have hcommand := readingCommand_before (s := acked s) hp hlen hv hb
  refine ⟨_, congrArg Host.Outcome.next (receiveKind_console .reading h _ s hh hs rfl (by simp [hlen])), ?_⟩
  rw [← hcommand]
  refine command_answered (s := acked s) hdest ?_
  rw [hcommand]
  exact (takeBefore_leaves _ _ _).2.2.2.1

theorem exec_readingAfter (hh : Hears s) (hs : FromConsole h) (hdest : ToThis h s ∨ ToGroup h) (hp : p.toNat ≤ 31)
    (hlen : digits.length = 5) (hv : beNat digits < 10 ^ 12) (hb : s.meter.batch ≠ .idle) :
    ∃ t, exec (.readingAfter h (p :: 1 :: digits)) s = .next t ∧
      Answered h (acked s) (takeAfter p.toNat (beNat digits) (acked s)).1 t := by
  have hcommand := readingCommand_after (s := acked s) hp hlen hv hb
  refine ⟨_, congrArg Host.Outcome.next (receiveKind_console .reading h _ s hh hs rfl (by simp [hlen])), ?_⟩
  rw [← hcommand]
  refine command_answered (s := acked s) hdest ?_
  rw [hcommand]
  exact (takeAfter_leaves _ _ _).2.1

end Exec

/-- Settles O50: a reading is `takeBefore` or `takeAfter`, and its answer leaves what they do. -/
theorem readingsTaken : Obligations.ReadingsTaken := by
  intro h p digits s hh hs hdest hp hlen hv hidle hclaiming q v
  obtain ⟨before, hbefore, hanswered⟩ := exec_readingBefore hh hs hdest hp hlen hv hidle
  obtain ⟨after, hafter, hanswered'⟩ := exec_readingAfter hh hs hdest hp hlen hv hidle
  refine ⟨⟨before, hbefore, ?_⟩, ⟨after, hafter, ?_⟩⟩
  · obtain ⟨hrun, hopen, hstanding, -, hrefused, hfilled⟩ := takeBefore_leaves q v (acked s)
    have hmeter : (takeBefore q v (acked s)).1.meter = s.meter := by rw [hrun]; rfl
    obtain ⟨hm, hu⟩ := hanswered.quiet (by rw [hmeter]; exact hclaiming)
    have hrun' := hanswered.keeps.runner_eq.1
    refine ⟨?_, hanswered.keeps.setup.trans (by rw [hrun]; rfl), by rw [hrun', hopen]; rfl,
      by rw [hrun', hstanding]; rfl, fun hx => by rw [hrun']; exact hrefused hx, fun hx => ?_⟩
    · have hblocks := hanswered.keeps.blocks
      unfold QueuingOnly at hblocks
      rw [hblocks, hm, hu, hrun]
      rfl
    · rw [hrun', hfilled hx]
      exact ⟨slotGet_slotSet_same _ (by omega) _, fun k _ hk => slotGet_slotSet_other _ hk.symm _⟩
  · obtain ⟨hleaves, -, hothers⟩ := takeAfter_leaves q v (acked s)
    have hblocks := (hleaves.trans hanswered'.keeps).blocks
    unfold QueuingOnly at hblocks
    have hrecords := hanswered'.remembers.records
    refine ⟨by rw [hblocks]; rfl, by rw [hblocks]; rfl, by rw [hblocks]; rfl, by rw [hblocks]; rfl, by rw [hblocks]; rfl,
      by rw [hblocks]; rfl, fun k _ hk => by rw [hrecords]; exact hothers k hk,
      fun x b m limits void st hx hpend hbody hbv => ?_, fun hx => ?_, fun x b a m limits void st hx hpend hbody hvb => ?_⟩
    · intro res
      let y := resolvedRecord s.cmd.setup.cRef b v m limits void x
      have htaken : takeAfter q v (acked s) = (evaluate (readingResolved q y (acked s)), .done) :=
        takeAfter_resolved (s := acked s) hx (resolve_pending hpend hbody hbv)
      obtain ⟨hkeeps, hrecords', hmeter⟩ := readingResolved_leaves q y (acked s)
      have hslots : after.meter.records = slotSet s.meter.records q (some y) := by
        rw [hrecords, htaken, (evaluate_remembers _).records, hrecords']
        rfl
      obtain ⟨hvoid, hclamped, hvalid⟩ := resolvedRecord_judged (cRef := s.cmd.setup.cRef) (v := v) (b := b) (m := m)
        (limits := limits) (void := void) (x := x)
      refine ⟨y, by rw [hslots, slotGet_slotSet_same _ (by omega)], rfl, hvoid, hclamped, hvalid, fun hheld hb => ?_,
        fun _ hnot hheld hroom => ?_⟩
      · obtain ⟨hne, hverdict, hbatch⟩ := readingResolved_evaluated (q := q) (y := y) (s := acked s) hheld
          (by rcases hb with hb | hb | hb <;> rw [acked_meter, hb] <;> rfl)
        rw [htaken] at hanswered'
        have hblocks' := hanswered'.keeps.blocks
        unfold QueuingOnly at hblocks'
        exact evaluated_congr (by rw [hblocks']) (by rw [hblocks']) (hanswered'.quiet hne).1 ⟨hverdict, hbatch⟩
      · intro queues
        have hqueues (l : List TxMsg) (hl : (restated y.p y.r (withRecord q y (acked s))).toList = l) : queues l := by
          have hheld' : (readingResolved q y (acked s)).meter.held = none := by rw [hmeter hclaiming]; exact hheld
          show after.line.queue = _
          rw [hanswered'.unanswered hnot, htaken, evaluate_not_held hheld', evaluateRecord_eq,
            readingResolved_room (s := acked s) y hroom, hl]
          rfl
        refine ⟨fun hst => hqueues _ ?_, fun p' r' hst => hqueues _ ?_, fun p' r' z hst hz => hqueues _ ?_,
          fun hst => hqueues _ ?_, fun p' r' z hst hne hneq hz hzp => ?_⟩
        · simp only [restated, withRecord, acked_run, hst, Option.toList_none]
        · simp only [restated, withRecord, acked_run, hst]
          rfl
        · simp only [restated, withRecord, acked_run, hst, hz]
          rfl
        · simp only [restated, withRecord, acked_run, hst]
          exact congrArg Option.toList (if_pos ⟨rfl, rfl⟩)
        · refine hqueues _ ?_
          simp only [restated, withRecord, acked_run, hst]
          rw [if_neg (fun h => hne h.1), slotGet_slotSet_other _ hneq.symm, acked_meter, hz, ← hzp]
          rfl
    · rw [hrecords]
      cases hq : slotGet s.meter.records q with
      | none => rw [takeAfter_absent (s := acked s) hq]; rfl
      | some x => rw [takeAfter_refused (s := acked s) hq (resolve_not_pending (hx x hq))]; rfl
    · rw [hrecords, takeAfter_refused (s := acked s) hx (resolve_below hpend hbody hvb)]
      rfl

end Sys2Proof.Machine
end

section
/-! SUPPORT. LOAD_SETTLED that opens a run: the forced close, the copy of the DUE entries, and the opening (R18, R50, R52,
R55 to R58, R84, R93). -/

namespace Sys2Proof.Machine

/-! ### The copy of marked entries -/

theorem mem_markedIndexes {plan : PlanStore} {f : Mark → Bool} {p : Nat} :
    p ∈ markedIndexes plan f ↔ p < 32 ∧ f (markGet plan.marks p) = true := by
  simp only [markedIndexes, List.mem_filter, List.mem_range]

/-- Of the active entries a copy changes those it names (R52). -/
theorem copyEntry_foldl_active (ps : List Nat) (plan : PlanStore) {q : Nat} (hq : q < 32) :
    slotGet (ps.foldl copyEntry plan).active q =
      if q ∈ ps then slotGet plan.staged q else slotGet plan.active q := by
  induction ps generalizing plan with
  | nil => simp
  | cons p ps ih =>
    have hstep : slotGet (copyEntry plan p).active q =
        if q = p then slotGet plan.staged q else slotGet plan.active q := by
      by_cases hp : q = p
      · subst hp
        rw [if_pos rfl]
        exact slotGet_slotSet_same _ hq _
      · rw [if_neg hp]
        exact slotGet_slotSet_other _ (Ne.symm hp) _
    rw [List.foldl_cons, ih, show (copyEntry plan p).staged = plan.staged from rfl, hstep]
    by_cases hmem : q ∈ ps <;> by_cases hp : q = p <;> simp [hmem, hp]

/-! ### What the opening test finds -/

/-- The batch states in which LOAD_SETTLED opens a run (R56). -/
abbrev Opens (b : BatchState) : Prop := b = .loaded ∨ b = .running ∨ b = .rejected ∨ b = .awaitSeal

theorem Opens.not_claiming {b : BatchState} (h : Opens b) : b ≠ .claiming := by
  rcases h with rfl | rfl | rfl | rfl <;> decide

/-- An evaluation stays among the states that open (Table 6.3). -/
theorem evaluateRecord_opens {s : State} (h : Opens s.meter.batch) : Opens (evaluateRecord s).meter.batch := by
  unfold evaluateRecord
  split
  · rcases overallVerdict s with _ | _ | _
    · exact .inr (.inl rfl)
    · exact .inr (.inr (.inr rfl))
    · exact .inr (.inr (.inl rfl))
  · exact h

/-- With no number held a close stays among them, and holds none. -/
theorem closeRun_opens (c : CloseCause) {s : State} (h : Opens s.meter.batch) (hheld : s.meter.held = none) :
    Opens (closeRun c s).meter.batch ∧ (closeRun c s).meter.held = none := by
  cases hx : s.run.run with
  | none => rw [closeRun_none hx]; exact ⟨h, hheld⟩
  | some x =>
    obtain ⟨hmeter, -⟩ := closeAnnounced_quiet (s := s) c x h.not_claiming
    have hheld' : (closeAnnounced c x s).meter.held = none := by rw [hmeter]; exact hheld
    rw [closeRun_eq hx, evaluate_not_held hheld']
    exact ⟨evaluateRecord_opens (by rw [hmeter]; exact h), (evaluateRecord_meter _).2.trans hheld'⟩

theorem copyEntries_opens (ps : List Nat) {s : State} (h : Opens s.meter.batch) (hheld : s.meter.held = none) :
    Opens (copyEntries ps s).meter.batch := by
  unfold copyEntries
  dsimp only
  split
  · exact h
  · rw [evaluate_not_held (by exact hheld)]
    exact evaluateRecord_opens h

/-- A copy of no entry changes nothing (R52). -/
theorem copyEntries_nil (s : State) : copyEntries [] s = s := rfl

/-- The state in which LOAD_SETTLED asks whether to open: the open run closed, the DUE entries copied, the load flags
cleared (R50). -/
def loadSettledCopied (s : State) : State :=
  let u := closeRun .forced s
  let v := copyEntries (markedIndexes u.plan (· == .due)) u
  { v with plan := { v.plan with cutOff := false, loadOff := false } }

theorem loadSettled_eq (p r : Nat) (s : State) : loadSettled p r s = openOrDecline p r (loadSettledCopied s) := rfl

/-- What the opening test finds of the state before LOAD_SETTLED. -/
structure ReadyToOpen (s v : State) : Prop where
  pins : v.pins = s.pins
  fe : v.fe = s.fe
  count : v.trk.count = s.trk.count
  roster : v.roster = s.roster
  xc : v.xc = s.xc
  slots : v.run.slots = s.run.slots
  ec : v.ec = if s.run.run.any fun x => x.kind == .accuracy then .idle else s.ec
  active : ∀ p < 32, slotGet v.plan.active p =
    if markGet s.plan.marks p = .due then slotGet s.plan.staged p else slotGet s.plan.active p
  flags : v.plan.cutOff = false ∧ v.plan.loadOff = false

/-- A close disarms the error computer for an ACCURACY run, and leaves it else (R19, R69). -/
theorem closeRun_ec (c : CloseCause) (s : State) : (closeRun c s).ec =
    if s.run.run.any fun x => x.kind == .accuracy then .idle else s.ec := by
  cases hx : s.run.run with
  | none => rw [closeRun_none hx]; rfl
  | some x =>
    have hclosed := closeRun_closed (c := c) hx
    by_cases hk : x.kind = .accuracy
    · simp [(hclosed.disarmed hk).1, hk]
    · simp [(hclosed.spared hk).1, hk]

theorem loadSettledCopied_ready (s : State) : ReadyToOpen s (loadSettledCopied s) := by
  obtain ⟨hpins, -, hfe, hcount, -, -, hplan, hslots, -, hroster, hxc, -⟩ := (closeRun_closing .forced s).fields
  have hec := closeRun_ec .forced s
  unfold loadSettledCopied
  generalize closeRun .forced s = u at *
  have hblocks := (copyEntries_keeps (markedIndexes u.plan (· == .due)) u).blocks
  unfold QueuingOnly at hblocks
  dsimp only
  rw [hblocks]
  refine ⟨hpins, hfe, hcount, hroster, hxc, hslots, hec, fun p hp => ?_, rfl, rfl⟩
  dsimp only
  rw [copyEntry_foldl_active _ _ hp, hplan]
  simp only [mem_markedIndexes, hp, true_and, beq_iff_eq]

/-- Where it opens, the batch state is still one of those that open (R56, R93). -/
theorem loadSettledCopied_opens {s : State} (h : Opens s.meter.batch)
    (hcase : (s.run.run = none ∧ markedIndexes s.plan (· == .due) = []) ∨ s.meter.held = none) :
    Opens (loadSettledCopied s).meter.batch := by
  rcases hcase with ⟨hx, hdue⟩ | hheld
  · unfold loadSettledCopied
    dsimp only
    rw [closeRun_none hx, hdue]
    exact h
  · obtain ⟨hopens, hheld'⟩ := closeRun_opens .forced h hheld
    exact copyEntries_opens _ hopens hheld'

theorem loadSettledCopied_held {s : State} (h : Opens s.meter.batch) (hheld : s.meter.held = none) :
    (loadSettledCopied s).meter.held = none :=
  (copyEntries_not_held _ (closeRun_opens .forced h hheld).2).2

/-- With no run open and no number held nothing is queued before the opening. -/
theorem loadSettledCopied_line {s : State} (hx : s.run.run = none) (hheld : s.meter.held = none) :
    (loadSettledCopied s).line = s.line := by
  unfold loadSettledCopied
  dsimp only
  rw [closeRun_none hx, (copyEntries_not_held _ hheld).1]

theorem loadSettledCopied_records {s : State} (hx : s.run.run = none)
    (hdue : markedIndexes s.plan (· == .due) = []) : (loadSettledCopied s).meter.records = s.meter.records := by
  unfold loadSettledCopied
  dsimp only
  rw [closeRun_none hx, hdue, copyEntries_nil]

/-! ### The opening -/

theorem openOrDecline_opens {p r : Nat} {e : PlanEntry} {s : State} (hb : Opens s.meter.batch) (hp : p ≤ 31)
    (hr : r ≠ 0) (he : slotGet s.plan.active p = some e) : openOrDecline p r s = openRun p r e s := by
  have hrange : (decide (p ≤ 31) && r != 0) = true := by simp [hp, hr]
  have hactive : activeEntry s p = some e := he
  rcases hb with hb | hb | hb | hb <;> simp only [openOrDecline, hb, if_pos hrange, hactive]

section Opening

variable {p r : Nat} {e : PlanEntry} {v : State}

theorem beginRun_run : (beginRun p r e v).run.run = some (openedRun p r e v) := by rw [beginRun_eq]

/-- A run that opens with PRESENT high: the fields of its opening, RUNNING with no verdict, and what stays (R57, R84). -/
theorem openRun_present (h : v.pins.present = true) :
    (openRun p r e v).run = ⟨some { openedRun p r e v with
        progress := if e.point.kind = .register then .settled else .opened },
      bindSlot p e v.run.slots, .opened p r⟩ ∧
    (openRun p r e v).meter = { v.meter with batch := .running, verdict := none } ∧
    (openRun p r e v).ec = (armFor e v).ec ∧ (openRun p r e v).trk.count = v.trk.count ∧
    (openRun p r e v).fe = v.fe ∧ (openRun p r e v).plan = v.plan ∧ (openRun p r e v).roster = v.roster ∧
    (openRun p r e v).xc = v.xc := by
  obtain ⟨hkeeps, -, hmeter⟩ := announceRun_leaves (e := e) (beginRun_run (p := p) (r := r) (e := e) (v := v))
  have hblocks := hkeeps.blocks
  have hmeter' := hmeter (by rw [beginRun_eq]; simp)
  unfold QueuingOnly at hblocks
  rw [openRun, if_pos h, hmeter', hblocks, beginRun_eq]
  exact ⟨rfl, rfl, rfl, rfl, rfl, rfl, rfl, rfl⟩

/-- The record of a run that the scanner closes at its opening (R58, R71, R81, R85). -/
theorem closeRecord_openedRun {present : Bool} {y : PointRecord}
    (hy : y = closeRecord .scanner present v.trk.count (openedRun p r e v)) :
    y.value = none ∧ y.spread = none ∧ y.completed = 0 ∧ y.streamDrops = 0 ∧
    (e.point.kind = .accuracy → y.body = .accuracy [] ∧
      (v.xc.suspect = true → y.verdict = .void ∧ y.cause = none) ∧
      (v.xc.suspect = false → y.verdict = .incomplete ∧ y.cause = some .scanner)) ∧
    (e.point.kind = .creep ∨ e.point.kind = .start →
      y.body = .window 0 none ∧ y.verdict = .incomplete ∧ y.cause = some .scanner) ∧
    (e.point.kind = .register → y.body = .register (slotGet v.run.slots p) none 0 e.limits v.xc.suspect none ∧
      y.verdict = .incomplete ∧
      y.cause = some (if slotGet v.run.slots p = none then .noReading else .scanner)) := by
  have hkind : (openedRun p r e v).kind = e.point.kind := rfl
  have hwindow : judgeWindow .scanner present (openedRun p r e v) = ⟨.incomplete, some .scanner, none, none⟩ :=
    judgeWindow_undecided rfl (by simp)
  cases hk : e.point.kind with
  | accuracy =>
    rw [closeRecord_accuracy (hkind.trans hk)] at hy
    subst hy
    cases hv : v.xc.suspect with
    | true =>
      rw [judgeAccuracy_void (show (openedRun p r e v).void = true from hv)]
      simp [judgedRecord, openedRun]
    | false =>
      rw [judgeAccuracy_scanner (show (openedRun p r e v).void = false from hv)]
      simp [judgedRecord, openedRun, validErrors, mean]
  | creep =>
    rw [closeRecord_windowRun (.inl (hkind.trans hk)), hwindow] at hy
    subst hy
    simp [judgedRecord, openedRun]
  | start =>
    rw [closeRecord_windowRun (.inr (hkind.trans hk)), hwindow] at hy
    subst hy
    simp [judgedRecord, openedRun]
  | register =>
    have hbefore : (openedRun p r e v).before = slotGet v.run.slots p := if_pos hk
    rw [closeRecord_register (hkind.trans hk), hbefore] at hy
    have helapsed : elapsed v.trk.count (openedRun p r e v).openCount = 0 := by simp [elapsed, openedRun]
    rw [helapsed] at hy
    by_cases hslot : slotGet v.run.slots p = none
    · rw [judgeRegister_without (hbefore.trans hslot)] at hy
      subst hy
      simp [judgedRecord, openedRun, hslot]
    · rw [judgeRegister_scanner (by rw [hbefore]; exact hslot)] at hy
      subst hy
      simp [judgedRecord, openedRun, hslot]

/-- A run that opens with PRESENT low is closed at once by the scanner (R58). -/
theorem openRun_absent (h : v.pins.present = false) (hp : p < 32) (hheld : v.meter.held = none) :
    let y := closeRecord .scanner false v.trk.count (openedRun p r e v)
    (openRun p r e v).run.run = none ∧ (openRun p r e v).run.standing = .closed p r ∧
    slotGet (openRun p r e v).meter.records p = some y ∧
    (v.line.queue.length ≤ 6 → (openRun p r e v).line.queue = v.line.queue ++
      [⟨.progress p r .withdrawn .running, v.fe.now, 0, false⟩,
        ⟨.pointResult p r y.verdict none none 0, v.fe.now, 0, false⟩]) ∧
    Evaluated (openRun p r e v) ∧ (openRun p r e v).fe = v.fe ∧ (openRun p r e v).trk.count = v.trk.count ∧
    (openRun p r e v).roster = v.roster ∧ (openRun p r e v).xc = v.xc := by
  have hopen : openRun p r e v = closeRun .scanner (beginRun p r e v) := if_neg (by simp [h])
  have hbegin := beginRun_eq p r e v
  have hx := beginRun_run (p := p) (r := r) (e := e) (v := v)
  have hpins : (beginRun p r e v).pins.present = false := by rw [hbegin]; exact h
  have hcount : (beginRun p r e v).trk.count = v.trk.count := by rw [hbegin]
  have hfe : (beginRun p r e v).fe = v.fe := by rw [hbegin]
  have hline : (beginRun p r e v).line = v.line := by rw [hbegin]
  have hclosed := closeRun_closed (c := .scanner) hx
  have hrecord := hclosed.record hp
  have hqueue := (closeRun_announced .scanner hx).queue (by rw [hbegin]; exact hheld)
  have hevaluated := closeRun_evaluated (c := .scanner) hx (by rw [hbegin]; exact hheld) (by rw [hbegin]; rfl)
  obtain ⟨-, -, hfe', hcount', -, -, -, -, -, hroster', hxc', -⟩ := hclosed.keeps.fields
  rw [hpins, hcount] at hrecord
  rw [hline, closeFrames, hpins, hcount, hfe] at hqueue
  obtain ⟨hvalue, hspread, hcompleted, -⟩ := closeRecord_openedRun (p := p) (r := r) (e := e) (v := v) rfl
  rw [hopen]
  refine ⟨by rw [hclosed.run], by rw [hclosed.run]; rfl, hrecord, fun hlen => ?_, hevaluated, hfe'.trans hfe,
    hcount'.trans hcount, ?_, ?_⟩
  · rw [(hqueue hlen).1, hvalue, hspread, hcompleted]
    rfl
  · rw [hroster', hbegin]
  · rw [hxc', hbegin]

end Opening

/-- Settles O19: LOAD_SETTLED is `openRun` in the state that the forced close and the copy leave. -/
theorem loadSettledOpensRun : Obligations.LoadSettledOpensRun := by
  intro h p r e s hh hs hcase hb hp hr he closed
  have hready := loadSettledCopied_ready (acked s)
  have hopens := loadSettledCopied_opens (s := acked s) hb hcase
  have hr' : r.toNat ≠ 0 := fun h0 => hr (BitVec.eq_of_toNat_eq h0)
  have hactive : slotGet (loadSettledCopied (acked s)).plan.active p.toNat = some e :=
    (hready.active _ (by omega)).trans he
  have hexec : exec (.loadSettled h [p, r]) s = .next (openRun p.toNat r.toNat e (loadSettledCopied (acked s))) := by
    rw [exec_loadSettled p r hh hs, loadSettled_eq, openOrDecline_opens hopens hp hr' hactive]
  have hline := loadSettledCopied_line (s := acked s)
  have hrecords := loadSettledCopied_records (s := acked s)
  have hheld := loadSettledCopied_held (s := acked s) hb
  generalize loadSettledCopied (acked s) = v at *
  obtain ⟨hpins, hfe, hcount, hroster, hxc, hslots, hec, -, hcut, hoff⟩ := hready
  refine ⟨fun hpresent => ?_, fun habsent hnone => ?_⟩
  · obtain ⟨hrun, hmeter, hec', hcount', hfe', hplan, hroster', hxc'⟩ :=
      openRun_present (p := p.toNat) (r := r.toNat) (e := e) (v := v) (by rw [hpins]; exact hpresent)
    refine ⟨_, _, hexec, by rw [hrun], by rw [hmeter], by rw [hmeter], by rw [hrun], by rw [hplan]; exact hcut,
      by rw [hplan]; exact hoff, rfl, rfl, rfl, rfl, rfl, rfl, rfl, congrArg CrossCheck.suspect hxc,
      congrArg FrontEnd.now hfe, hcount, fun n st k m l hpoint => ?_, fun w a hpoint => ?_, fun l hpoint => ?_,
      fun hx hdue => ?_, hfe'.trans hfe, hcount'.trans hcount, hroster'.trans hroster, hxc'.trans hxc⟩
    · have hk : e.point.kind ≠ .register := by rw [hpoint]; simp [PointPart.kind]
      refine ⟨?_, ?_, if_neg hk, ?_, hec'.trans (armFor_accuracy hpoint v)⟩
      · simp only [openedRun, hpoint]; rfl
      · simp only [openedRun, hpoint]; rfl
      · simp only [openedRun, hpoint, hfe]; rfl
    · have hk : e.point.kind = .creep ∨ e.point.kind = .start := hpoint.imp (by rintro h; rw [h]; rfl)
        (by rintro h; rw [h]; rfl)
      refine ⟨?_, rfl, rfl, rfl, if_neg (by rcases hk with hk | hk <;> simp [hk]), ?_, ?_⟩
      · rcases hpoint with hpoint | hpoint <;> simp only [openedRun, hpoint] <;> rfl
      · rcases hpoint with hpoint | hpoint <;> simp only [openedRun, hpoint, hfe] <;> rfl
      · rw [hec', armFor_other (by rcases hk with hk | hk <;> simp [hk])]
        exact hec
    · have hk : e.point.kind = .register := by rw [hpoint]; rfl
      refine ⟨?_, ?_, ?_, if_pos hk, ?_, ?_⟩
      · simp only [openedRun, hpoint]; rfl
      · exact (if_pos hk).trans (by rw [hslots]; rfl)
      · rw [hrun]
        show slotGet (bindSlot p.toNat e v.run.slots) p.toNat = none
        rw [bindSlot, if_pos hk, slotGet_slotSet_same _ (by omega)]
      · simp only [openedRun, hpoint, hfe]; rfl
      · rw [hec', armFor_other (by simp [hk])]
        exact hec
    · rw [hmeter]
      exact hrecords hx hdue
  · obtain ⟨hrun, hstanding, hrecord, hline', hevaluated, hfe', hcount', hroster', hxc'⟩ :=
      openRun_absent (p := p.toNat) (r := r.toNat) (e := e) (v := v) (by rw [hpins]; exact habsent) (by omega)
        (hheld hnone)
    obtain ⟨hyp, hyr, hykind, hystale⟩ := closeRecord_header (c := .scanner) (present := false) (count := v.trk.count)
      (x := openedRun p.toNat r.toNat e v)
    generalize hy : closeRecord .scanner false v.trk.count (openedRun p.toNat r.toNat e v) = y at *
    obtain ⟨hvalue, hspread, hcompleted, hdrops, hacc, hwindow, hregister⟩ := closeRecord_openedRun hy.symm
    rw [hxc] at hacc hregister
    rw [hslots] at hregister
    refine ⟨_, y, hexec, hrun, hstanding, hrecord, hyp, hyr, hykind, hvalue, hspread, hcompleted, hdrops, hystale, hacc,
      hwindow, hregister, fun hrun hlen => ?_, hevaluated, hfe'.trans hfe, hcount'.trans hcount, hroster'.trans hroster,
      hxc'.trans hxc⟩
    have hqueue : v.line.queue = s.line.queue := by rw [hline hrun hnone]; rfl
    rw [hline' (by rw [hqueue]; exact hlen), hqueue, hfe]
    rfl

end Sys2Proof.Machine
end

section
/-! SUPPORT. What the load announcements do to the plan and to the stale marks of the records, and where LOAD_SETTLED
declines (R45 to R52, R56). -/

namespace Sys2Proof.Machine

/-! ### Updates of one index each, made for a list of indexes -/

/-- What a list of updates leaves at an index, where each update reaches its own index alone and the same update made
twice is the update made once. -/
theorem foldl_at {β γ : Type} {get : β → γ} {upd : β → Nat → β} {f : γ → γ} {q : Nat} (htwice : ∀ c, f (f c) = f c)
    (hstep : ∀ b p, get (upd b p) = if q = p then f (get b) else get b) (ps : List Nat) (b : β) :
    get (ps.foldl upd b) = if q ∈ ps then f (get b) else get b := by
  induction ps generalizing b with
  | nil => simp
  | cons p ps ih =>
    rw [List.foldl_cons, ih, hstep]
    by_cases hmem : q ∈ ps <;> by_cases hp : q = p <;> simp [hmem, hp, htwice]

theorem markGet_markSet (v : Vector Mark 32) {q : Nat} (hq : q < 32) (p : Nat) (m : Mark) :
    markGet (markSet v p m) q = if q = p then m else markGet v q := by
  split
  · next h => rw [← h, markGet_markSet_same _ hq]
  · next h => exact markGet_markSet_other _ (Ne.symm h) _

theorem slotGet_slotSet {α : Type} (v : Slots α) {q : Nat} (hq : q < 32) (p : Nat) (x : Option α) :
    slotGet (slotSet v p x) q = if q = p then x else slotGet v q := by
  split
  · next h => rw [← h, slotGet_slotSet_same _ hq]
  · next h => exact slotGet_slotSet_other _ (Ne.symm h) _

theorem markSet_foldl (m : Mark) {q : Nat} (hq : q < 32) (ps : List Nat) (v : Vector Mark 32) :
    markGet (ps.foldl (fun v p => markSet v p m) v) q = if q ∈ ps then m else markGet v q :=
  foldl_at (get := (markGet · q)) (f := fun _ => m) (fun _ => rfl) (fun v p => markGet_markSet v hq p m) ps v

theorem slotSet_foldl {α : Type} (x : Option α) {q : Nat} (hq : q < 32) (ps : List Nat) (v : Slots α) :
    slotGet (ps.foldl (fun v p => slotSet v p x) v) q = if q ∈ ps then x else slotGet v q :=
  foldl_at (get := (slotGet · q)) (f := fun _ => x) (fun _ => rfl) (fun v p => slotGet_slotSet v hq p x) ps v

/-- The marks of copied entries are CLEAN (R52). -/
theorem copyEntry_foldl_marks {q : Nat} (hq : q < 32) (ps : List Nat) (plan : PlanStore) :
    markGet (ps.foldl copyEntry plan).marks q = if q ∈ ps then .clean else markGet plan.marks q :=
  foldl_at (get := fun plan : PlanStore => markGet plan.marks q) (f := fun _ => .clean) (fun _ => rfl)
    (fun plan p => markGet_markSet plan.marks hq p .clean) ps plan

/-- A record after a copy that changed the active entry of its index (R52). -/
def staleRecord (x : Option PointRecord) : Option PointRecord := x.map fun z => { z with stale := true }

theorem markStale_foldl {q : Nat} (hq : q < 32) (ps : List Nat) (records : Slots PointRecord) :
    slotGet (ps.foldl markStale records) q =
      if q ∈ ps then staleRecord (slotGet records q) else slotGet records q := by
  refine foldl_at (get := (slotGet · q)) (fun x => ?_) (fun records p => ?_) ps records
  · cases x <;> rfl
  · rw [markStale, slotGet_slotSet _ hq]
    split
    · next h => rw [h]; rfl
    · rfl

/-! ### Marks and copies of a list of entries -/

/-- The entries of the indexes ps take the mark m and, where they are copied, their staged contents; a copy that changes
the active entry marks the record of its index stale. Staged entries, flags and all other indexes stay (R45, R52). -/
structure EntriesMoved (ps : List Nat) (m : Mark) (copied : Bool) (s t : State) : Prop where
  staged : t.plan.staged = s.plan.staged
  hold : t.plan.hold = s.plan.hold
  cutOff : t.plan.cutOff = s.plan.cutOff
  loadOff : t.plan.loadOff = s.plan.loadOff
  marks : ∀ q < 32, markGet t.plan.marks q = if q ∈ ps then m else markGet s.plan.marks q
  active : ∀ q < 32, slotGet t.plan.active q =
    if q ∈ ps ∧ copied = true then slotGet s.plan.staged q else slotGet s.plan.active q
  records : ∀ q < 32, slotGet t.meter.records q =
    if (q ∈ ps ∧ copied = true) ∧ slotGet s.plan.staged q ≠ slotGet s.plan.active q then
      staleRecord (slotGet s.meter.records q) else slotGet s.meter.records q

/-- Entries that are marked and not copied. -/
theorem entriesMoved_marked (ps : List Nat) (m : Mark) (s : State) : EntriesMoved ps m false s
    { s with plan := { s.plan with marks := ps.foldl (fun v p => markSet v p m) s.plan.marks } } where
  staged := rfl
  hold := rfl
  cutOff := rfl
  loadOff := rfl
  marks _ hq := markSet_foldl m hq ps s.plan.marks
  active _ _ := by simp
  records _ _ := by simp

/-- A copy writes the plan, marks records stale, and evaluates or not (R52). -/
theorem copyEntries_writes (ps : List Nat) (s : State) : (copyEntries ps s).plan = ps.foldl copyEntry s.plan ∧
    (copyEntries ps s).meter.records = (ps.filter (copyStales s)).foldl markStale s.meter.records := by
  have hplan (u : State) : (evaluate u).plan = u.plan := by
    have hblocks := (evaluate_keeps u).blocks
    unfold QueuingOnly at hblocks
    rw [hblocks]
  unfold copyEntries
  dsimp only
  split
  · exact ⟨rfl, rfl⟩
  · exact ⟨hplan _, (evaluate_remembers _).records⟩

theorem copyStales_iff (s : State) (p : Nat) : copyStales s p = true ↔
    slotGet s.plan.staged p ≠ slotGet s.plan.active p ∧ slotGet s.meter.records p ≠ none := by
  simp [copyStales, copyChanges, Option.isSome_iff_ne_none]

theorem copyEntries_moved (ps : List Nat) (s : State) : EntriesMoved ps .clean true s (copyEntries ps s) := by
  obtain ⟨hplan, hrecords⟩ := copyEntries_writes ps s
  obtain ⟨hstaged, hhold, hcut, hoff⟩ := copyEntry_foldl ps s.plan
  rw [← hplan] at hstaged hhold hcut hoff
  refine ⟨hstaged, hhold, hcut, hoff, fun q hq => ?_, fun q hq => ?_, fun q hq => ?_⟩
  · rw [hplan, copyEntry_foldl_marks hq]
  · simp only [hplan, copyEntry_foldl_active ps s.plan hq, and_true]
  · rw [hrecords, markStale_foldl hq]
    by_cases hx : slotGet s.meter.records q = none
    · simp [hx, staleRecord]
    · simp [copyStales_iff, hx]

/-! ### Load announcements -/

theorem openOrDecline_plan (p r : Nat) (s : State) : (openOrDecline p r s).plan = s.plan := by
  rcases openOrDecline_cases p r s with hcase | hcase | ⟨e, hcase⟩ <;> rw [hcase]
  · simp only [declineRun, queueProgress, enqueue_plan]
  · by_cases hpresent : s.pins.present = true
    · obtain ⟨-, -, -, -, -, hplan, -⟩ := openRun_present (p := p) (r := r) (e := e) hpresent
      exact hplan
    · obtain ⟨-, -, -, -, -, -, hplan, -⟩ := (closeRun_closing .scanner (beginRun p r e s)).fields
      rw [openRun, if_neg hpresent, hplan, beginRun_eq]

/-- What the forced close and the copy of a load announcement leave of the plan, and with no run open of the records
(R50, R51, R52). -/
structure LoadMoved (copies : Mark → Bool) (s v : State) : Prop where
  staged : v.plan.staged = s.plan.staged
  hold : v.plan.hold = s.plan.hold
  copied : ∀ q < 32, copies (markGet s.plan.marks q) = true →
    slotGet v.plan.active q = slotGet s.plan.staged q ∧ markGet v.plan.marks q = .clean
  spared : ∀ q < 32, copies (markGet s.plan.marks q) = false →
    slotGet v.plan.active q = slotGet s.plan.active q ∧ markGet v.plan.marks q = markGet s.plan.marks q
  records : s.run.run = none → ∀ q < 32, slotGet v.meter.records q =
    if copies (markGet s.plan.marks q) = true ∧ slotGet s.plan.staged q ≠ slotGet s.plan.active q then
      staleRecord (slotGet s.meter.records q) else slotGet s.meter.records q

theorem closeAndCopy_moved (copies : Mark → Bool) (s : State) :
    LoadMoved copies s (copyEntries (markedIndexes (closeRun .forced s).plan copies) (closeRun .forced s)) := by
  have hmoved := copyEntries_moved (markedIndexes (closeRun .forced s).plan copies) (closeRun .forced s)
  obtain ⟨-, -, -, -, -, -, hplan, -⟩ := (closeRun_closing .forced s).fields
  have hmem (q : Nat) (hq : q < 32) : q ∈ markedIndexes (closeRun .forced s).plan copies ↔
      copies (markGet s.plan.marks q) = true := by
    rw [mem_markedIndexes, hplan, and_iff_right hq]
  refine ⟨hmoved.staged.trans (by rw [hplan]), hmoved.hold.trans (by rw [hplan]), fun q hq hc => ?_,
    fun q hq hc => ?_, fun hrun q hq => ?_⟩
  · rw [hmoved.active q hq, hmoved.marks q hq, if_pos ⟨(hmem q hq).2 hc, rfl⟩, if_pos ((hmem q hq).2 hc), hplan]
    exact ⟨rfl, rfl⟩
  · have hnot : q ∉ markedIndexes (closeRun .forced s).plan copies := by rw [hmem q hq, hc]; simp
    rw [hmoved.active q hq, hmoved.marks q hq, if_neg (fun h => hnot h.1), if_neg hnot, hplan]
    exact ⟨rfl, rfl⟩
  · rw [closeRun_none hrun] at hmoved hmem ⊢
    rw [hmoved.records q hq]
    simp only [hmem q hq, and_true]

/-- LOAD_CHANGING copies none and makes WAITING entries DUE (R49). -/
theorem loadChanging_plan (s : State) : (loadChanging s).plan = { s.plan with
    marks := s.plan.marks.map (fun m => if m = .waiting then .due else m), cutOff := true, loadOff := false } := by
  obtain ⟨-, -, -, -, -, -, hplan, -⟩ := (closeRun_closing .forced s).fields
  unfold loadChanging
  dsimp only
  rw [hplan]

theorem markGet_map (v : Vector Mark 32) (f : Mark → Mark) {q : Nat} (hq : q < 32) :
    markGet (v.map f) q = f (markGet v q) := by
  simp [markGet, hq]

theorem exec_loadChanging {h : Hdr} {s : State} (b : Byte) (hh : Hears s) (hs : FromSource h) :
    exec (.loadChanging h [b]) s = .next (loadChanging (acked s)) :=
  congrArg Host.Outcome.next (receiveKind_source .loadChanging h [b] s hh hs rfl rfl (by simp))

theorem exec_loadOff {h : Hdr} {s : State} (hh : Hears s) (hs : FromSource h) :
    exec (.loadOff h []) s = .next (loadOff (acked s)) :=
  congrArg Host.Outcome.next (receiveKind_source .loadOff h [] s hh hs rfl rfl (by simp))

/-- A conditional stale mark says both of what holds with the condition and of what holds without it. -/
theorem staled_of_eq {c : Prop} {copied : Bool} {a b : Option PlanEntry} {x y : Option PointRecord}
    (hiff : copied = true ↔ c) (h : y = if copied = true ∧ a ≠ b then staleRecord x else x) :
    (c → a ≠ b → y = x.map fun z => { z with stale := true }) ∧ (¬ c ∨ a = b → y = x) := by
  refine ⟨fun hc hne => h.trans (if_pos ⟨hiff.2 hc, hne⟩), fun hcase => h.trans (if_neg fun ⟨hc, hne⟩ => ?_)⟩
  exact hcase.elim (· (hiff.1 hc)) hne

/-- Settles O21: the close leaves the plan, the copy moves the marked entries, and the opening test leaves both. -/
theorem loadAnnouncementsMovePlan : Obligations.LoadAnnouncementsMovePlan := by
  intro h s hh hs staled
  refine ⟨fun p r => ?_, fun next => ?_, ?_⟩
  · have hmoved := closeAndCopy_moved (· == .due) (acked s)
    have hplan := openOrDecline_plan p.toNat r.toNat (loadSettledCopied (acked s))
    have hpins := (loadSettledCopied_ready (acked s)).pins
    refine ⟨_, exec_loadSettled p r hh hs, ?_⟩
    rw [loadSettled_eq, hplan]
    refine ⟨hmoved.staged, hmoved.hold, rfl, rfl, fun q hq => ⟨fun hm => hmoved.copied q hq (by simpa using hm),
      fun hm => hmoved.spared q hq (by simpa using hm)⟩, fun hrun q hq hcase => ?_⟩
    rw [openOrDecline_record (by rw [hpins]; exact hcase.imp_right Ne.symm)]
    exact staled_of_eq (by simp) (hmoved.records hrun q hq)
  · refine ⟨_, exec_loadChanging next hh hs, ?_⟩
    rw [loadChanging_plan]
    exact ⟨rfl, rfl, rfl, rfl, rfl, fun q hq => markGet_map _ _ hq⟩
  · have hmoved := closeAndCopy_moved (fun m => m == .due || m == .waiting) (acked s)
    refine ⟨_, exec_loadOff hh hs, hmoved.staged, hmoved.hold, rfl, rfl,
      fun q hq => ⟨fun hm => hmoved.copied q hq (by simpa using hm),
        fun hdue hwaiting => hmoved.spared q hq (by simpa using ⟨hdue, hwaiting⟩)⟩, fun hrun q hq => ?_⟩
    exact staled_of_eq (by simp) (hmoved.records hrun q hq)

/-! ### LOAD_SETTLED that opens no run -/

/-- With no run open and no entry DUE, LOAD_SETTLED moves the flags and comes to the opening test (R50). -/
theorem loadSettledCopied_flags {s : State} (hx : s.run.run = none) (hdue : markedIndexes s.plan (· == .due) = []) :
    loadSettledCopied s = { s with plan := { s.plan with cutOff := false, loadOff := false } } := by
  unfold loadSettledCopied
  dsimp only
  rw [closeRun_none hx, hdue, copyEntries_nil]

/-- In IDLE, and for an index or a run number out of range, the opening test does nothing (R56). -/
theorem openOrDecline_nothing {p r : Nat} {s : State} (h : s.meter.batch = .idle ∨ 31 < p ∨ r = 0) :
    openOrDecline p r s = s := by
  by_cases hidle : s.meter.batch = .idle
  · simp only [openOrDecline, hidle]
  · have hrange : ¬ (decide (p ≤ 31) && r != 0) = true := by
      have := h.resolve_left hidle
      simp only [Bool.and_eq_true, decide_eq_true_eq, bne_iff_ne, ne_eq]
      omega
    unfold openOrDecline
    simp only [if_neg hrange]
    split <;> rfl

/-- In the states of a seal, and for an empty entry, the opening test declines (R56). -/
theorem openOrDecline_declines {p r : Nat} {s : State} (hp : p ≤ 31) (hr : r ≠ 0)
    (h : s.meter.batch = .claiming ∨ s.meter.batch = .pressing ∨ s.meter.batch = .sealed ∨ s.meter.batch = .sealFault ∨
      (s.meter.batch ≠ .idle ∧ slotGet s.plan.active p = none)) : openOrDecline p r s = declineRun p r s := by
  have hrange : (decide (p ≤ 31) && r != 0) = true := by simp [hp, hr]
  rcases h with hb | hb | hb | hb | ⟨hb, hempty⟩
  iterate 4 simp only [openOrDecline, hb, if_pos hrange]
  have hentry : activeEntry s p = none := hempty
  cases hbatch : s.meter.batch with
  | idle => exact absurd hbatch hb
  | _ => simp only [openOrDecline, hbatch, if_pos hrange, hentry]

/-- Settles O20: with nothing to close and to copy, LOAD_SETTLED is the opening test. -/
theorem loadSettledDeclines : Obligations.LoadSettledDeclines := by
  intro h p r s hh hs hx hdue hroom plan
  have hexec : exec (.loadSettled h [p, r]) s =
      .next (openOrDecline p.toNat r.toNat { acked s with plan := plan }) := by
    rw [exec_loadSettled p r hh hs, loadSettled_eq, loadSettledCopied_flags (s := acked s) hx hdue]
    rfl
  refine ⟨fun hcase => ?_, fun hp hr hcase => ?_⟩
  · rw [hexec, openOrDecline_nothing]
    exact hcase.imp_right (Or.imp_right fun h0 => by rw [h0]; rfl)
  · have hr' : r.toNat ≠ 0 := fun h0 => hr (BitVec.eq_of_toNat_eq h0)
    rw [hexec, openOrDecline_declines (s := { acked s with plan := plan }) hp hr' hcase, declineRun, queueProgress,
      enqueue_room _ _ rfl (by exact hroom)]
    rfl

end Sys2Proof.Machine
end

section
/-! SUPPORT. How console commands are addressed and answered, and what the plan commands do to the entries they name
(R41 to R48, R163). -/

namespace Sys2Proof.Machine

/-! ### Addressing and answers -/

/-- A console command is executed or refused by f and then answered by its addressing: alone with a REPLY, in a group
without one, and to another number not at all (R163). -/
structure ConsoleAnswer (i : Instr) (k : FrameKind) (h : Hdr) (f : State → State × ReplyCode) (s : State) : Prop where
  toThis : ToThis h s → exec i s = .next (enqueue (.reply k (f (acked s)).2) (f (acked s)).1)
  toGroup : ToGroup h → exec i s = .next
    (if (f (acked s)).2 = .doneClamped then raiseNotice .planClamped (f (acked s)).1 else (f (acked s)).1)
  toOther : ¬ ToThis h s → ¬ ToGroup h → exec i s = .next (acked s)

/-- A row that delivers its command by its addressing answers it. -/
theorem consoleAnswer {i : Instr} {k : FrameKind} {h : Hdr} {bs : List Byte} {f : State → State × ReplyCode} {s : State}
    (hh : Hears s) (hs : FromConsole h) (hlen : bs.length ≤ 16) (hrole : k.role = .console)
    (hexec : exec i s = .next (receiveKind k h bs s))
    (hdeliver : deliver k h bs (acked s) = command k h.dest.toNat f (acked s)) : ConsoleAnswer i k h f s := by
  have hrow : exec i s = .next (command k h.dest.toNat f (acked s)) := by
    rw [hexec, receiveKind_console k h bs s hh hs hrole hlen, hdeliver]
  have hown := own_bounds hh.2.1
  unfold command addressing at hrow
  refine ⟨fun hthis => ?_, fun hgroup => ?_, fun hthis hgroup => ?_⟩
  · rw [hrow, if_pos (by exact hthis)]
    rfl
  · rw [hrow, if_neg (by unfold ToGroup at hgroup; rw [acked_line]; dsimp only; omega), if_pos (by exact hgroup)]
    rfl
  · rw [hrow, if_neg (by exact hthis), if_neg (by exact hgroup)]

/-- The answer of a command leaves the plan and the records as the command has left them. -/
theorem ConsoleAnswer.leaves {i : Instr} {k : FrameKind} {h : Hdr} {f : State → State × ReplyCode} {s : State}
    (ha : ConsoleAnswer i k h f s) (hdest : ToThis h s ∨ ToGroup h) :
    ∃ t, exec i s = .next t ∧ t.plan = (f (acked s)).1.plan ∧ t.meter.records = (f (acked s)).1.meter.records := by
  rcases hdest with hthis | hgroup
  · exact ⟨_, ha.toThis hthis, enqueue_plan _ _, (enqueue_remembers _ _).records⟩
  · refine ⟨_, ha.toGroup hgroup, ?_⟩
    split
    · exact ⟨raiseNotice_plan _ _, (raiseNotice_remembers _ _).records⟩
    · exact ⟨rfl, rfl⟩

/-! ### Entries that become ready, and changed entries -/

/-- The mark of an entry that becomes ready (R45, R47, R48). -/
def readyMark (plan : PlanStore) : Mark :=
  if plan.loadOff then .clean else if plan.cutOff then .waiting else .due

/-- The mark of a changed staged entry (R45). -/
def changeMark (plan : PlanStore) : Mark := if plan.hold then .held else readyMark plan

theorem makeReady_moved (ps : List Nat) (s : State) :
    EntriesMoved ps (readyMark s.plan) s.plan.loadOff s (makeReady ps s) := by
  unfold makeReady readyMark
  cases hoff : s.plan.loadOff with
  | true => exact copyEntries_moved ps s
  | false => exact entriesMoved_marked ps (if s.plan.cutOff = true then .waiting else .due) s

theorem markChanged_moved (ps : List Nat) (s : State) :
    EntriesMoved ps (changeMark s.plan) (!s.plan.hold && s.plan.loadOff) s (markChanged ps s) := by
  unfold markChanged changeMark
  cases hhold : s.plan.hold with
  | true => exact entriesMoved_marked ps .held s
  | false => exact makeReady_moved ps s

/-! ### PLAN_HOLD and PLAN_RELEASE -/

/-- A release with the hold on makes the HELD entries ready under the flags as they stand (R47). -/
theorem planRelease_moved {s : State} (h : s.plan.hold = true) :
    EntriesMoved (markedIndexes s.plan (· == .held)) (readyMark s.plan) s.plan.loadOff
      { s with plan := { s.plan with hold := false } } (planReleaseCommand [] s).1 := by
  have hready := makeReady_moved (markedIndexes s.plan (· == .held)) { s with plan := { s.plan with hold := false } }
  simp only [planReleaseCommand, List.isEmpty_nil, if_true, h]
  split
  · next hnone =>
    rw [List.isEmpty_iff.1 hnone]
    exact ⟨rfl, rfl, rfl, rfl, fun _ _ => by simp, fun _ _ => by simp, fun _ _ => by simp⟩
  · exact hready

/-- Settles O23: both commands by their answers, and a release by the entries it makes ready. -/
theorem holdAndRelease : Obligations.HoldAndRelease := by
  intro h s hh hs
  have hhold : ConsoleAnswer (.planHold h []) .planHold h (planHoldCommand []) s :=
    consoleAnswer hh hs (by simp) rfl rfl rfl
  have hrelease : ConsoleAnswer (.planRelease h []) .planRelease h (planReleaseCommand []) s :=
    consoleAnswer hh hs (by simp) rfl rfl rfl
  refine ⟨hhold.toThis, hhold.toGroup, fun hclear => ?_, fun hdest hset => ?_⟩
  · have hnothing : planReleaseCommand [] (acked s) = (acked s, .done) := by
      simp only [planReleaseCommand, List.isEmpty_nil, if_true, acked_plan, hclear, Bool.false_eq_true, if_false]
    have hthis := hrelease.toThis
    have hgroup := hrelease.toGroup
    rw [hnothing] at hthis hgroup
    exact ⟨hthis, hgroup⟩
  · obtain ⟨t, hexec, hplan, -⟩ := hrelease.leaves hdest
    have hmoved := planRelease_moved (s := acked s) hset
    have hmem (q : Nat) (hq : q < 32) : q ∈ markedIndexes s.plan (· == .held) ↔ markGet s.plan.marks q = .held := by
      rw [mem_markedIndexes, and_iff_right hq, beq_iff_eq]
    refine ⟨t, hexec, ?_⟩
    rw [hplan]
    refine ⟨hmoved.hold, hmoved.staged, hmoved.cutOff, hmoved.loadOff, fun q hq => ⟨fun hm => ⟨?_, ?_⟩, fun hm => ?_⟩⟩
    · exact (hmoved.marks q hq).trans (if_pos ((hmem q hq).2 hm))
    · refine (hmoved.active q hq).trans (if_congr ?_ rfl rfl)
      exact and_iff_right ((hmem q hq).2 hm)
    · have hnot : q ∉ markedIndexes s.plan (· == .held) := fun hin => hm ((hmem q hq).1 hin)
      exact ⟨(hmoved.marks q hq).trans (if_neg hnot), (hmoved.active q hq).trans (if_neg fun hin => hnot hin.1)⟩

/-! ### Changed entries -/

/-- An index whose entry, mark and record are as in the state s. -/
def EntrySame (s : State) (plan : PlanStore) (records : Slots PointRecord) (q : Nat) : Prop :=
  slotGet plan.staged q = slotGet s.plan.staged q ∧ slotGet plan.active q = slotGet s.plan.active q ∧
  markGet plan.marks q = markGet s.plan.marks q ∧ slotGet records q = slotGet s.meter.records q

/-- An index whose staged entry is replaced: it is marked, and with the load off and no hold it is copied at once, which
marks its record stale where the active entry changes (R45, R52). -/
def EntryChanged (s : State) (new : Option PlanEntry) (plan : PlanStore) (records : Slots PointRecord) (q : Nat) : Prop :=
  slotGet plan.staged q = new ∧
  markGet plan.marks q = changeMark s.plan ∧
  slotGet plan.active q =
    (if s.plan.hold = false ∧ s.plan.loadOff = true then new else slotGet s.plan.active q) ∧
  slotGet records q =
    if (s.plan.hold = false ∧ s.plan.loadOff = true) ∧ slotGet s.plan.active q ≠ new then
      staleRecord (slotGet s.meter.records q) else slotGet s.meter.records q

/-- Hold flag and load flags as in the state s. -/
def SameFlags (s : State) (plan : PlanStore) : Prop :=
  plan.hold = s.plan.hold ∧ plan.cutOff = s.plan.cutOff ∧ plan.loadOff = s.plan.loadOff

/-- The staged entries of the indexes ps replaced, and nothing marked yet. -/
def restaged (ps : List Nat) (new : Option PlanEntry) (s : State) : State :=
  { s with plan := { s.plan with staged := ps.foldl (fun v p => slotSet v p new) s.plan.staged } }

/-- Replaced entries marked: those of the indexes ps are changed, the others and the flags stay (R45). -/
structure EntriesChanged (ps : List Nat) (new : Option PlanEntry) (s t : State) : Prop where
  flags : SameFlags s t.plan
  changed : ∀ q < 32, q ∈ ps → EntryChanged s new t.plan t.meter.records q
  others : ∀ q < 32, q ∉ ps → EntrySame s t.plan t.meter.records q

theorem markChanged_restaged (ps : List Nat) (new : Option PlanEntry) (s : State) :
    EntriesChanged ps new s (markChanged ps (restaged ps new s)) := by
  have hmoved := markChanged_moved ps (restaged ps new s)
  have hstaged (q : Nat) (hq : q < 32) : slotGet (restaged ps new s).plan.staged q =
      if q ∈ ps then new else slotGet s.plan.staged q := slotSet_foldl new hq ps s.plan.staged
  refine ⟨⟨hmoved.hold, hmoved.cutOff, hmoved.loadOff⟩, fun q hq hin => ?_, fun q hq hnot => ?_⟩
  · have hnew : slotGet (restaged ps new s).plan.staged q = new := (hstaged q hq).trans (if_pos hin)
    have hmarks := hmoved.marks q hq
    have hactive := hmoved.active q hq
    have hrecords := hmoved.records q hq
    rw [if_pos hin] at hmarks
    simp only [hnew, hin, true_and, Bool.and_eq_true, Bool.not_eq_true'] at hactive hrecords
    refine ⟨(congrArg (slotGet · q) hmoved.staged).trans hnew, hmarks, hactive, hrecords.trans (if_congr ?_ rfl rfl)⟩
    exact and_congr_right fun _ => ne_comm
  · refine ⟨(congrArg (slotGet · q) hmoved.staged).trans ((hstaged q hq).trans (if_neg hnot)), ?_, ?_, ?_⟩
    · exact (hmoved.active q hq).trans (if_neg fun hin => hnot hin.1)
    · exact (hmoved.marks q hq).trans (if_neg hnot)
    · exact (hmoved.records q hq).trans (if_neg fun hin => hnot hin.1.1)

/-! ### PLAN_POINT and PLAN_LIMITS -/

/-- What a command that stages one entry does: nothing where the entry stays, else it changes that entry alone. -/
def EntryMarked (p : Nat) (new : Option PlanEntry) (s : State) (plan : PlanStore) (records : Slots PointRecord) : Prop :=
  SameFlags s plan ∧ (∀ q < 32, q ≠ p → EntrySame s plan records q) ∧
  (slotGet s.plan.staged p = new → plan = s.plan ∧ EntrySame s plan records p) ∧
  (slotGet s.plan.staged p ≠ new → EntryChanged s new plan records p)

theorem stageEntry_marked {p : Nat} (hp : p < 32) (e : PlanEntry) (s : State) :
    EntryMarked p (some e) s (stageEntry p e s).plan (stageEntry p e s).meter.records := by
  by_cases hsame : slotGet s.plan.staged p = some e
  · rw [stageEntry, if_pos hsame]
    exact ⟨⟨rfl, rfl, rfl⟩, fun q _ _ => ⟨rfl, rfl, rfl, rfl⟩, fun _ => ⟨rfl, rfl, rfl, rfl, rfl⟩,
      fun hne => absurd hsame hne⟩
  · have hchanged : EntriesChanged [p] (some e) s (stageEntry p e s) := by
      rw [stageEntry, if_neg hsame]
      exact markChanged_restaged [p] (some e) s
    exact ⟨hchanged.flags, fun q hq hne => hchanged.others q hq (by simpa using hne), fun h => absurd h hsame,
      fun _ => hchanged.changed p hp (by simp)⟩

theorem readPointPart_length {bs : List Byte} {part : PointPart} (h : readPointPart bs = some part) :
    bs.length ≤ 11 := by
  unfold readPointPart at h
  split at h
  · simp
  · simp
  · simp
  · simp
  · cases h

theorem readLimits_length {bs : List Byte} {l : Limits} (h : readLimits bs = some l) : bs.length = 10 := by
  unfold readLimits at h
  split at h
  · assumption
  · cases h

theorem planPointCommand_stages {i : Byte} {bs : List Byte} {part : PointPart} {s : State} (hi : i.toNat ≤ 31)
    (hpart : readPointPart bs = some part) :
    (planPointCommand (i :: bs) s).1 = stageEntry i.toNat ⟨clampPoint part, none⟩ s := by
  simp only [planPointCommand, if_neg hi.not_gt, hpart]

theorem planLimitsCommand_stages {i : Byte} {bs : List Byte} {l : Limits} {e : PlanEntry} {s : State}
    (hi : i.toNat ≤ 31) (hlimits : readLimits bs = some l) (he : slotGet s.plan.staged i.toNat = some e)
    (horder : (clampLimits l).lower ≤ (clampLimits l).upper) :
    (planLimitsCommand (i :: bs) s).1 = stageEntry i.toNat ⟨e.point, some (clampLimits l)⟩ s := by
  simp only [planLimitsCommand, if_neg hi.not_gt, hlimits, he, if_neg horder.not_gt]

/-! ### PLAN_CLEAR -/

/-- The indexes that PLAN_CLEAR empties: the defined entries of its range (R44). -/
def clearedIndexes (first last : Nat) (plan : PlanStore) : List Nat :=
  (List.range 32).filter fun p => decide (first ≤ p ∧ p ≤ last) && (slotGet plan.staged p).isSome

theorem mem_clearedIndexes {first last p : Nat} {plan : PlanStore} : p ∈ clearedIndexes first last plan ↔
    p < 32 ∧ (first ≤ p ∧ p ≤ last) ∧ slotGet plan.staged p ≠ none := by
  simp [clearedIndexes, Option.isSome_iff_ne_none]

theorem planClearCommand_range {first last : Byte} (hrange : first.toNat ≤ last.toNat) (hlast : last.toNat ≤ 31)
    (s : State) : (planClearCommand [first, last] s).1 =
      let ps := clearedIndexes first.toNat last.toNat s.plan
      if ps.isEmpty then s else markChanged ps (restaged ps none s) := by
  have hindexes : ¬ ([first, last].take 2).any (fun i => decide (31 < i.toNat)) = true := by
    simp only [List.take_succ_cons, List.take_zero, List.any_cons, List.any_nil, Bool.or_false, Bool.or_eq_true,
      decide_eq_true_eq]
    omega
  simp only [planClearCommand, if_neg hindexes, if_neg hrange.not_gt]
  rfl

/-- PLAN_CLEAR changes every defined entry of its range, and with none defined it changes nothing (R44). -/
theorem planClearCommand_changes {first last : Byte} (hrange : first.toNat ≤ last.toNat) (hlast : last.toNat ≤ 31)
    (s : State) :
    EntriesChanged (clearedIndexes first.toNat last.toNat s.plan) none s (planClearCommand [first, last] s).1 ∧
    (clearedIndexes first.toNat last.toNat s.plan = [] → (planClearCommand [first, last] s).1 = s) := by
  rw [planClearCommand_range hrange hlast]
  dsimp only
  split
  · next hnone =>
    rw [List.isEmpty_iff.1 hnone]
    exact ⟨⟨⟨rfl, rfl, rfl⟩, fun _ _ hin => absurd hin List.not_mem_nil, fun _ _ _ => ⟨rfl, rfl, rfl, rfl⟩⟩,
      fun _ => rfl⟩
  · next hsome => exact ⟨markChanged_restaged _ none s, fun hnone => absurd (List.isEmpty_iff.2 hnone) hsome⟩

/-! ### Ranges -/

/-- The ranges of Tables 3.1 and 3.2; a least value of 0 needs no check. -/
theorem clampNat_zero (hi n : Nat) : clampNat 0 hi n = min hi n := Nat.zero_max _

/-- Settles O22: each plan command stages its entries, and its answer leaves plan and records. -/
theorem planCommandsMark : Obligations.PlanCommandsMark := by
  refine ⟨fun n st k m l => ?_, fun l => ?_, fun h i s hh hs hdest hi => ?_⟩
  · simp only [clampPoint, clampNat_zero]
    exact ⟨rfl, rfl, rfl, rfl⟩
  · simp only [clampLimits, clampNat_zero]
    rfl
  intro atOnce flags same changed marked
  have hi32 : i.toNat < 32 := by omega
  have hmarked (t : State) (new : Option PlanEntry) (ht : EntryMarked i.toNat new (acked s) t.plan t.meter.records) :
      marked t new := ht
  refine ⟨fun part bs hpart => ?_, fun l bs e hlimits he horder => ?_, fun last hrange hlast => ?_⟩
  · have hlen := readPointPart_length hpart
    have hanswer : ConsoleAnswer (.planPoint h (i :: bs)) .planPoint h (planPointCommand (i :: bs)) s :=
      consoleAnswer hh hs (by simp only [List.length_cons]; omega) rfl rfl rfl
    obtain ⟨t, hexec, hplan, hrecords⟩ := hanswer.leaves hdest
    rw [planPointCommand_stages hi hpart] at hplan hrecords
    refine ⟨t, hexec, hmarked t _ ?_⟩
    rw [hplan, hrecords]
    exact stageEntry_marked hi32 _ _
  · have hlen := readLimits_length hlimits
    have hanswer : ConsoleAnswer (.planLimits h (i :: bs)) .planLimits h (planLimitsCommand (i :: bs)) s :=
      consoleAnswer hh hs (by simp only [List.length_cons]; omega) rfl rfl rfl
    obtain ⟨t, hexec, hplan, hrecords⟩ := hanswer.leaves hdest
    rw [planLimitsCommand_stages (s := acked s) hi hlimits he horder] at hplan hrecords
    refine ⟨t, hexec, hmarked t _ ?_⟩
    rw [hplan, hrecords]
    exact stageEntry_marked hi32 _ _
  · have hanswer : ConsoleAnswer (.planClear h [i, last]) .planClear h (planClearCommand [i, last]) s :=
      consoleAnswer hh hs (by simp) rfl rfl rfl
    obtain ⟨t, hexec, hplan, hrecords⟩ := hanswer.leaves hdest
    obtain ⟨⟨hflags, hchanged, hothers⟩, hnothing⟩ := planClearCommand_changes hrange hlast (acked s)
    rw [← hplan] at hflags hchanged hothers
    rw [← hrecords] at hchanged hothers
    refine ⟨t, hexec, hflags, fun q hfirst hq hdefined => ?_, fun q hq hout => ?_, fun hempty => ?_⟩
    · exact hchanged q (by omega) (mem_clearedIndexes.2 ⟨by omega, ⟨hfirst, hq⟩, hdefined⟩)
    · refine hothers q hq fun hin => ?_
      obtain ⟨-, ⟨hfirst, hle⟩, hdefined⟩ := mem_clearedIndexes.1 hin
      rcases hout with hout | hout | hout
      · omega
      · omega
      · exact hdefined hout
    · rw [hplan, hnothing]
      · rfl
      · refine List.eq_nil_iff_forall_not_mem.2 fun q hin => ?_
        obtain ⟨-, ⟨hfirst, hle⟩, hdefined⟩ := mem_clearedIndexes.1 hin
        exact hdefined (hempty q hfirst hle)

end Sys2Proof.Machine
end

section
/-! SUPPORT. The reply codes of the console commands: when a command is refused, and that a refused command changes nothing
(R41, R83, R86, R90, R98, R145, R163 to R171). -/

namespace Sys2Proof.Machine

/-! ### Refused commands -/

/-- A command is taken, with DONE or DONE_CLAMPED, or it keeps the state (R163). -/
def TakenOrKept (s : State) (x : State × ReplyCode) : Prop := x.2 = .done ∨ x.2 = .doneClamped ∨ x.1 = s

namespace TakenOrKept

theorem kept (s : State) (c : ReplyCode) : TakenOrKept s (s, c) := .inr (.inr rfl)

theorem done (s t : State) : TakenOrKept s (t, .done) := .inl rfl

theorem clamped (s t : State) (b : Bool) : TakenOrKept s (t, doneCode b) := by
  cases b
  · exact .inl rfl
  · exact .inr (.inl rfl)

theorem refused {s : State} {x : State × ReplyCode} (h : TakenOrKept s x) (hdone : x.2 ≠ .done)
    (hclamped : x.2 ≠ .doneClamped) : x.1 = s := (h.resolve_left hdone).resolve_left hclamped

end TakenOrKept

section Refused

variable (bs : List Byte) (s : State)

theorem setupCommand_takenOrKept : TakenOrKept s (setupCommand bs s) := by
  unfold setupCommand
  split
  · exact .kept s _
  · split
    · exact .clamped s _ _
    · exact .kept s _

theorem setMeterCommand_takenOrKept : TakenOrKept s (setMeterCommand bs s) := by
  unfold setMeterCommand
  split
  · exact .kept s _
  · split
    · exact .kept s _
    · split
      · exact .clamped s _ _
      · exact .kept s _

theorem planPointCommand_takenOrKept : TakenOrKept s (planPointCommand bs s) := by
  unfold planPointCommand
  split
  · exact .kept s _
  · split
    · exact .kept s _
    · split
      · exact .kept s _
      · exact .clamped s _ _

theorem planLimitsCommand_takenOrKept : TakenOrKept s (planLimitsCommand bs s) := by
  unfold planLimitsCommand
  split
  · exact .kept s _
  · split
    · exact .kept s _
    · split
      · exact .kept s _
      · split
        · exact .kept s _
        · split
          · exact .kept s _
          · exact .clamped s _ _

theorem planClearCommand_takenOrKept : TakenOrKept s (planClearCommand bs s) := by
  unfold planClearCommand
  split
  · exact .kept s _
  · split
    · split
      · exact .kept s _
      · exact .done s _
    · exact .kept s _

theorem planHoldCommand_takenOrKept : TakenOrKept s (planHoldCommand bs s) := by
  unfold planHoldCommand
  split
  · exact .done s _
  · exact .kept s _

theorem planReleaseCommand_takenOrKept : TakenOrKept s (planReleaseCommand bs s) := by
  unfold planReleaseCommand
  split
  · split
    · exact .done s _
    · exact .done s _
  · exact .kept s _

theorem readingCommand_takenOrKept : TakenOrKept s (readingCommand bs s) := by
  unfold readingCommand
  split
  · exact .kept s _
  · split
    · exact .kept s _
    · split
      · exact .kept s _
      · split
        · exact .kept s _
        · split
          · unfold takeAfter
            split
            · exact .kept s _
            · split
              · exact .kept s _
              · exact .done s _
          · unfold takeBefore
            split
            · exact .kept s _
            · exact .done s _

theorem endBatchCommand_takenOrKept : TakenOrKept s (endBatchCommand bs s) := by
  unfold endBatchCommand
  split
  · exact .kept s _
  · split
    · exact .kept s _
    · exact .done s _

theorem retrySealCommand_takenOrKept : TakenOrKept s (retrySealCommand bs s) := by
  unfold retrySealCommand
  split
  · exact .kept s _
  · split
    · exact .done s _
    · exact .kept s _

theorem clearNoticesCommand_takenOrKept : TakenOrKept s (clearNoticesCommand bs s) := by
  unfold clearNoticesCommand
  split
  · exact .done s _
  · exact .kept s _

theorem noticeMaskCommand_takenOrKept : TakenOrKept s (noticeMaskCommand bs s) := by
  unfold noticeMaskCommand
  split
  · exact .done s _
  · exact .kept s _

end Refused

/-! ### Fields and ranges -/

/-- The number in a byte of a payload, 0 past its end. -/
def byteAt (bs : List Byte) (k : Nat) : Nat := (bs.getD k 0).toNat

/-- The number in `width` bytes of a payload, most significant first (R148). -/
def numAt (bs : List Byte) (start width : Nat) : Nat := beNat ((bs.drop start).take width)

theorem beNat_append_single (bs : List Byte) (b : Byte) : beNat (bs ++ [b]) = beNat bs * 256 + b.toNat := by
  simp [beNat]

theorem beNat_lt (bs : List Byte) : beNat bs < 256 ^ bs.length := by
  induction bs using List.reverseRecOn with
  | nil => decide
  | append_singleton bs b ih =>
    have hb : b.toNat < 256 := b.isLt
    rw [beNat_append_single, List.length_append, List.length_singleton, pow_succ]
    omega

/-- A field of w bytes is below 256 to the w-th. -/
theorem numAt_lt (bs : List Byte) (start width : Nat) : numAt bs start width < 256 ^ width :=
  lt_of_lt_of_le (beNat_lt _) (Nat.pow_le_pow_right (by decide) (List.length_take_le _ _))

theorem clampNat_eq_iff {lo hi n : Nat} (h : lo ≤ hi) : clampNat lo hi n = n ↔ lo ≤ n ∧ n ≤ hi := by
  unfold clampNat
  omega

theorem boolOfCode_none_iff (n : Nat) : boolOfCode n = none ↔ 1 < n := by
  match n with
  | 0 => simp [boolOfCode]
  | 1 => simp [boolOfCode]
  | n + 2 => simp [boolOfCode]

/-- A code of 0 or 1 reads as on or off. -/
theorem boolOfCode_some {n : Nat} (h : ¬ 1 < n) : ∃ b, boolOfCode n = some b :=
  Option.ne_none_iff_exists'.1 fun hnone => h ((boolOfCode_none_iff n).1 hnone)

/-- DONE where clamping leaves the value as it is, else DONE_CLAMPED (R41). -/
theorem doneCode_bne {α : Type} [DecidableEq α] (a b : α) {c : Prop} [Decidable c] (h : a = b ↔ c) :
    doneCode (a != b) = if c then .done else .doneClamped := by
  by_cases hc : c
  · rw [if_pos hc, h.2 hc]
    simp [doneCode]
  · have hne : a ≠ b := fun hab => hc (h.1 hab)
    rw [if_neg hc]
    simp [doneCode, hne]

/-! ### SETUP -/

/-- The fields of a SETUP payload of full length, with streaming on or off (R165). -/
def setupFields (bs : List Byte) (streaming : Bool) : Setup where
  cRef := numAt bs 0 5
  agingPeriod := byteAt bs 5
  pressBudget := byteAt bs 6
  strokeTimeout := byteAt bs 7
  scannerGrace := byteAt bs 8
  mutWidth := byteAt bs 9
  mutInterval := numAt bs 10 2
  tolPpm := numAt bs 12 2
  streaming := streaming

theorem readSetup_none {bs : List Byte} (h : bs.length ≠ 15 ∨ 1 < byteAt bs 14) : readSetup bs = none := by
  unfold readSetup
  split
  · next hlen =>
    have hcode : boolOfCode (bs.getD 14 0).toNat = none :=
      (boolOfCode_none_iff _).2 (h.resolve_left fun hne => hne hlen)
    rw [hcode]
  · rfl

theorem readSetup_some {bs : List Byte} (h : ¬ (bs.length ≠ 15 ∨ 1 < byteAt bs 14)) :
    ∃ streaming, readSetup bs = some (setupFields bs streaming) := by
  rw [not_or, not_not] at h
  obtain ⟨streaming, hcode⟩ := boolOfCode_some h.2
  refine ⟨streaming, ?_⟩
  rw [readSetup, if_pos h.1, show boolOfCode (bs.getD 14 0).toNat = some streaming from hcode]
  rfl

/-- The clamping of Table 11.3 leaves what is in its ranges; a byte and a field of two bytes have no value above theirs. -/
theorem clampSetup_setupFields (bs : List Byte) (streaming : Bool) :
    clampSetup (setupFields bs streaming) = setupFields bs streaming ↔
      1 ≤ numAt bs 0 5 ∧ numAt bs 0 5 ≤ 10 ^ 12 ∧ 1 ≤ byteAt bs 5 ∧ byteAt bs 5 ≤ 60 ∧ 1 ≤ byteAt bs 6 ∧
      byteAt bs 6 ≤ 8 ∧ 1 ≤ byteAt bs 7 ∧ byteAt bs 7 ≤ 10 ∧ byteAt bs 8 ≤ 30 ∧ 1 ≤ numAt bs 12 2 ∧
      numAt bs 12 2 ≤ 10000 := by
  have hwidth : byteAt bs 9 ≤ 255 := Nat.lt_succ_iff.1 (bs.getD 9 0).isLt
  have hinterval : numAt bs 10 2 ≤ 65535 := Nat.lt_succ_iff.1 (numAt_lt bs 10 2)
  simp only [clampSetup, setupFields, Setup.mk.injEq, clampNat_eq_iff (lo := 1) (hi := 10 ^ 12) (by decide),
    clampNat_eq_iff (lo := 1) (hi := 60) (by decide), clampNat_eq_iff (lo := 1) (hi := 8) (by decide),
    clampNat_eq_iff (lo := 1) (hi := 10) (by decide), clampNat_eq_iff (lo := 0) (hi := 30) (by decide),
    clampNat_eq_iff (lo := 0) (hi := 255) (by decide), clampNat_eq_iff (lo := 0) (hi := 65535) (by decide),
    clampNat_eq_iff (lo := 1) (hi := 10000) (by decide), and_true]
  omega

theorem setupCommand_code (bs : List Byte) (s : State) : (setupCommand bs s).2 =
    if bs.length ≠ 15 ∨ 1 < byteAt bs 14 then .badValue
    else if s.meter.batch ≠ .idle then .wrongState
    else if 1 ≤ numAt bs 0 5 ∧ numAt bs 0 5 ≤ 10 ^ 12 ∧ 1 ≤ byteAt bs 5 ∧ byteAt bs 5 ≤ 60 ∧ 1 ≤ byteAt bs 6 ∧
      byteAt bs 6 ≤ 8 ∧ 1 ≤ byteAt bs 7 ∧ byteAt bs 7 ≤ 10 ∧ byteAt bs 8 ≤ 30 ∧ 1 ≤ numAt bs 12 2 ∧
      numAt bs 12 2 ≤ 10000 then .done else .doneClamped := by
  by_cases hbad : bs.length ≠ 15 ∨ 1 < byteAt bs 14
  · rw [if_pos hbad, setupCommand, readSetup_none hbad]
  · obtain ⟨streaming, hread⟩ := readSetup_some hbad
    rw [if_neg hbad, setupCommand, hread]
    by_cases hidle : s.meter.batch = .idle
    · simp only [if_pos hidle, if_neg (not_not.2 hidle)]
      exact doneCode_bne _ _ (clampSetup_setupFields bs streaming)
    · simp only [if_neg hidle, if_pos (show s.meter.batch ≠ .idle from hidle)]

/-! ### SET_METER -/

theorem validIdentity_false_iff {t : Text} (h : t.length ≤ 12) :
    validIdentity t = false ↔ t = [] ∨ ∃ x ∈ t, x.toNat < 32 ∨ 126 < x.toNat := by
  rw [← Bool.not_eq_true, validIdentity]
  simp only [Bool.and_eq_true, decide_eq_true_eq, h, and_true, List.all_eq_true, printable, not_and_or, not_forall,
    not_le, exists_prop, Nat.lt_one_iff, List.length_eq_zero_iff]

theorem setMeterCommand_code {bs : List Byte} (hlen : bs.length ≤ 16) (s : State) : (setMeterCommand bs s).2 =
    if bs.length < 5 ∨ ∃ x ∈ bs.drop 4, x.toNat < 32 ∨ 126 < x.toNat then .badValue
    else if s.meter.batch ≠ .idle ∧ s.meter.batch ≠ .loaded then .wrongState
    else if 1 ≤ numAt bs 0 4 ∧ numAt bs 0 4 ≤ 10 ^ 9 then .done else .doneClamped := by
  by_cases hshort : bs.length < 4
  · rw [if_pos (.inl (by omega)), setMeterCommand, readSetMeter, if_neg (by omega)]
  have hread : readSetMeter bs = some (numAt bs 0 4, bs.drop 4) := if_pos (by omega)
  have hidentity := validIdentity_false_iff (t := bs.drop 4) (by rw [List.length_drop]; omega)
  have hempty : bs.drop 4 = [] ↔ bs.length < 5 := by rw [List.drop_eq_nil_iff]; omega
  rw [hempty] at hidentity
  rw [setMeterCommand, hread]
  by_cases hbad : bs.length < 5 ∨ ∃ x ∈ bs.drop 4, x.toNat < 32 ∨ 126 < x.toNat
  · simp only [if_pos hbad, hidentity.2 hbad, Bool.not_false, if_true]
  · have hvalid : validIdentity (bs.drop 4) = true := Bool.not_eq_false _ ▸ mt hidentity.1 hbad
    simp only [if_neg hbad, hvalid, Bool.not_true, Bool.false_eq_true, if_false, Bool.or_eq_true, decide_eq_true_eq]
    by_cases hstate : s.meter.batch = .idle ∨ s.meter.batch = .loaded
    · have htaken : ¬ (s.meter.batch ≠ .idle ∧ s.meter.batch ≠ .loaded) := fun hnot => hstate.elim hnot.1 hnot.2
      rw [if_pos hstate, if_neg htaken]
      exact doneCode_bne _ _ (clampNat_eq_iff (lo := 1) (hi := 10 ^ 9) (by decide))
    · rw [if_neg hstate, if_pos (not_or.1 hstate)]

/-! ### PLAN_POINT -/

/-- A payload that has none of the four layouts of Table 10.7 is no point part. -/
theorem readPointPart_none {fields : List Byte} (h₀ : ¬ (byteAt fields 0 = 0 ∧ fields.length = 11))
    (h₁ : ¬ (byteAt fields 0 = 1 ∧ fields.length = 4)) (h₂ : ¬ (byteAt fields 0 = 2 ∧ fields.length = 4))
    (h₃ : ¬ (byteAt fields 0 = 3 ∧ fields.length = 3)) : readPointPart fields = none := by
  unfold readPointPart
  split
  · exact absurd ⟨rfl, rfl⟩ h₀
  · exact absurd ⟨rfl, rfl⟩ h₁
  · exact absurd ⟨rfl, rfl⟩ h₂
  · exact absurd ⟨rfl, rfl⟩ h₃
  · rfl

theorem byte_le (b : Byte) : b.toNat ≤ 255 := Nat.lt_succ_iff.1 b.isLt

theorem beNat_two_le (a b : Byte) : beNat [a, b] ≤ 65535 :=
  Nat.lt_succ_iff.1 (numAt_lt [a, b] 0 2)

/-- The clamping of Table 3.1 leaves what is in its ranges, kind by kind. -/
theorem clampPoint_accuracy {n st k m l : Nat} (hn : n ≤ 65535) (hl : l ≤ 65535) :
    clampPoint (.accuracy n st k m l) = .accuracy n st k m l ↔
      1 ≤ n ∧ 2 ≤ st ∧ st ≤ 16 ∧ k ≤ 3 ∧ m ≤ 1000000 ∧ 1 ≤ l := by
  simp only [clampPoint, PointPart.accuracy.injEq, clampNat_eq_iff (lo := 1) (hi := 65535) (by decide),
    clampNat_eq_iff (lo := 2) (hi := 16) (by decide), clampNat_eq_iff (lo := 0) (hi := 3) (by decide),
    clampNat_eq_iff (lo := 0) (hi := 1000000) (by decide)]
  omega

theorem clampPoint_creep {w a : Nat} (hw : w ≤ 65535) (ha : a ≤ 255) :
    clampPoint (.creep w a) = .creep w a ↔ 1 ≤ w := by
  simp only [clampPoint, PointPart.creep.injEq, clampNat_eq_iff (lo := 1) (hi := 65535) (by decide),
    clampNat_eq_iff (lo := 0) (hi := 255) (by decide)]
  omega

theorem clampPoint_start {w a : Nat} (hw : w ≤ 65535) (ha : a ≤ 255) :
    clampPoint (.start w a) = .start w a ↔ 1 ≤ w ∧ 1 ≤ a := by
  simp only [clampPoint, PointPart.start.injEq, clampNat_eq_iff (lo := 1) (hi := 65535) (by decide),
    clampNat_eq_iff (lo := 1) (hi := 255) (by decide)]
  omega

theorem clampPoint_register {l : Nat} (hl : l ≤ 65535) : clampPoint (.register l) = .register l ↔ 1 ≤ l := by
  simp only [clampPoint, PointPart.register.injEq, clampNat_eq_iff (lo := 1) (hi := 65535) (by decide)]
  omega

/-- The code of a point part, or of a payload that is none (R41, R42). -/
def pointPartCode : Option PointPart → ReplyCode
  | none => .badValue
  | some part => doneCode (clampPoint part != part)

theorem planPointCommand_cons {i : Byte} (hi : ¬ 31 < i.toNat) (fields : List Byte) (s : State) :
    (planPointCommand (i :: fields) s).2 = pointPartCode (readPointPart fields) := by
  simp only [planPointCommand, if_neg hi]
  cases readPointPart fields <;> rfl

theorem pointPartCode_read (i : Byte) (fields : List Byte) : pointPartCode (readPointPart fields) =
    let bs := i :: fields
    if byteAt bs 1 = 0 ∧ bs.length = 12 then
      (if 1 ≤ numAt bs 2 2 ∧ 2 ≤ byteAt bs 4 ∧ byteAt bs 4 ≤ 16 ∧ byteAt bs 5 ≤ 3 ∧ numAt bs 6 4 ≤ 1000000 ∧
        1 ≤ numAt bs 10 2 then .done else .doneClamped)
    else if byteAt bs 1 = 1 ∧ bs.length = 5 then (if 1 ≤ numAt bs 2 2 then .done else .doneClamped)
    else if byteAt bs 1 = 2 ∧ bs.length = 5 then
      (if 1 ≤ numAt bs 2 2 ∧ 1 ≤ byteAt bs 4 then .done else .doneClamped)
    else if byteAt bs 1 = 3 ∧ bs.length = 4 then (if 1 ≤ numAt bs 2 2 then .done else .doneClamped)
    else .badValue := by
  have hkind (k n : Nat) : (byteAt (i :: fields) 1 = k ∧ (i :: fields).length = n + 1) ↔
      (byteAt fields 0 = k ∧ fields.length = n) := by
    rw [List.length_cons, Nat.add_right_cancel_iff]
    rfl
  dsimp only
  by_cases h₀ : byteAt fields 0 = 0 ∧ fields.length = 11
  · rw [if_pos ((hkind 0 11).2 h₀)]
    match fields, h₀ with
    | [b, n1, n0, st, k, m3, m2, m1, m0, l1, l0], ⟨hb, _⟩ =>
      obtain rfl : b = 0 := BitVec.eq_of_toNat_eq hb
      exact doneCode_bne _ _ (clampPoint_accuracy (beNat_two_le n1 n0) (beNat_two_le l1 l0))
  rw [if_neg (mt (hkind 0 11).1 h₀)]
  by_cases h₁ : byteAt fields 0 = 1 ∧ fields.length = 4
  · rw [if_pos ((hkind 1 4).2 h₁)]
    match fields, h₁ with
    | [b, w1, w0, a], ⟨hb, _⟩ =>
      obtain rfl : b = 1 := BitVec.eq_of_toNat_eq hb
      exact doneCode_bne _ _ (clampPoint_creep (beNat_two_le w1 w0) (byte_le a))
  rw [if_neg (mt (hkind 1 4).1 h₁)]
  by_cases h₂ : byteAt fields 0 = 2 ∧ fields.length = 4
  · rw [if_pos ((hkind 2 4).2 h₂)]
    match fields, h₂ with
    | [b, w1, w0, a], ⟨hb, _⟩ =>
      obtain rfl : b = 2 := BitVec.eq_of_toNat_eq hb
      exact doneCode_bne _ _ (clampPoint_start (beNat_two_le w1 w0) (byte_le a))
  rw [if_neg (mt (hkind 2 4).1 h₂)]
  by_cases h₃ : byteAt fields 0 = 3 ∧ fields.length = 3
  · rw [if_pos ((hkind 3 3).2 h₃)]
    match fields, h₃ with
    | [b, l1, l0], ⟨hb, _⟩ =>
      obtain rfl : b = 3 := BitVec.eq_of_toNat_eq hb
      exact doneCode_bne _ _ (clampPoint_register (beNat_two_le l1 l0))
  rw [if_neg (mt (hkind 3 3).1 h₃), readPointPart_none h₀ h₁ h₂ h₃]
  rfl

theorem planPointCommand_code (bs : List Byte) (s : State) : (planPointCommand bs s).2 =
    if bs = [] then .badValue else if 31 < byteAt bs 0 then .noSuchPoint
    else if byteAt bs 1 = 0 ∧ bs.length = 12 then
      (if 1 ≤ numAt bs 2 2 ∧ 2 ≤ byteAt bs 4 ∧ byteAt bs 4 ≤ 16 ∧ byteAt bs 5 ≤ 3 ∧ numAt bs 6 4 ≤ 1000000 ∧
        1 ≤ numAt bs 10 2 then .done else .doneClamped)
    else if byteAt bs 1 = 1 ∧ bs.length = 5 then (if 1 ≤ numAt bs 2 2 then .done else .doneClamped)
    else if byteAt bs 1 = 2 ∧ bs.length = 5 then
      (if 1 ≤ numAt bs 2 2 ∧ 1 ≤ byteAt bs 4 then .done else .doneClamped)
    else if byteAt bs 1 = 3 ∧ bs.length = 4 then (if 1 ≤ numAt bs 2 2 then .done else .doneClamped)
    else .badValue := by
  cases bs with
  | nil => rfl
  | cons i fields =>
    rw [if_neg (List.cons_ne_nil i fields)]
    by_cases hi : 31 < i.toNat
    · rw [if_pos (by exact hi), planPointCommand, if_pos hi]
    · rw [if_neg (by exact hi), planPointCommand_cons hi]
      exact pointPartCode_read i fields

/-! ### PLAN_LIMITS -/

/-- A signed field of three bytes. -/
def signedAt (bs : List Byte) (start : Nat) : Int := signed24 (numAt bs start 3)

/-- An error value brought into its range (Table 3.2). -/
def nearError (x : Int) : Int := max (-999999) (min 999999 x)

/-- The limits of a PLAN_LIMITS payload of full length, relevant for the seal or not (R43). -/
def limitsFields (bs : List Byte) (sealRelevant : Bool) : Limits where
  lower := signedAt bs 1
  upper := signedAt bs 4
  spread := numAt bs 7 3
  sealRelevant := sealRelevant

theorem readLimits_none {i : Byte} {fields : List Byte} (h : (i :: fields).length ≠ 11 ∨ 1 < byteAt (i :: fields) 10) :
    readLimits fields = none := by
  unfold readLimits
  split
  · next hlen =>
    have hcode : boolOfCode (fields.getD 9 0).toNat = none :=
      (boolOfCode_none_iff _).2 (h.resolve_left fun hne => hne (by rw [List.length_cons, hlen]))
    rw [hcode]
  · rfl

theorem readLimits_some {i : Byte} {fields : List Byte}
    (h : ¬ ((i :: fields).length ≠ 11 ∨ 1 < byteAt (i :: fields) 10)) :
    ∃ sealRelevant, readLimits fields = some (limitsFields (i :: fields) sealRelevant) := by
  rw [not_or, not_not, List.length_cons] at h
  obtain ⟨sealRelevant, hcode⟩ := boolOfCode_some h.2
  refine ⟨sealRelevant, ?_⟩
  rw [readLimits, if_pos (by omega), show boolOfCode (fields.getD 9 0).toNat = some sealRelevant from hcode]
  rfl

theorem clampLimits_limitsFields (bs : List Byte) (sealRelevant : Bool) :
    clampLimits (limitsFields bs sealRelevant) = limitsFields bs sealRelevant ↔
      nearError (signedAt bs 1) = signedAt bs 1 ∧ nearError (signedAt bs 4) = signedAt bs 4 ∧
      numAt bs 7 3 ≤ 99999 := by
  simp only [clampLimits, limitsFields, Limits.mk.injEq, clampNat_eq_iff (lo := 0) (hi := 99999) (by decide), and_true,
    Nat.zero_le, true_and]
  rfl

theorem planLimitsCommand_code (bs : List Byte) (s : State) : (planLimitsCommand bs s).2 =
    if bs = [] then .badValue else if 31 < byteAt bs 0 then .noSuchPoint
    else if bs.length ≠ 11 ∨ 1 < byteAt bs 10 then .badValue
    else if slotGet s.plan.staged (byteAt bs 0) = none then .noSuchPoint
    else if nearError (signedAt bs 4) < nearError (signedAt bs 1) then .badValue
    else if nearError (signedAt bs 1) = signedAt bs 1 ∧ nearError (signedAt bs 4) = signedAt bs 4 ∧
      numAt bs 7 3 ≤ 99999 then .done else .doneClamped := by
  cases bs with
  | nil => rfl
  | cons i fields =>
    rw [if_neg (List.cons_ne_nil i fields)]
    by_cases hi : 31 < i.toNat
    · rw [if_pos (by exact hi), planLimitsCommand, if_pos hi]
    rw [if_neg (by exact hi), planLimitsCommand, if_neg hi]
    by_cases hbad : (i :: fields).length ≠ 11 ∨ 1 < byteAt (i :: fields) 10
    · rw [if_pos hbad, readLimits_none hbad]
    obtain ⟨sealRelevant, hread⟩ := readLimits_some hbad
    rw [if_neg hbad, hread]
    have hindex : byteAt (i :: fields) 0 = i.toNat := rfl
    rw [hindex]
    cases hentry : slotGet s.plan.staged i.toNat with
    | none => rfl
    | some e =>
      simp only [reduceCtorEq, if_false]
      by_cases horder : nearError (signedAt (i :: fields) 4) < nearError (signedAt (i :: fields) 1)
      · rw [if_pos horder, if_pos (by exact horder)]
      · rw [if_neg horder, if_neg (by exact horder)]
        exact doneCode_bne _ _ (clampLimits_limitsFields (i :: fields) sealRelevant)

/-! ### Commands without a payload, ranges, and notice sets -/

theorem planClearCommand_code (bs : List Byte) (s : State) : (planClearCommand bs s).2 =
    if ∃ x ∈ bs.take 2, 31 < x.toNat then .noSuchPoint
    else if bs.length ≠ 2 ∨ byteAt bs 1 < byteAt bs 0 then .badValue else .done := by
  unfold planClearCommand
  by_cases hindex : ∃ x ∈ bs.take 2, 31 < x.toNat
  · rw [if_pos hindex, if_pos (by simpa using hindex)]
  rw [if_neg hindex, if_neg (by simpa using hindex)]
  match bs with
  | [] => rfl
  | [_] => rfl
  | _ :: _ :: _ :: _ => exact (if_pos (.inl (by simp))).symm
  | [first, last] =>
    by_cases horder : last.toNat < first.toNat
    · rw [if_pos (.inr (by exact horder))]
      simp only [if_pos horder]
    · have hrange : ¬ ([first, last].length ≠ 2 ∨ byteAt [first, last] 1 < byteAt [first, last] 0) :=
        not_or.2 ⟨not_not.2 rfl, horder⟩
      rw [if_neg hrange]
      simp only [if_neg horder]

theorem planHoldCommand_code (bs : List Byte) (s : State) :
    (planHoldCommand bs s).2 = if bs = [] then .done else .badValue := by
  cases bs <;> rfl

theorem planReleaseCommand_code (bs : List Byte) (s : State) :
    (planReleaseCommand bs s).2 = if bs = [] then .done else .badValue := by
  cases bs with
  | nil =>
    simp only [planReleaseCommand, List.isEmpty_nil, if_true]
    split <;> rfl
  | cons b bs => rfl

theorem clearNoticesCommand_code (bs : List Byte) (s : State) :
    (clearNoticesCommand bs s).2 = if bs.length = 2 then .done else .badValue := by
  unfold clearNoticesCommand readNoticeSet
  by_cases hlen : bs.length = 2
  · rw [if_pos hlen, if_pos hlen]
  · rw [if_neg hlen, if_neg hlen]

theorem noticeMaskCommand_code (bs : List Byte) (s : State) :
    (noticeMaskCommand bs s).2 = if bs.length = 2 then .done else .badValue := by
  unfold noticeMaskCommand readNoticeSet
  by_cases hlen : bs.length = 2
  · rw [if_pos hlen, if_pos hlen]
  · rw [if_neg hlen, if_neg hlen]

theorem endBatchCommand_code (bs : List Byte) (s : State) : (endBatchCommand bs s).2 =
    if bs ≠ [] then .badValue else if s.meter.batch = .pressing then .busy else .done := by
  cases bs with
  | nil =>
    by_cases hb : s.meter.batch = .pressing <;> simp [endBatchCommand, hb]
  | cons b bs => rfl

theorem retrySealCommand_code (bs : List Byte) (s : State) : (retrySealCommand bs s).2 =
    if bs ≠ [] then .badValue else if s.meter.batch = .sealFault then .done else .wrongState := by
  cases bs with
  | nil =>
    by_cases hb : s.meter.batch = .sealFault <;> simp [retrySealCommand, hb]
  | cons b bs => rfl

/-! ### READING -/

theorem readReading_none {p : Byte} {fields : List Byte} (h : (p :: fields).length ≠ 7 ∨ 1 < byteAt (p :: fields) 1 ∨
    10 ^ 12 ≤ numAt (p :: fields) 2 5) : readReading fields = none := by
  match fields with
  | [] => rfl
  | w :: digits =>
    unfold readReading
    dsimp only
    split
    · next hlen =>
      have hrest := h.resolve_left fun hne => hne (by simp only [List.length_cons, hlen])
      have hnum : numAt (p :: w :: digits) 2 5 = beNat digits := congrArg beNat (List.take_of_length_le hlen.le)
      split
      · next hcode =>
        have hword : ¬ 1 < w.toNat := fun hw => by rw [(boolOfCode_none_iff _).2 hw] at hcode; cases hcode
        rw [if_neg (by rw [← hnum]; exact (hrest.resolve_left hword).not_gt)]
      · rfl
    · rfl

/-- A payload of seven bytes with a reading in its range is an index, a word and the digits of the reading (R83). -/
theorem reading_fields {bs : List Byte} (hlen : bs.length = 7) :
    ∃ p w digits, bs = p :: w :: digits ∧ digits.length = 5 ∧ numAt bs 2 5 = beNat digits := by
  match bs, hlen with
  | p :: w :: digits, hlen =>
    have hdigits : digits.length = 5 := by simpa using hlen
    exact ⟨p, w, digits, rfl, hdigits, congrArg beNat (List.take_of_length_le hdigits.le)⟩

theorem readingCommand_nil (s : State) : (readingCommand [] s).2 = .badValue := rfl

theorem readingCommand_index {bs : List Byte} (hne : bs ≠ []) (h : 31 < byteAt bs 0) (s : State) :
    (readingCommand bs s).2 = .noSuchPoint := by
  obtain ⟨p, fields, rfl⟩ := List.exists_cons_of_ne_nil hne
  simp only [readingCommand, if_pos (show 31 < p.toNat from h)]

theorem readingCommand_value {bs : List Byte} (hne : bs ≠ []) (hp : byteAt bs 0 ≤ 31)
    (h : bs.length ≠ 7 ∨ 1 < byteAt bs 1 ∨ 10 ^ 12 ≤ numAt bs 2 5) (s : State) :
    (readingCommand bs s).2 = .badValue := by
  obtain ⟨p, fields, rfl⟩ := List.exists_cons_of_ne_nil hne
  simp only [readingCommand, if_neg (show ¬ 31 < p.toNat from hp.not_gt), readReading_none h]

section ReadingInRange

variable {bs : List Byte} {s : State}

theorem readingCommand_idle (hp : byteAt bs 0 ≤ 31) (hlen : bs.length = 7) (hw : byteAt bs 1 ≤ 1)
    (hv : numAt bs 2 5 < 10 ^ 12) (hidle : s.meter.batch = .idle) : (readingCommand bs s).2 = .wrongState := by
  obtain ⟨p, w, digits, rfl, hdigits, hnum⟩ := reading_fields hlen
  obtain ⟨after, hcode⟩ := boolOfCode_some (show ¬ 1 < w.toNat from hw.not_gt)
  simp only [readingCommand, if_neg (show ¬ 31 < p.toNat from hp.not_gt),
    readReading_word hcode hdigits (by rw [← hnum]; exact hv), if_pos hidle]

/-- Past the checks of R83 a reading is taken by its word. -/
theorem readingCommand_takes (hp : byteAt bs 0 ≤ 31) (hlen : bs.length = 7) (hv : numAt bs 2 5 < 10 ^ 12)
    (hb : s.meter.batch ≠ .idle) :
    (byteAt bs 1 = 0 → readingCommand bs s = takeBefore (byteAt bs 0) (numAt bs 2 5) s) ∧
    (byteAt bs 1 = 1 → readingCommand bs s = takeAfter (byteAt bs 0) (numAt bs 2 5) s) := by
  obtain ⟨p, w, digits, rfl, hdigits, hnum⟩ := reading_fields hlen
  rw [hnum] at hv ⊢
  refine ⟨fun hw => ?_, fun hw => ?_⟩
  · obtain rfl : w = 0 := BitVec.eq_of_toNat_eq hw
    exact readingCommand_before (by exact hp) hdigits hv hb
  · obtain rfl : w = 1 := BitVec.eq_of_toNat_eq hw
    exact readingCommand_after (by exact hp) hdigits hv hb

end ReadingInRange

theorem takeBefore_code (p value : Nat) (s : State) : (takeBefore p value s).2 =
    if s.run.run.map Run.p = some p then .wrongState else .done := by
  have hopen : (s.run.run.any fun x => x.p == p) = true ↔ s.run.run.map Run.p = some p := by
    simp [Option.any_eq_true]
  unfold takeBefore
  by_cases h : s.run.run.map Run.p = some p
  · rw [if_pos h, if_pos (hopen.2 h)]
  · rw [if_neg h, if_neg (mt hopen.1 h)]

/-- The codes of an AFTER reading: no record, a record that is not PENDING, and a value below the BEFORE (R86). -/
theorem takeAfter_code (p value : Nat) (s : State) :
    (slotGet s.meter.records p = none → (takeAfter p value s).2 = .noSuchPoint) ∧
    ∀ x, slotGet s.meter.records p = some x →
      (x.verdict ≠ .pending → (takeAfter p value s).2 = .wrongState) ∧
      ∀ b a m limits void st, x.verdict = .pending → x.body = .register (some b) a m limits void st →
        (takeAfter p value s).2 = if value < b then .badValue else .done := by
  refine ⟨fun hx => by rw [takeAfter_absent hx], fun x hx => ⟨fun hv => ?_, fun b a m limits void st hv hbody => ?_⟩⟩
  · rw [takeAfter_refused hx (resolve_not_pending hv)]
  · by_cases hbelow : value < b
    · rw [if_pos hbelow, takeAfter_refused hx (resolve_below hv hbody hbelow)]
    · rw [if_neg hbelow, takeAfter_resolved hx (resolve_pending hv hbody (not_lt.1 hbelow))]

/-! ### QUERY and RESTART -/

/-- A QUERY and a RESTART that are not for this station alone are ignored (R163). -/
theorem takeQuery_ignored {dest : Nat} (bs : List Byte) {s : State} (h : dest ≠ s.line.own) :
    takeQuery dest bs s = s ∧ takeRestart dest bs s = s := by
  have haddr : addressing dest s = if dest = 62 ∨ dest = 63 then .group else .other := if_neg h
  unfold takeQuery takeRestart
  rw [haddr]
  by_cases hgroup : dest = 62 ∨ dest = 63
  · simp only [if_pos hgroup, and_self]
  · simp only [if_neg hgroup, and_self]

/-- A QUERY with other than one byte, and a RESTART with any, are refused (R166, R171). -/
theorem takeQuery_refused {h : Hdr} {bs : List Byte} {s : State} (hthis : ToThis h s) :
    (bs.length ≠ 1 → takeQuery h.dest.toNat bs s = enqueue (.reply .query .badValue) s) ∧
    (bs ≠ [] → takeRestart h.dest.toNat bs s = enqueue (.reply .restart .badValue) s) := by
  have haddr : addressing h.dest.toNat s = .individual := if_pos hthis
  unfold takeQuery takeRestart
  rw [haddr]
  refine ⟨fun hlen => ?_, fun hne => ?_⟩
  · match bs, hlen with
    | [], _ => rfl
    | _ :: _ :: _, _ => rfl
  · obtain ⟨b, bs, rfl⟩ := List.exists_cons_of_ne_nil hne
    rfl

/-- Settles O47: each row is answered by `consoleAnswer`, a refused one is kept, and each code is its command's. -/
theorem commandsAnswered : Obligations.CommandsAnswered := by
  intro h bs s hh hs hlen answers
  have hanswers {i : Instr} {k : FrameKind} {f : State → State × ReplyCode} (hrole : k.role = .console)
      (hexec : exec i s = .next (receiveKind k h bs s))
      (hdeliver : deliver k h bs (acked s) = command k h.dest.toNat f (acked s))
      (hkept : TakenOrKept (acked s) (f (acked s))) : answers i k f :=
    have ha := consoleAnswer hh hs hlen hrole hexec hdeliver
    ⟨ha.toThis, ha.toGroup, ha.toOther, hkept.refused⟩
  have hquery : exec (.query h bs) s = .next (takeQuery h.dest.toNat bs (acked s)) :=
    congrArg Host.Outcome.next (receiveKind_console .query h bs s hh hs rfl hlen)
  have hrestart : exec (.restart h bs) s = .next (takeRestart h.dest.toNat bs (acked s)) :=
    congrArg Host.Outcome.next (receiveKind_console .restart h bs s hh hs rfl hlen)
  refine ⟨hanswers rfl rfl rfl (setupCommand_takenOrKept bs _),
    hanswers rfl rfl rfl (setMeterCommand_takenOrKept bs _),
    hanswers rfl rfl rfl (planPointCommand_takenOrKept bs _),
    hanswers rfl rfl rfl (planLimitsCommand_takenOrKept bs _),
    hanswers rfl rfl rfl (planClearCommand_takenOrKept bs _),
    hanswers rfl rfl rfl (planHoldCommand_takenOrKept bs _),
    hanswers rfl rfl rfl (planReleaseCommand_takenOrKept bs _),
    hanswers rfl rfl rfl (readingCommand_takenOrKept bs _),
    hanswers rfl rfl rfl (readingCommand_takenOrKept bs _),
    hanswers rfl rfl rfl (endBatchCommand_takenOrKept bs _),
    hanswers rfl rfl rfl (retrySealCommand_takenOrKept bs _),
    hanswers rfl rfl rfl (clearNoticesCommand_takenOrKept bs _),
    hanswers rfl rfl rfl (noticeMaskCommand_takenOrKept bs _), fun hnot => ?_,
    fun hthis => ?_, ?_⟩
  · obtain ⟨hq, hr⟩ := takeQuery_ignored bs (s := acked s) hnot
    rw [hquery, hrestart, hq, hr]
    exact ⟨rfl, rfl⟩
  · obtain ⟨hq, hr⟩ := takeQuery_refused (bs := bs) (s := acked s) hthis
    exact ⟨fun hlen => by rw [hquery, hq hlen], fun hne => by rw [hrestart, hr hne]⟩
  · intro code byte num whole near none_ two
    refine ⟨setupCommand_code bs (acked s), setMeterCommand_code hlen (acked s), planPointCommand_code bs (acked s),
      planLimitsCommand_code bs (acked s), planClearCommand_code bs (acked s), planHoldCommand_code bs (acked s),
      planReleaseCommand_code bs (acked s), clearNoticesCommand_code bs (acked s), noticeMaskCommand_code bs (acked s),
      endBatchCommand_code bs (acked s), retrySealCommand_code bs (acked s), fun hnil => ?_,
      fun hne hp => readingCommand_index hne hp (acked s), fun hne hp => ⟨fun hbad => readingCommand_value hne hp hbad _,
        fun hlen hw hv => ⟨fun hidle => readingCommand_idle (s := acked s) hp hlen hw hv hidle, fun hb hword => ?_,
          fun hb hword => ?_⟩⟩⟩
    · subst hnil
      exact readingCommand_nil (acked s)
    · refine (congrArg Prod.snd ((readingCommand_takes (s := acked s) hp hlen hv hb).1 hword)).trans ?_
      exact takeBefore_code _ _ (acked s)
    · obtain ⟨habsent, hpresent⟩ := takeAfter_code (byteAt bs 0) (numAt bs 2 5) (acked s)
      rw [← (readingCommand_takes (s := acked s) hp hlen hv hb).2 hword] at habsent hpresent
      exact ⟨habsent, hpresent⟩

end Sys2Proof.Machine
end

section
/-! SUPPORT. The completion test at a peer's report, its JOIN and its removal (R67, R106 to R111, R114). -/

namespace Sys2Proof.Machine

/-! ### The test -/

theorem doneForCompletion_iff (x : RunState) : x.doneForCompletion = true ↔ x = .settled ∨ x = .decided := by
  cases x <;> simp [RunState.doneForCompletion]

theorem completionTest_undone {x : Run} {s : State} (hx : s.run.run = some x)
    (hd : ¬ x.state.doneForCompletion = true) : completionTest s = s := by
  simp [completionTest, hx, hd]

/-- What a completion by the test reads of a state, beside the roster and the blocks it reaches (R69, R71). -/
def testView (s : State) : PointRunner × Bool × Stamp := (s.run, s.pins.present, s.trk.count)

theorem QueuingKeeps.testView {s t : State} (h : QueuingKeeps s t) : testView t = testView s := by
  have hblocks := h.blocks
  unfold QueuingOnly at hblocks
  rw [hblocks]
  rfl

/-- What a completion test of run x leaves, in the terms of the statement (R67, R114). -/
def CompletionTested (x : Run) (s t : State) : Prop :=
  (x.state ≠ .settled → x.state ≠ .decided → t.run = s.run) ∧
  (PeerPending x.p x.r t → t.run = s.run) ∧
  (x.state = .settled ∨ x.state = .decided → ¬ PeerPending x.p x.r t →
    t.run.run = none ∧ t.run.standing = .closed x.p x.r ∧
      slotGet t.meter.records x.p = some (closeRecord .completion s.pins.present s.trk.count x))

/-- The second state is the completion test of a state with the run, PRESENT and reference count of the first. -/
def EndsInTest (s t : State) : Prop := ∃ u, t = completionTest u ∧ testView u = testView s

/-- The test leaves the roster it reads, so that the peers pending after it are those pending before it. -/
theorem completionTest_roster (s : State) : (completionTest s).roster = s.roster := by
  obtain ⟨-, -, -, -, -, -, -, -, -, hroster, -⟩ := (completionTest_closing s).fields
  exact hroster

theorem EndsInTest.tested {x : Run} {s t : State} (h : EndsInTest s t) (hx : s.run.run = some x) (hp : x.p < 32) :
    CompletionTested x s t := by
  obtain ⟨u, rfl, hview⟩ := h
  obtain ⟨hrun, hpresent, hcount⟩ :
      u.run = s.run ∧ u.pins.present = s.pins.present ∧ u.trk.count = s.trk.count := by
    simpa only [testView, Prod.mk.injEq] using hview
  have hx' : u.run.run = some x := (congrArg PointRunner.run hrun).trans hx
  have hpending : PeerPending x.p x.r (completionTest u) ↔ PeerPending x.p x.r u := by
    unfold PeerPending
    rw [completionTest_roster]
  unfold CompletionTested
  rw [hpending, ← doneForCompletion_iff]
  by_cases hpend : PeerPending x.p x.r u
  · rw [completionTest_pending hx' hpend]
    exact ⟨fun _ _ => hrun, fun _ => hrun, fun _ hnot => absurd hpend hnot⟩
  by_cases hdone : x.state.doneForCompletion = true
  · have hclosed := closeRun_closed (c := .completion) hx'
    rw [completionTest_done hx' hdone hpend]
    refine ⟨fun hs hd => absurd ((doneForCompletion_iff _).1 hdone) (not_or.2 ⟨hs, hd⟩),
      fun h => absurd h hpend, fun _ _ => ⟨by rw [hclosed.run], by rw [hclosed.run], ?_⟩⟩
    rw [hclosed.record hp, hpresent, hcount]
  · rw [completionTest_undone hx' hdone]
    exact ⟨fun _ _ => hrun, fun h => absurd h hpend, fun h => absurd h hdone⟩

/-! ### Frames of a peer -/

/-- A payload that fits a kind of the position peers is at most 16 bytes long (Table 10.7). -/
theorem fits_length {k : FrameKind} {bs : List Byte} (hr : k.role = .position) (h : fits k bs = true) :
    bs.length ≤ 16 := by
  cases k
  case join => simp only [fits, readJoin] at h; split at h <;> simp at h ⊢
  case status => simp only [fits, readStatus] at h; split at h <;> simp at h ⊢
  case progress => simp only [fits, readProgress] at h; split at h <;> simp at h ⊢
  case pointResult => simp only [fits, readPointResult] at h; split at h <;> simp at h ⊢
  case tally => simp only [fits, readTally] at h; split at h <;> simp at h; omega
  case claim =>
    match bs with
    | [] => simp
    | n :: text =>
      simp only [fits, readClaim] at h
      split at h
      · next hlen => exact Nat.succ_le_succ hlen
      · cases h
  case release => simp only [fits, readRelease] at h; split at h <;> simp at h ⊢
  case measurement | reply | detail =>
    simp only [fits, Bool.and_eq_true, decide_eq_true_eq] at h
    omega
  case sealed | notice =>
    simp only [fits, decide_eq_true_eq] at h
    omega
  all_goals cases hr

/-- A frame of a position peer that fits its kind is delivered (R155). -/
theorem receiveKind_fits {k : FrameKind} {h : Hdr} {bs : List Byte} {s : State} (hh : Hears s) (hs : FromPeer h s)
    (hr : k.role = .position) (hf : fits k bs = true) : receiveKind k h bs s = deliver k h bs (acked s) :=
  receiveKind_peer k h bs s hh hs hr hf (fits_length hr hf)

theorem rosterTakes_testView (k : Nat) (f : RosterEntry → RosterEntry) (s : State) :
    testView (rosterTakes k f s) = testView s := by
  unfold rosterTakes
  split <;> rfl

theorem rangeOk_of {p r : Nat} (hp : p ≤ 31) (hr : r ≠ 0) : rangeOk p r = true := by
  simp [rangeOk, hp, hr]

section Peer

variable {h : Hdr} {bs : List Byte} {s : State}

/-- A report that updates the sender's entry ends in the completion test (R107 to R109). -/
theorem report_endsInTest {i : Instr} {k : FrameKind} (f : RosterEntry → RosterEntry) (hh : Hears s) (hs : FromPeer h s)
    (hr : k.role = .position) (hf : fits k bs = true) (hexec : exec i s = .next (receiveKind k h bs s))
    (hdeliver : deliver k h bs (acked s) = completionTest (rosterTakes h.sender.toNat f (acked s))) :
    ∃ t, exec i s = .next t ∧ EndsInTest s t :=
  ⟨_, by rw [hexec, receiveKind_fits hh hs hr hf], _, hdeliver, rosterTakes_testView _ f (acked s)⟩

theorem exec_progressReceived {p r : Nat} {v : Progress} {b : BatchState} (hh : Hears s) (hs : FromPeer h s)
    (hread : readProgress bs = some (p, r, v, b)) (hp : p ≤ 31) (hr : r ≠ 0) :
    ∃ t, exec (.progressReceived h bs) s = .next t ∧ EndsInTest s t :=
  report_endsInTest (fun e => { e with batch := some b, progress := some ⟨p, r, v.peer⟩ }) hh hs rfl
    (by simp [fits, hread]) rfl (by simp only [deliver, hread, takeProgress, if_pos (rangeOk_of hp hr)])

theorem exec_statusReceived_open {p r : Nat} {v : Progress} {b : BatchState} (hh : Hears s) (hs : FromPeer h s)
    (hread : readStatus bs = some (b, some (p, r, v))) (hp : p ≤ 31) (hr : r ≠ 0) :
    ∃ t, exec (.statusReceived h bs) s = .next t ∧ EndsInTest s t :=
  report_endsInTest (fun e => { e with batch := some b, progress := some ⟨p, r, v.peer⟩ }) hh hs rfl
    (by simp [fits, hread]) rfl (by simp only [deliver, hread, takeStatus, if_pos (rangeOk_of hp hr)])

theorem exec_statusReceived_none {b : BatchState} (hh : Hears s) (hs : FromPeer h s)
    (hread : readStatus bs = some (b, none)) : ∃ t, exec (.statusReceived h bs) s = .next t ∧ EndsInTest s t :=
  report_endsInTest (fun e => { e with batch := some b }) hh hs rfl
    (by simp [fits, hread]) rfl (by simp only [deliver, hread, takeStatus])

theorem exec_pointResultReceived {p r : Nat} (hh : Hears s) (hs : FromPeer h s)
    (hread : readPointResult bs = some (p, r)) (hp : p ≤ 31) (hr : r ≠ 0) :
    ∃ t, exec (.pointResultReceived h bs) s = .next t ∧ EndsInTest s t :=
  report_endsInTest (fun e => { e with progress := some ⟨p, r, .closed⟩ }) hh hs rfl
    (by simp [fits, hread]) rfl (by simp only [deliver, hread, takePointResult, if_pos (rangeOk_of hp hr)])

/-- The STATUS and the removed claim of a JOIN come before its completion test (R106, R116, R134). -/
theorem takeJoin_endsInTest (k : Nat) (c : JoinCause) (b : BatchState) (s : State) :
    EndsInTest s (takeJoin k c b s) := by
  have hstatus (t : State) : QueuingKeeps t (if t.line.state = .onLine then enqueue (.status none) t else t) := by
    split
    · exact enqueue_keeps _ t
    · exact .refl t
  have hclaim (t : State) : QueuingKeeps t (if c = .lineReturn then t else removeClaims [k] t) := by
    split
    · exact .refl t
    · exact removeClaims_keeps _ t
  exact ⟨_, rfl, ((hstatus _).trans (hclaim _)).testView.trans (rosterTakes_testView _ _ s)⟩

theorem exec_joinReceived {level : Bool} {c : JoinCause} {b : BatchState} (hh : Hears s) (hs : FromPeer h s)
    (hread : readJoin bs = some (c, b)) : ∃ t, exec (.joinReceived h bs level) s = .next t ∧ EndsInTest s t := by
  have hrow : receiveKind .join h bs (withStrokeDone level s) =
      takeJoin h.sender.toNat c b (acked (withStrokeDone level s)) := by
    rw [receiveKind_fits (s := withStrokeDone level s) hh hs rfl (by simp [fits, hread])]
    simp only [deliver, hread]
  obtain ⟨u, ht, hview⟩ := takeJoin_endsInTest h.sender.toNat c b (acked (withStrokeDone level s))
  exact ⟨_, congrArg Host.Outcome.next hrow, u, ht, hview⟩

end Peer

/-! ### Aging -/

theorem earlyJudgment_judged {s : State} (h : ∀ c, s.xc.collection = some c → c.judged = true) :
    earlyJudgment s = s := by
  unfold earlyJudgment
  split
  · next c hc =>
    have hjudge : judge s = s := by simp only [judge, hc, h c hc, if_true]
    rw [hjudge, ite_self]
  · rfl

theorem mem_agedOut {es : List RosterEntry} {e : RosterEntry} : e ∈ agedOut es ↔ e ∈ es ∧ e.next = false := by
  simp [agedOut, survives, shiftMarks]

/-- An expiry that removes a peer ends in the completion test, where no collection waits to be judged (R110, R111). -/
theorem ageRoster_endsInTest {s : State} (hgone : ∃ e ∈ s.roster.entries, e.next = false)
    (hjudged : ∀ c, s.xc.collection = some c → c.judged = true) : EndsInTest s (ageRoster s) := by
  obtain ⟨e, he, hnext⟩ := hgone
  have hne : (agedOut s.roster.entries).isEmpty = false :=
    List.isEmpty_eq_false_iff_exists_mem.2 ⟨e, mem_agedOut.2 ⟨he, hnext⟩⟩
  have hlost (b : Bool) (t : State) : QueuingKeeps t (if b then raiseNotice .peerLost t else t) := by
    cases b
    · exact .refl t
    · exact raiseNotice_keeps _ t
  unfold ageRoster
  simp only [hne, Bool.false_eq_true, if_false]
  have hkeeps := (hlost (s.run.run.any fun x => (agedOut s.roster.entries).any fun e => pendingPeer x.p x.r e)
    { s with roster := {
      entries := agedEntries s.roster.entries
      agingTimer := later s.fe.now (s.cmd.setup.agingPeriod * Config.second) } }).trans
    (removeClaims_keeps ((agedOut s.roster.entries).map RosterEntry.station) _)
  refine ⟨_, rfl, ?_⟩
  rw [earlyJudgment_judged fun c hc => hjudged c ?_]
  · exact hkeeps.testView
  · have hblocks := hkeeps.blocks
    unfold QueuingOnly at hblocks
    rw [hblocks] at hc
    exact hc

theorem exec_agingExpiry {level : Bool} {s : State} (hp : s.phase = .running) (hdue : s.roster.agingTimer = s.fe.now)
    (hgone : ∃ e ∈ s.roster.entries, e.next = false) (hjudged : ∀ c, s.xc.collection = some c → c.judged = true) :
    ∃ t, exec (.agingExpiry level) s = .next t ∧ EndsInTest s t := by
  obtain ⟨u, ht, hview⟩ := ageRoster_endsInTest (s := withStrokeDone level s) hgone hjudged
  exact ⟨_, congrArg Host.Outcome.next (whenDue_due (s := withStrokeDone level s) hp (congrArg some hdue)), u, ht, hview⟩

/-- Settles O30: each of the commands ends in the completion test of the run it found open. -/
theorem completionClosesRun : Obligations.CompletionClosesRun := by
  intro i x s hp hx hx32 hi
  have htest : ∃ t, exec i s = .next t ∧ EndsInTest s t := by
    rcases hi with ⟨h, bs, p, r, v, b, hh, hs, rfl, hread, hp31, hr⟩ | ⟨h, bs, b, p, r, v, hh, hs, rfl, hread, hp31, hr⟩ |
      ⟨h, bs, b, hh, hs, rfl, hread⟩ | ⟨h, bs, p, r, hh, hs, rfl, hread, hp31, hr⟩ |
      ⟨h, bs, level, c, b, hh, hs, rfl, hread⟩ | ⟨level, rfl, hdue, hgone, hjudged⟩
    · exact exec_progressReceived hh hs hread hp31 hr
    · exact exec_statusReceived_open hh hs hread hp31 hr
    · exact exec_statusReceived_none hh hs hread
    · exact exec_pointResultReceived hh hs hread hp31 hr
    · exact exec_joinReceived hh hs hread
    · exact exec_agingExpiry hp hdue hgone hjudged
  obtain ⟨t, hexec, hends⟩ := htest
  exact ⟨t, hexec, hends.tested hx hx32⟩

end Sys2Proof.Machine
end

section
/-! SUPPORT. END_BATCH and RETRY_SEAL: the withdrawn claim, the discarded run, the cleared batch, the return to AWAIT_SEAL,
and what their REPLY leaves (R75, R95 to R98, R145, R162, R168). -/

namespace Sys2Proof.Machine

/-! ### Frames lost by a queuing -/

/-- A displaced frame is of a less urgent class than the one that displaces it (R162). -/
theorem victim_cls {c i : Nat} {q : List TxFrame} (h : victim c q = some i) :
    ∃ f, q[i]? = some f ∧ c < f.msg.cls := by
  obtain ⟨b, hb, rfl⟩ := Option.map_eq_some_iff.1 h
  clear h
  revert b
  refine List.foldlRecOn (motive := fun (best : Option (Nat × Nat)) => ∀ b, best = some b →
    ∃ f, q[b.2]? = some f ∧ c < f.msg.cls) q.zipIdx _ ?_ fun best ih x hx b hb => ?_
  · exact fun b hb => absurd hb (by simp)
  · split at hb
    · next hless =>
      obtain rfl := Option.some.inj hb
      simp only [Bool.and_eq_true, decide_eq_true_eq] at hless
      exact ⟨x.1, List.mem_zipIdx_iff_getElem?.1 hx, hless.1.2⟩
    · exact ih b hb

/-- The frame lost by a queuing is the new one, or of a less urgent class (R162). -/
theorem queueFrame_lost {now : Stamp} {m lost : TxMsg} {l : LineController} (h : (queueFrame now m l).2 = some lost) :
    lost = m ∨ m.cls < lost.cls := by
  unfold queueFrame admitFrame at h
  split at h
  · split at h <;> cases h
  · split at h
    · cases h
    · split at h
      · next i hi =>
        obtain ⟨f, hf, hcls⟩ := victim_cls hi
        dsimp only at h
        rw [hf] at h
        obtain rfl := Option.some.inj h
        exact .inr hcls
      · exact .inl (Option.some.inj h).symm

/-- Only the owners of a CLAIM and of a DETAIL act on a lost frame; class 3 has neither (R162). -/
theorem tellOwner_routine {m : TxMsg} (h : 2 < m.cls) (s : State) : tellOwner m s = s := by
  cases m
  case claim | detail => exact absurd h (by simp [TxMsg.cls, TxMsg.kind, FrameKind.cls])
  all_goals rfl

theorem raiseTxDropped_series (s : State) : (raiseTxDropped s).cmd.series = s.cmd.series := by
  unfold raiseTxDropped
  split
  · rfl
  · dsimp only
    split <;> rfl

/-- A REPLY reaches neither the meter record nor the seal unit nor a series, whatever its queuing displaces (R162). -/
theorem enqueue_reply_leaves (k : FrameKind) (code : ReplyCode) (s : State) :
    (enqueue (.reply k code) s).meter = s.meter ∧ (enqueue (.reply k code) s).sealUnit = s.sealUnit ∧
      (enqueue (.reply k code) s).cmd.series = s.cmd.series := by
  unfold enqueue
  dsimp only
  split
  · next lost hlost =>
    have htold (t : State) : tellOwner lost t = t := by
      rcases queueFrame_lost hlost with rfl | hcls
      · rfl
      · exact tellOwner_routine hcls t
    rw [frameLost, htold, raiseTxDropped_meter, raiseTxDropped_sealUnit, raiseTxDropped_series]
    exact ⟨rfl, rfl, rfl⟩
  · exact ⟨rfl, rfl, rfl⟩

/-- A queuing leaves the seal unit, but for a current claim that it abandons (R135, R162). -/
theorem enqueue_sealUnit (m : TxMsg) (s : State) : (enqueue m s).sealUnit = s.sealUnit ∨
    (enqueue m s).sealUnit = { s.sealUnit with current := none } := by
  have htold (lost : TxMsg) (t : State) : (tellOwner lost t).sealUnit = t.sealUnit ∨
      (tellOwner lost t).sealUnit = { t.sealUnit with current := none } := by
    unfold tellOwner
    split
    · split
      · rw [abandonDropped, evaluateRecord_eq]
        exact .inr rfl
      · exact .inl rfl
    · split <;> exact .inl rfl
    · exact .inl rfl
  unfold enqueue
  dsimp only
  split
  · next lost _ =>
    have h := htold lost (raiseTxDropped { s with line := (queueFrame s.fe.now m s.line).1 })
    rwa [raiseTxDropped_sealUnit] at h
  · exact .inl rfl

/-! ### The answer -/

/-- What the answer of a command leaves: beside `Answered` the meter record, the seal unit and a series, and with room the
queued frames (R162, R163). -/
structure AnsweredQuietly (h : Hdr) (s u t : State) : Prop where
  answered : Answered h s u t
  meter : t.meter = u.meter
  sealUnit : t.sealUnit = u.sealUnit
  series : t.cmd.series = u.cmd.series
  queued : u.line.queue.length < 8 → ∀ f ∈ u.line.queue, f ∈ t.line.queue

theorem command_quietly {k : FrameKind} {h : Hdr} {f : State → State × ReplyCode} {s : State}
    (hdest : ToThis h s ∨ ToGroup h) (hcode : (f s).2 ≠ .doneClamped) :
    AnsweredQuietly h s (f s).1 (command k h.dest.toNat f s) := by
  have hanswered := command_answered (k := k) hdest hcode
  by_cases hown : h.dest.toNat = s.line.own
  · have haddr : command k h.dest.toNat f s = enqueue (.reply k (f s).2) (f s).1 := by
      simp only [command, addressing, if_pos hown, reply]
    obtain ⟨hmeter, hunit, hseries⟩ := enqueue_reply_leaves k (f s).2 (f s).1
    refine ⟨hanswered, ?_, ?_, ?_, fun hroom g hg => ?_⟩ <;> rw [haddr]
    · exact hmeter
    · exact hunit
    · exact hseries
    · rw [enqueue_room _ _ rfl hroom]
      exact List.mem_append_left _ hg
  · have hsame := hanswered.unanswered hown
    refine ⟨hanswered, ?_, ?_, ?_, fun _ _ hf => ?_⟩ <;> rw [hsame]
    exact hf

section Answer

variable {h : Hdr} {s : State}

theorem exec_endBatch (hh : Hears s) (hs : FromConsole h) (hdest : ToThis h s ∨ ToGroup h) :
    ∃ t, exec (.endBatch h []) s = .next t ∧
      AnsweredQuietly h (acked s) (endBatchCommand [] (acked s)).1 t := by
  refine ⟨_, congrArg Host.Outcome.next (receiveKind_console .endBatch h [] s hh hs rfl (by simp)), ?_⟩
  refine command_quietly (s := acked s) hdest ?_
  rw [endBatchCommand_code]
  split
  · simp
  · split <;> simp

theorem exec_retrySeal (hh : Hears s) (hs : FromConsole h) (hdest : ToThis h s ∨ ToGroup h) :
    ∃ t, exec (.retrySeal h []) s = .next t ∧
      AnsweredQuietly h (acked s) (retrySealCommand [] (acked s)).1 t := by
  refine ⟨_, congrArg Host.Outcome.next (receiveKind_console .retrySeal h [] s hh hs rfl (by simp)), ?_⟩
  refine command_quietly (s := acked s) hdest ?_
  rw [retrySealCommand_code]
  split
  · simp
  · split <;> simp

/-- A refused command, in CLAIMING too, reaches the queue, and what the queuing of its REPLY does to the notices (R163). -/
theorem AnsweredQuietly.refused {t : State} (h' : AnsweredQuietly h (acked s) (acked s) t) :
    t = { s with line := t.line, cmd := t.cmd } := by
  have hblocks := h'.answered.keeps.blocks
  unfold QueuingOnly at hblocks
  rw [h'.meter, h'.sealUnit] at hblocks
  exact hblocks

end Answer

/-! ### The end of a batch -/

/-- Withdrawal owes the RELEASE of a current claim in CLAIMING, and changes nothing elsewhere (R98). -/
theorem withdrawClaim_cases (s : State) :
    (withdrawClaim s = s ∧ ∀ c, s.meter.batch = .claiming → s.sealUnit.current ≠ some c) ∨
    ∃ c, s.sealUnit.current = some c ∧ withdrawClaim s = { queueRelease c.number .abandoned s with
      sealUnit := { s.sealUnit with current := none, owed := some ⟨c.number, .abandoned⟩ } } := by
  unfold withdrawClaim
  split
  · next c hb hc =>
    refine .inr ⟨c, hc, ?_⟩
    have hunit : ({ (queueRelease c.number .abandoned s).sealUnit with current := none } : SealUnit) =
        { s.sealUnit with current := none, owed := some ⟨c.number, .abandoned⟩ } := by
      unfold queueRelease
      rcases enqueue_sealUnit (.release c.number .abandoned)
        { s with sealUnit := { s.sealUnit with owed := some ⟨c.number, .abandoned⟩ } } with h | h <;> rw [h]
    dsimp only
    rw [hunit]
  · next hnot => exact .inl ⟨rfl, fun c hb hc => hnot c hb hc⟩

/-- With a run open the discard takes it out, disarms the error computer of an ACCURACY run, and queues WITHDRAWN (R75). -/
theorem discardRun_some {x : Run} {s : State} (hx : s.run.run = some x) : ∃ u, discardRun s = enqueue
      (.progress x.p x.r .withdrawn u.meter.batch) u ∧ u.run = { s.run with run := none } ∧ u.line = s.line ∧
      u.cmd = s.cmd ∧ u.sealUnit = s.sealUnit ∧ (x.kind = .accuracy → u.ec = .idle) := by
  simp only [discardRun, hx, queueProgress]
  refine ⟨_, rfl, ?_⟩
  split
  · rw [disarm_eq]
    exact ⟨rfl, rfl, rfl, rfl, fun _ => rfl⟩
  · next hk => exact ⟨rfl, rfl, rfl, rfl, fun h => absurd h hk⟩

theorem discardRun_none {s : State} (hx : s.run.run = none) : discardRun s = s := by
  simp only [discardRun, hx]

/-- After the discard no run is open, and the seal unit has at most lost a current claim (R75). -/
theorem discardRun_leaves (s : State) : (discardRun s).run.run = none ∧
    ((discardRun s).sealUnit = s.sealUnit ∨ (discardRun s).sealUnit = { s.sealUnit with current := none }) ∧
    (∀ x, s.run.run = some x → x.kind = .accuracy → (discardRun s).ec = .idle) ∧
    (s.line.queue.length < 8 → (discardRun s).cmd.series = s.cmd.series) := by
  cases hx : s.run.run with
  | none =>
    rw [discardRun_none hx]
    exact ⟨hx, .inl rfl, fun x h => absurd h (by simp), fun _ => rfl⟩
  | some x =>
    obtain ⟨u, hu, hrun, hline, hcmd, hunit, hec⟩ := discardRun_some hx
    rw [hu]
    refine ⟨by rw [enqueue_run, hrun], by rw [← hunit]; exact enqueue_sealUnit _ u, fun y hy hk => ?_, fun hroom => ?_⟩
    · obtain rfl := Option.some.inj hy
      rw [enqueue_ec, hec hk]
    · rw [enqueue_room _ u rfl (by rw [hline]; exact hroom)]
      exact congrArg CommandHandler.series hcmd

/-- The claim withdrawn and the run discarded, before the batch is cleared (R98). -/
def batchDiscarded (s : State) : State := discardRun (withdrawClaim s)

theorem endBatchCommand_ends {s : State} (h : s.meter.batch ≠ .pressing) :
    (endBatchCommand [] s).1 = clearBatch (batchDiscarded s) := by
  simp only [endBatchCommand, List.isEmpty_nil, Bool.not_true, Bool.false_eq_true, if_false, if_neg h, batchDiscarded]

/-- In PRESSING END_BATCH is refused (R98). -/
theorem endBatchCommand_busy {s : State} (h : s.meter.batch = .pressing) : (endBatchCommand [] s).1 = s := by
  simp [endBatchCommand, h]

/-- What the withdrawal and the discard leave of the blocks they reach. -/
structure BatchDiscarded (s t : State) : Prop where
  keeps : ClosingKeeps s t
  run : t.run.run = none
  sealUnit : t.sealUnit.log = s.sealUnit.log ∧ t.sealUnit.pressList = s.sealUnit.pressList
  withdrawn : ∀ c, s.meter.batch = .claiming → s.sealUnit.current = some c →
    t.sealUnit.current = none ∧ t.sealUnit.owed = some ⟨c.number, .abandoned⟩
  disarmed : ∀ x, s.run.run = some x → x.kind = .accuracy → t.ec = .idle
  series : s.line.queue.length ≤ 6 → t.cmd.series = s.cmd.series

theorem batchDiscarded_leaves (s : State) : BatchDiscarded s (batchDiscarded s) := by
  have hkeeps := withdrawClaim_keeps s
  obtain ⟨hrun, hunit, hec, hseries⟩ := discardRun_leaves (withdrawClaim s)
  have hunit' : (batchDiscarded s).sealUnit.log = (withdrawClaim s).sealUnit.log ∧
      (batchDiscarded s).sealUnit.pressList = (withdrawClaim s).sealUnit.pressList ∧
      (batchDiscarded s).sealUnit.owed = (withdrawClaim s).sealUnit.owed ∧
      ((withdrawClaim s).sealUnit.current = none → (batchDiscarded s).sealUnit.current = none) := by
    unfold batchDiscarded
    rcases hunit with h | h <;> rw [h]
    · exact ⟨rfl, rfl, rfl, id⟩
    · exact ⟨rfl, rfl, rfl, fun _ => rfl⟩
  obtain ⟨hlog, hlist, howed, hcurrent⟩ := hunit'
  have hec' : ∀ x, s.run.run = some x → x.kind = .accuracy → (batchDiscarded s).ec = .idle := fun x hx =>
    hec x (by rw [hkeeps.runner_eq.1, hx])
  have hclosing : ClosingKeeps s (batchDiscarded s) := hkeeps.closing.trans (discardRun_closing _)
  rcases withdrawClaim_cases s with ⟨hsame, hnone⟩ | ⟨c, hc, hclaim⟩
  · refine ⟨hclosing, hrun, by rw [hlog, hlist, hsame]; exact ⟨rfl, rfl⟩, fun c hb hc => absurd hc (hnone c hb), hec',
      fun hroom => ?_⟩
    rw [hsame] at hseries
    rw [batchDiscarded, hsame, hseries (by omega)]
  · refine ⟨hclosing, hrun, by rw [hlog, hlist, hclaim]; exact ⟨rfl, rfl⟩, fun c' _ hc' => ?_, hec', fun hroom => ?_⟩
    · obtain rfl := Option.some.inj (hc.symm.trans hc')
      exact ⟨hcurrent (by rw [hclaim]), by rw [howed, hclaim]⟩
    · have hqueued : queueRelease c.number .abandoned s = _ := enqueue_room (.release c.number .abandoned)
        { s with sealUnit := { s.sealUnit with owed := some ⟨c.number, .abandoned⟩ } } rfl
        (show s.line.queue.length < 8 by omega)
      rw [hclaim, hqueued] at hseries
      rw [batchDiscarded, hclaim, hqueued]
      exact hseries (by simp only [List.length_append, List.length_singleton]; omega)

/-- A series of a point is superseded, one of the meter stays (R168). -/
theorem supersedeAll_eq (c : Option Series) :
    supersedeAll c = c.map fun q => if q.subject = .meter then q else { q with superseded := true } := by
  unfold supersedeAll
  congr 1
  funext q
  cases q.subject <;> rfl

/-! ### The return to AWAIT_SEAL -/

theorem retrySealCommand_retries {s : State} (h : s.meter.batch = .sealFault) :
    (retrySealCommand [] s).1 = returnToAwaitSeal s := by
  simp only [retrySealCommand, List.isEmpty_nil, Bool.not_true, Bool.false_eq_true, if_false, if_pos h]

theorem retrySealCommand_refuses {s : State} (h : s.meter.batch ≠ .sealFault) : (retrySealCommand [] s).1 = s := by
  simp only [retrySealCommand, List.isEmpty_nil, Bool.not_true, Bool.false_eq_true, if_false, if_neg h]

/-- The state back in AWAIT_SEAL and evaluated, before a held number is checked (R97). -/
def evaluatedAwaiting (s : State) : State := { s with meter := { s.meter with
  verdict := overallVerdict s
  batch := stateOfVerdict (overallVerdict s) } }

theorem returnToAwaitSeal_eq (s : State) : returnToAwaitSeal s = checkHeld (evaluatedAwaiting s) :=
  congrArg checkHeld (evaluateRecord_active (s := { s with meter := { s.meter with batch := .awaitSeal } }) rfl)

theorem evaluatedAwaiting_stores (s : State) :
    (evaluatedAwaiting s).meter.verdict = overallVerdict (evaluatedAwaiting s) ∧
      (evaluatedAwaiting s).meter.batch = stateOfVerdict (overallVerdict (evaluatedAwaiting s)) := ⟨rfl, rfl⟩

theorem returnToAwaitSeal_remembers (s : State) : Remembers s (returnToAwaitSeal s) := by
  rw [returnToAwaitSeal_eq]
  exact Remembers.trans (.of_same (by rfl) (by rfl)) (checkHeld_remembers _)

/-- A number held at the return waits where the verdict is not ELIGIBLE (R97). -/
theorem returnToAwaitSeal_waits {s : State} (h : overallVerdict s ≠ some .eligible) :
    returnToAwaitSeal s = evaluatedAwaiting s := by
  rw [returnToAwaitSeal_eq]
  refine checkHeld_of_ne ?_
  show stateOfVerdict (overallVerdict s) ≠ .awaitSeal
  rcases overallVerdict_cases s with ⟨-, hv⟩ | ⟨-, -, hv⟩ | ⟨-, -, hv⟩
  · rw [hv]; decide
  · exact absurd hv h
  · rw [hv]; decide

/-- A number held at the return is checked where the verdict is ELIGIBLE (R97). -/
theorem returnToAwaitSeal_checks {number : Text} {s : State} (h : overallVerdict s = some .eligible)
    (hheld : s.meter.held = some number) : (evaluatedAwaiting s).meter.batch = .awaitSeal ∧
      returnToAwaitSeal s = sealCheck number (evaluatedAwaiting s) := by
  have hawait : (evaluatedAwaiting s).meter.batch = .awaitSeal := congrArg stateOfVerdict h
  have hheld' : (evaluatedAwaiting s).meter.held = some number := hheld
  refine ⟨hawait, ?_⟩
  rw [returnToAwaitSeal_eq]
  simp only [checkHeld, hheld', if_pos hawait]

theorem returnToAwaitSeal_not_held {s : State} (h : s.meter.held = none) :
    returnToAwaitSeal s = evaluatedAwaiting s := by
  rw [returnToAwaitSeal_eq]
  exact checkHeld_none h

/-- A CLAIM queued by the seal check leaves room for the REPLY. -/
theorem sealCheck_free_room {number : Text} {s : State} (h : ¬ SealTaken number s) (hroom : s.line.queue.length ≤ 6) :
    (sealCheck number s).line.queue.length < 8 := by
  rw [sealCheck_free (mt (sealTaken_iff _ _).1 h),
    enqueue_room _ (numberClaimed number s) rfl (show s.line.queue.length < 8 by omega)]
  show (s.line.queue ++ [_]).length < 8
  simp only [List.length_append, List.length_singleton]
  omega

/-- The REPLY leaves what a seal check has made of its number (R132, R163). -/
theorem AnsweredQuietly.sealChecked {number : Text} {h : Hdr} {s before u t : State} (ha : AnsweredQuietly h s u t)
    (hc : SealChecked number before u) (hroom : ¬ SealTaken number before → u.line.queue.length < 8) :
    SealChecked number before t := by
  obtain ⟨htaken, hfree⟩ := hc
  refine ⟨fun hin => ?_, fun hout => ?_⟩ <;> rw [ha.meter, ha.sealUnit]
  · obtain ⟨hb, hheld, hunit, hnotice⟩ := htaken hin
    exact ⟨hb, hheld, hunit, ha.answered.remembers.notices _ hnotice⟩
  · obtain ⟨hb, hheld, hunit, f, hf, hmsg⟩ := hfree hout
    exact ⟨hb, hheld, hunit, f, ha.queued (hroom hout) f hf, hmsg⟩

/-! ### The commands -/

section Commands

variable {h : Hdr} {s : State}

/-- RETRY_SEAL in SEAL_FAULT is the return to AWAIT_SEAL, answered (R145). -/
theorem exec_retrySeal_fault (hh : Hears s) (hs : FromConsole h) (hdest : ToThis h s ∨ ToGroup h)
    (hb : s.meter.batch = .sealFault) : ∃ t, exec (.retrySeal h []) s = .next t ∧
      AnsweredQuietly h (acked s) (returnToAwaitSeal (acked s)) t := by
  obtain ⟨t, hexec, hanswered⟩ := exec_retrySeal hh hs hdest
  rw [retrySealCommand_retries (s := acked s) hb] at hanswered
  exact ⟨t, hexec, hanswered⟩

/-- Where the return ends with the evaluation, its answer leaves the evaluation (R95, R145). -/
theorem AnsweredQuietly.awaiting {t : State} (h' : AnsweredQuietly h (acked s) (evaluatedAwaiting (acked s)) t) :
    t = { s with line := t.line, cmd := t.cmd, meter := t.meter } ∧
      t.meter = (evaluatedAwaiting (acked s)).meter ∧ t.sealUnit = s.sealUnit ∧ Evaluated t := by
  have hblocks := h'.answered.keeps.blocks
  unfold QueuingOnly at hblocks
  have hunit : t.sealUnit = s.sealUnit := h'.sealUnit
  refine ⟨?_, h'.meter, hunit, evaluated_congr (s := evaluatedAwaiting (acked s)) (by rw [hblocks]) (by rw [hblocks])
    h'.meter (evaluatedAwaiting_stores _)⟩
  rw [hunit] at hblocks
  exact hblocks

/-- The batch that END_BATCH leaves ended, its answer queued (R98). -/
theorem AnsweredQuietly.batchEnded {t : State} (ha : AnsweredQuietly h (acked s) (clearBatch (batchDiscarded (acked s))) t) :
    t.meter = MeterRecord.reset ∧ t.run = ⟨none, Vector.replicate 32 none, .none⟩ ∧ t.plan = s.plan ∧
    t.cmd.setup = s.cmd.setup ∧ t.cmd.mask = s.cmd.mask ∧ t.sealUnit = (batchDiscarded (acked s)).sealUnit ∧
    t.roster = s.roster ∧ t.cmd.series = supersedeAll (batchDiscarded (acked s)).cmd.series ∧
    t.ec = (batchDiscarded (acked s)).ec := by
  have hleaves := batchDiscarded_leaves (acked s)
  obtain ⟨-, -, -, -, -, -, hplan, -, -, hroster, -, -, -, -, -, hsetup, hmask⟩ := hleaves.keeps.fields
  have hkeeps := ha.answered.keeps
  obtain ⟨hrun, hec, -⟩ := hkeeps.runner_eq
  have hblocks := hkeeps.blocks
  unfold QueuingOnly at hblocks
  have hrun' : (clearBatch (batchDiscarded (acked s))).run = ⟨none, Vector.replicate 32 none, .none⟩ :=
    congrArg (fun r => PointRunner.mk r _ _) hleaves.run
  exact ⟨ha.meter, hrun.trans hrun', by rw [hblocks]; exact hplan, hkeeps.setup.trans hsetup, hkeeps.mask.trans hmask,
    ha.sealUnit, by rw [hblocks]; exact hroster, ha.series, hec⟩

end Commands

/-- Settles O52: END_BATCH clears what the withdrawal and the discard leave, and RETRY_SEAL is the return to AWAIT_SEAL. -/
theorem batchEndsAndRetries : Obligations.BatchEndsAndRetries := by
  intro h s hh hs hdest
  refine ⟨fun hb => ?_, fun hb => ?_, fun hb hheld => ?_, fun number hb hheld hroom => ?_, fun hb _ => ?_⟩
  · obtain ⟨t, hexec, hanswered⟩ := exec_endBatch hh hs hdest
    rw [endBatchCommand_ends (s := acked s) hb] at hanswered
    have hleaves := batchDiscarded_leaves (acked s)
    obtain ⟨hmeter, hrun, hplan, hsetup, hmask, hunit, hroster, hseries, hec⟩ := hanswered.batchEnded
    refine ⟨t, hexec, ?_⟩
    rw [hmeter, hrun, hunit, hseries, hec]
    exact ⟨rfl, rfl, rfl, rfl, rfl, rfl, rfl, fun p _ => ⟨slotGet_replicate_none p, slotGet_replicate_none p⟩, rfl, rfl,
      hplan, hsetup, hmask, hleaves.sealUnit.1, hroster, hleaves.sealUnit.2,
      fun hroom => by rw [hleaves.series hroom, supersedeAll_eq]; rfl, hleaves.withdrawn, hleaves.disarmed⟩
  · obtain ⟨t, hexec, hanswered⟩ := exec_endBatch hh hs hdest
    rw [endBatchCommand_busy (s := acked s) hb] at hanswered
    exact ⟨t, hexec, hanswered.refused, hanswered.answered.keeps.setup⟩
  · obtain ⟨t, hexec, hanswered⟩ := exec_retrySeal_fault hh hs hdest hb
    rw [returnToAwaitSeal_not_held (s := acked s) hheld] at hanswered
    obtain ⟨hblocks, hmeter, -, hevaluated⟩ := hanswered.awaiting
    exact ⟨t, hexec, hblocks, by rw [hmeter]; rfl, hevaluated⟩
  · obtain ⟨t, hexec, hanswered⟩ := exec_retrySeal_fault hh hs hdest hb
    have hkeeps := (returnToAwaitSeal_keeps (acked s)).trans hanswered.answered.keeps
    have hrecords := ((returnToAwaitSeal_remembers (acked s)).trans hanswered.answered.remembers).records
    have hblocks := hkeeps.blocks
    unfold QueuingOnly at hblocks
    refine ⟨t, hexec, hrecords, hkeeps.runner_eq.1, by rw [hblocks]; rfl, fun hnot => ?_, fun hex hall => ?_⟩
    · rw [returnToAwaitSeal_waits (s := acked s) (mt (eligible_iff s).1 hnot)] at hanswered
      obtain ⟨-, hmeter, hunit, hevaluated⟩ := hanswered.awaiting
      exact ⟨hevaluated, by rw [hmeter]; exact hheld, hunit⟩
    · have helig : overallVerdict (acked s) = some .eligible := (eligible_iff s).2 ⟨hex, hall⟩
      obtain ⟨hawait, hcheck⟩ := returnToAwaitSeal_checks (s := acked s) helig hheld
      obtain ⟨hchecked, hverdict⟩ := sealCheck_checked hawait (by exact hheld)
        (show (evaluatedAwaiting (acked s)).line.queue.length < 8 from Nat.lt_of_le_of_lt hroom (by decide))
      rw [hcheck] at hanswered
      refine ⟨by rw [hanswered.meter, hverdict]; exact helig, hanswered.sealChecked
        (sealChecked_congr (s' := evaluatedAwaiting (acked s)) rfl rfl hchecked) fun hfree => ?_⟩
      exact sealCheck_free_room (s := evaluatedAwaiting (acked s)) hfree hroom
  · obtain ⟨t, hexec, hanswered⟩ := exec_retrySeal hh hs hdest
    rw [retrySealCommand_refuses (s := acked s) hb] at hanswered
    exact ⟨t, hexec, hanswered.refused⟩

end Sys2Proof.Machine
end

section
/-! SUPPORT. SET_METER: the meter it loads, and what its answer leaves (R90, R91, R163). -/

namespace Sys2Proof.Machine

/-! ### The answer -/

/-- The answer of a command that leaves the station outside CLAIMING reaches neither the meter record nor the seal unit
(R162, R163). -/
theorem ConsoleAnswer.keeps {i : Instr} {k : FrameKind} {h : Hdr} {f : State → State × ReplyCode} {s : State}
    (ha : ConsoleAnswer i k h f s) (hdest : ToThis h s ∨ ToGroup h) (hb : (f (acked s)).1.meter.batch ≠ .claiming) :
    ∃ t, exec i s = .next t ∧ QueuingKeeps (f (acked s)).1 t ∧ t.meter = (f (acked s)).1.meter ∧
      t.sealUnit = (f (acked s)).1.sealUnit := by
  rcases hdest with hthis | hgroup
  · exact ⟨_, ha.toThis hthis, enqueue_keeps _ _, enqueue_of_not_claiming _ hb⟩
  · refine ⟨_, ha.toGroup hgroup, ?_⟩
    split
    · exact ⟨raiseNotice_keeps _ _, raiseNotice_of_not_claiming _ hb⟩
    · exact ⟨.refl _, rfl, rfl⟩

/-- A queuing that leaves the seal unit reaches the line controller, the command handler and the meter record alone. -/
theorem QueuingKeeps.blocks_of_sealUnit {s t : State} (h : QueuingKeeps s t) (hunit : t.sealUnit = s.sealUnit) :
    t = { s with line := t.line, cmd := t.cmd, meter := t.meter, run := t.run } := by
  have hblocks := h.blocks
  unfold QueuingOnly at hblocks
  rw [hunit] at hblocks
  rw [h.runner_eq.1]
  exact hblocks

/-! ### The command -/

theorem validIdentity_iff (t : Text) : validIdentity t = true ↔
    1 ≤ t.length ∧ t.length ≤ 12 ∧ ∀ x ∈ t, 32 ≤ x.toNat ∧ x.toNat ≤ 126 := by
  simp only [validIdentity, printable, Bool.and_eq_true, decide_eq_true_eq, List.all_eq_true, and_assoc]

/-- The station once SET_METER has loaded a meter (R90, R91). -/
def meterLoaded (constant : Nat) (identity : Text) (s : State) : State :=
  { s with
    meter := { s.meter with
      identity := some identity
      constant := some (clampNat 1 (10 ^ 9) constant)
      batch := .loaded
      clock := some (startClock s.fe.now) }
    run := { s.run with slots := if s.meter.batch = .loaded then Vector.replicate 32 none else s.run.slots } }

theorem meterLoaded_slot (constant : Nat) (identity : Text) (s : State) (p : Nat) :
    slotGet (meterLoaded constant identity s).run.slots p =
      if s.meter.batch = .loaded then none else slotGet s.run.slots p := by
  unfold meterLoaded
  dsimp only
  split
  · exact slotGet_replicate_none p
  · rfl

section SetMeter

variable {bs : List Byte} {constant : Nat} {identity : Text} {s : State}

theorem setMeterCommand_loads (hread : readSetMeter bs = some (constant, identity))
    (hvalid : validIdentity identity = true) (hb : s.meter.batch = .idle ∨ s.meter.batch = .loaded) :
    (setMeterCommand bs s).1 = meterLoaded constant identity s := by
  simp only [setMeterCommand, hread, hvalid, Bool.not_true, Bool.false_eq_true, if_false, Bool.or_eq_true,
    decide_eq_true_eq, if_pos hb, meterLoaded]

theorem setMeterCommand_refuses (hread : readSetMeter bs = some (constant, identity))
    (hno : ¬ validIdentity identity = true ∨ ¬ (s.meter.batch = .idle ∨ s.meter.batch = .loaded)) :
    (setMeterCommand bs s).1 = s := by
  simp only [setMeterCommand, hread, Bool.not_eq_true', Bool.or_eq_true, decide_eq_true_eq]
  rcases hno with hvalid | hb
  · rw [if_pos (Bool.not_eq_true _ ▸ hvalid)]
  · rw [if_neg hb]
    split <;> rfl

/-- SET_METER leaves the station outside CLAIMING, so that its answer only queues (R90, R163). -/
theorem exec_setMeter {h : Hdr} (hh : Hears s) (hs : FromConsole h) (hdest : ToThis h s ∨ ToGroup h)
    (hlen : bs.length ≤ 16) (hb : (setMeterCommand bs (acked s)).1.meter.batch ≠ .claiming) :
    ∃ t, exec (.setMeter h bs) s = .next t ∧ QueuingKeeps (setMeterCommand bs (acked s)).1 t ∧
      t.meter = (setMeterCommand bs (acked s)).1.meter ∧ t.sealUnit = (setMeterCommand bs (acked s)).1.sealUnit :=
  (consoleAnswer (k := .setMeter) hh hs hlen rfl rfl rfl).keeps hdest hb

end SetMeter

/-- Settles O49: SET_METER is `meterLoaded` or nothing, and its answer leaves what it does. -/
theorem setMeterLoads : Obligations.SetMeterLoads := by
  intro h bs c identity s hh hs hdest hlen hread hnot ok
  by_cases htaken : ok ∧ (s.meter.batch = .idle ∨ s.meter.batch = .loaded)
  · obtain ⟨hok, hb⟩ := htaken
    have hloads : (setMeterCommand bs (acked s)).1 = meterLoaded c identity (acked s) :=
      setMeterCommand_loads hread ((validIdentity_iff identity).2 hok) hb
    obtain ⟨t, hexec, hkeeps, hmeter, hunit⟩ := exec_setMeter hh hs hdest hlen (by rw [hloads]; simp [meterLoaded])
    rw [hloads] at hkeeps hmeter hunit
    refine ⟨t, hexec, hkeeps.blocks_of_sealUnit hunit, hkeeps.setup, fun hno => ?_, fun _ _ => ⟨hmeter, ?_⟩⟩
    · exact (hno.elim (· hok) fun ⟨hidle, hloaded⟩ => hb.elim hidle hloaded).elim
    · rw [hkeeps.runner_eq.1]
      exact ⟨rfl, rfl, fun p _ => meterLoaded_slot c identity (acked s) p⟩
  · have hkept : (setMeterCommand bs (acked s)).1 = acked s :=
      setMeterCommand_refuses hread (by rw [validIdentity_iff]; exact not_and_or.1 htaken)
    obtain ⟨t, hexec, hkeeps, hmeter, hunit⟩ := exec_setMeter hh hs hdest hlen (by rw [hkept]; exact hnot)
    rw [hkept] at hkeeps hmeter hunit
    exact ⟨t, hexec, hkeeps.blocks_of_sealUnit hunit, hkeeps.setup, fun _ => ⟨hmeter, hkeeps.runner_eq.1⟩,
      fun hok hb => absurd ⟨hok, hb⟩ htaken⟩

end Sys2Proof.Machine
end

section
/-! SUPPORT. The completed stroke: what it records, and the frames it queues (R138, R140, R143). -/

namespace Sys2Proof.Machine

theorem enterLog_eq (number : Text) (log : List Text) : enterLog number log =
    if number ∈ log then log else log.drop (log.length + 1 - 128) ++ [number] := by
  unfold enterLog Config.sealLogCapacity
  simp only [List.any_beq', List.contains_iff_mem]

theorem exec_strokeDoneRise_not_pressing {s : State} (hb : s.meter.batch ≠ .pressing) :
    exec .strokeDoneRise s = .next { s with pins := { s.pins with strokeDone := true } } := by
  refine congrArg Host.Outcome.next ?_
  unfold whenRunning
  split
  · dsimp only
    split
    · next hpressing _ => exact absurd hpressing hb
    · rfl
  · rfl

theorem exec_strokeDoneRise_pressing {c : OwnClaim} {s : State} (hp : s.phase = .running)
    (hb : s.meter.batch = .pressing) (hc : s.sealUnit.current = some c) :
    exec .strokeDoneRise s = .next (completeStroke c { s with pins := { s.pins with strokeDone := true } }) := by
  refine congrArg Host.Outcome.next ((whenRunning_running (by exact hp)).trans ?_)
  simp only [hb, hc]

/-- The seal record, the log and the owed RELEASE of a completed stroke, before its frames are queued (R138, R140). -/
def strokeRecorded (c : OwnClaim) (s : State) : State :=
  { s with
    meter := { s.meter with
      sealRecord := some ⟨c.sealNo, (s.meter.clock.map BatchClock.seconds).getD 0⟩
      held := none }
    sealUnit := { s.sealUnit with
      pressDrive := false
      strokeTimer := none
      log := enterLog c.sealNo s.sealUnit.log
      owed := some ⟨c.number, .done⟩ } }

/-- The frames of a completed stroke (R138, R140). -/
def strokeReported (c : OwnClaim) (s : State) : State :=
  enqueue (.sealed c.sealNo) (enqueue (.release c.number .done) (strokeRecorded c s))

theorem completeStroke_eq (c : OwnClaim) (s : State) : completeStroke c s = { strokeReported c s with
    sealUnit := { (strokeReported c s).sealUnit with current := none }
    meter := { (strokeReported c s).meter with batch := .sealed } } := rfl

/-- Outside CLAIMING no CLAIM that the frames displace is abandoned, so they leave the meter record and the seal unit
(R162). -/
theorem strokeReported_of_not_claiming {c : OwnClaim} {s : State} (hb : s.meter.batch ≠ .claiming) :
    (strokeReported c s).meter = (strokeRecorded c s).meter ∧
      (strokeReported c s).sealUnit = (strokeRecorded c s).sealUnit := by
  obtain ⟨hmeter, hunit⟩ := enqueue_of_not_claiming (.release c.number .done) (s := strokeRecorded c s) hb
  obtain ⟨hmeter', hunit'⟩ := enqueue_of_not_claiming (.sealed c.sealNo)
    (s := enqueue (.release c.number .done) (strokeRecorded c s)) (by rw [hmeter]; exact hb)
  exact ⟨hmeter'.trans hmeter, hunit'.trans hunit⟩

/-- With room for two frames RELEASE and SEALED enter in this order, and nothing is lost (R140, R162). -/
theorem strokeReported_room {c : OwnClaim} {s : State} (hroom : s.line.queue.length ≤ 6) :
    strokeReported c s = { strokeRecorded c s with line := { s.line with queue := s.line.queue ++
      [newFrame s.fe.now (.release c.number .done), newFrame s.fe.now (.sealed c.sealNo)] } } := by
  have hrelease := enqueue_room (.release c.number .done) (strokeRecorded c s) rfl (Nat.lt_of_le_of_lt hroom (by decide))
  rw [strokeReported, hrelease, enqueue_room (.sealed c.sealNo) _ rfl
    (by simp only [strokeRecorded, List.length_append, List.length_singleton, Config.queueCapacity]; omega)]
  simp only [List.append_assoc, List.singleton_append]
  rfl

/-- Settles O35: a rise in PRESSING is `completeStroke`, whose frames leave what `strokeRecorded` writes. -/
theorem strokeCompletes : Obligations.StrokeCompletes := by
  intro s hp
  refine ⟨exec_strokeDoneRise_not_pressing, fun c k hb hc hclock => ⟨_, exec_strokeDoneRise_pressing hp hb hc, ?_⟩⟩
  have hkeeps := completeStroke_keeps c { s with pins := { s.pins with strokeDone := true } }
  obtain ⟨-, -, -, -, -, -, hplan, -, -, hroster, -⟩ := hkeeps.closing.fields
  obtain ⟨hmeter, hunit⟩ := strokeReported_of_not_claiming (c := c)
    (s := { s with pins := { s.pins with strokeDone := true } }) (show s.meter.batch ≠ .claiming by simp [hb])
  refine ⟨?_, ?_, hkeeps.runner_eq.1, hplan, hroster, fun hroom => ?_⟩ <;> rw [completeStroke_eq]
  · rw [hmeter]
    simp only [strokeRecorded, hclock, Option.map_some, Option.getD_some]
  · rw [hunit, ← enterLog_eq]
    rfl
  · rw [strokeReported_room (by exact hroom)]
    exact ⟨rfl, rfl⟩

end Sys2Proof.Machine
end

section
/-! SUPPORT. The rows of the lamp table (R101, R102). -/

namespace Sys2Proof.Machine

/-- The rows of Table 6.4 that the batch state selects, once the rows above them do not hold (R101). -/
def batchModes : BatchState → LampModes
  | .idle => ⟨.off, .off, .off⟩
  | .loaded | .running => ⟨.on, .off, .off⟩
  | .rejected => ⟨.off, .off, .on⟩
  | .awaitSeal | .claiming => ⟨.off, .flashing, .off⟩
  | .pressing | .sealed => ⟨.off, .on, .off⟩
  | .sealFault => ⟨.off, .flashing, .flashing⟩

section LampRows

variable {s : State}

theorem lampModes_held (h : s.phase = .powerOn ∨ s.phase = .pin) : lampModes s = ⟨.off, .off, .off⟩ := by
  rw [lampModes, if_pos (by simpa using h)]

theorem lampModes_barred (hp : s.phase = .running ∨ s.phase = .command)
    (h : validNumber s.line.own = false ∨ s.line.state = .muted) : lampModes s = ⟨.flashing, .off, .flashing⟩ := by
  rw [lampModes, if_neg (by rcases hp with hp | hp <;> simp [hp]), if_pos (by simpa using h)]

theorem lampModes_absent (hp : s.phase = .running ∨ s.phase = .command) (hown : validNumber s.line.own = true)
    (hmuted : s.line.state ≠ .muted) (habsent : s.fe.absent = true) (hrun : s.run.run.isSome = true) :
    lampModes s = ⟨.flashing, .off, .off⟩ := by
  rw [lampModes, if_neg (by rcases hp with hp | hp <;> simp [hp]), if_neg (by simp [hown, hmuted]),
    if_pos (by simp [habsent, hrun])]

theorem lampModes_batch (hp : s.phase = .running ∨ s.phase = .command) (hown : validNumber s.line.own = true)
    (hmuted : s.line.state ≠ .muted) (h : s.fe.absent = false ∨ s.run.run = none) :
    lampModes s = batchModes s.meter.batch := by
  rw [lampModes, if_neg (by rcases hp with hp | hp <;> simp [hp]), if_neg (by simp [hown, hmuted]),
    if_neg (by rcases h with h | h <;> simp [h])]
  rfl

theorem lamps_eq {m : LampModes} (h : lampModes s = m) :
    lamps s = (m.amber.level s.lamp.lit, m.green.level s.lamp.lit, m.red.level s.lamp.lit) := by
  rw [← h]; rfl

/-- The rows of the batch states hold for each batch state they name. -/
theorem lamps_of_batch (h : lampModes s = batchModes s.meter.batch) {b : BatchState} (hb : s.meter.batch = b) :
    lamps s = ((batchModes b).amber.level s.lamp.lit, (batchModes b).green.level s.lamp.lit,
      (batchModes b).red.level s.lamp.lit) := lamps_eq (hb ▸ h)

end LampRows

/-- Settles O29: the rows of `lampModes` in their order, each lit by the lamp clock. -/
theorem lampsShowState : Obligations.LampsShowState := by
  refine fun s => ⟨fun hheld => lamps_eq (lampModes_held hheld), fun hp =>
    ⟨fun hbarred => lamps_eq (lampModes_barred hp hbarred), fun hown hmuted =>
      ⟨fun habsent hrun => lamps_eq (lampModes_absent hp hown hmuted habsent hrun), fun hhere => ?_⟩⟩⟩
  have hbatch {b : BatchState} (hb : s.meter.batch = b) :=
    lamps_of_batch (lampModes_batch hp hown hmuted hhere) hb
  exact ⟨hbatch, (·.elim hbatch hbatch), hbatch, (·.elim hbatch hbatch), (·.elim hbatch hbatch), hbatch⟩

end Sys2Proof.Machine
end

section
/-! SUPPORT. The roster's keys: the roster takes and loses entries by frames of peers and by aging alone, and every other
operation of a step leaves the entries and the own number (R103, R105, R110). -/

namespace Sys2Proof.Machine

/-- What O59 reads of a state. -/
def peerView (s : State) : List RosterEntry × Nat := (s.roster.entries, s.line.own)

/-- What O59 says of a step, as a relation of two states, so that the operations of a step compose. -/
def StaysKeyed (s t : State) : Prop := RosterKeys s → RosterKeys t

namespace StaysKeyed

theorem refl (s : State) : StaysKeyed s s := id

theorem trans {s t u : State} (h : StaysKeyed s t) (k : StaysKeyed t u) : StaysKeyed s u := k ∘ h

theorem of_same {s t : State} (h : peerView t = peerView s) : StaysKeyed s t := by
  obtain ⟨hentries, hown⟩ : t.roster.entries = s.roster.entries ∧ t.line.own = s.line.own := by
    simpa [peerView] using h
  intro hk
  unfold RosterKeys
  rwa [hentries, hown]

end StaysKeyed

theorem ClosingKeeps.peers {s t : State} (h : ClosingKeeps s t) : peerView t = peerView s := by
  obtain ⟨-, -, -, -, -, -, -, -, -, hroster, -, -, -, -, hown, -⟩ := h.fields
  simp only [peerView, hroster, hown]

theorem QueuingKeeps.peers {s t : State} (h : QueuingKeeps s t) : peerView t = peerView s := h.closing.peers

/-! ### Pulse inputs and point runs -/

theorem restoreGrace_peers (s : State) : peerView (restoreGrace s) = peerView s := rfl

theorem countPulse_peers (t : Stamp) (s : State) : peerView (countPulse t s) = peerView s := by
  unfold countPulse
  split
  · rfl
  · split
    · dsimp only
      split
      · exact ((reportProgress_closing _ _ _).trans (completionTest_closing _)).peers.trans (restoreGrace_peers s)
      · rfl
    · rfl

theorem qualify_peers (x : PendingEdge) (s : State) : peerView (qualify x s) = peerView s := by
  rw [qualify_eq_takeMarker]
  exact (countPulse_peers _ _).trans (takeMarker_closing _ _ _).peers

theorem refEdge_peers (s : State) : peerView (refEdge s) = peerView s := by
  unfold refEdge
  split
  · rfl
  · exact (raiseNotice_keeps _ _).peers

theorem mutRise_peers (s : State) : peerView (mutRise s) = peerView s := by
  unfold mutRise
  split
  · split
    · exact qualify_peers _ s
    · rfl
  · rfl

theorem mutFall_peers (s : State) : peerView (mutFall s) = peerView s := by
  unfold mutFall
  split
  · split
    · rfl
    · exact qualify_peers _ s
  · rfl

theorem widthExpiry_peers (s : State) : peerView (widthExpiry s) = peerView s := by
  unfold widthExpiry
  split
  · split
    · exact qualify_peers _ s
    · rfl
  · rfl

theorem graceExpires_peers (s : State) : peerView (graceExpires s) = peerView s := (closeRun_closing _ _).peers

theorem presentFalls_peers (s : State) : peerView (presentFalls s) = peerView s := by
  have hloss (fe : FrontEnd) :
      peerView (scannerLoss (raiseNotice .scannerAbsent { s with fe := fe })) = peerView s :=
    ((raiseNotice_keeps _ _).closing.trans (scannerLoss_closing _)).peers
  unfold presentFalls
  dsimp only
  split
  · exact (graceExpires_peers _).trans (hloss _)
  · exact hloss _

/-- Opening and closing at once leave what the opening of the run leaves (R57, R58). -/
theorem openRun_peers (p r : Nat) (e : PlanEntry) (s : State) : peerView (openRun p r e s) = peerView s := by
  have hbegin : peerView (beginRun p r e s) = peerView s := by rw [beginRun_eq]; rfl
  have hannounce (t : State) : peerView (announceRun e t) = peerView t := by
    unfold announceRun
    split
    · rfl
    · dsimp only
      split
      · exact ((reportProgress_closing _ _ _).trans (reportProgress_closing _ _ _)).peers
      · exact (reportProgress_closing _ _ _).peers
  unfold openRun
  split
  · exact (hannounce _).trans hbegin
  · exact (closeRun_closing _ _).peers.trans hbegin

theorem openOrDecline_peers (p r : Nat) (s : State) : peerView (openOrDecline p r s) = peerView s := by
  rcases openOrDecline_cases p r s with h | h | ⟨e, h⟩ <;> rw [h]
  · exact (queueProgress_keeps _ _ _ _).peers
  · exact openRun_peers p r e s

/-! ### The plan and the cross-check -/

theorem copyEntries_peers (ps : List Nat) (s : State) : peerView (copyEntries ps s) = peerView s :=
  (copyEntries_keeps ps s).peers

theorem markChanged_peers (ps : List Nat) (s : State) : peerView (markChanged ps s) = peerView s := by
  unfold markChanged makeReady
  split
  · rfl
  · split
    · exact copyEntries_peers ps s
    · rfl

theorem stageEntry_peers (p : Nat) (e : PlanEntry) (s : State) : peerView (stageEntry p e s) = peerView s := by
  unfold stageEntry
  split
  · rfl
  · exact markChanged_peers _ _

theorem loadSettled_peers (p r : Nat) (s : State) : peerView (loadSettled p r s) = peerView s :=
  (openOrDecline_peers p r _).trans ((copyEntries_peers _ _).trans (closeRun_closing .forced s).peers)

theorem loadChanging_peers (s : State) : peerView (loadChanging s) = peerView s := (closeRun_closing .forced s).peers

theorem loadOff_peers (s : State) : peerView (loadOff s) = peerView s :=
  (copyEntries_peers _ (closeRun .forced s)).trans (closeRun_closing .forced s).peers

theorem judge_peers (s : State) : peerView (judge s) = peerView s := by
  obtain ⟨_, _, _, h⟩ := judge_closing s
  exact h.peers

theorem earlyJudgment_peers (s : State) : peerView (earlyJudgment s) = peerView s := by
  unfold earlyJudgment
  split
  · split
    · exact judge_peers s
    · rfl
  · rfl

theorem formTally_peers (n : BitVec 16) (l : Latch) (s : State) : peerView (formTally n l s) = peerView s :=
  (earlyJudgment_peers _).trans (enqueue_keeps _ _).peers

theorem takeSync_peers (n : BitVec 16) (s : State) : peerView (takeSync n s) = peerView s := by
  unfold takeSync
  split
  · rfl
  · split
    · rfl
    · split
      · exact (formTally_peers _ _ _).trans (judge_peers s)
      · exact judge_peers s

theorem takeTally_peers (k : Nat) (w : BitVec 16) (n : Nat) (s : State) : peerView (takeTally k w n s) = peerView s := by
  unfold takeTally
  split
  · split
    · rfl
    · exact earlyJudgment_peers _
  · rfl

/-! ### Console commands -/

section Commands

variable (bs : List Byte) (s : State)

theorem setupCommand_peers : peerView (setupCommand bs s).1 = peerView s := by
  unfold setupCommand
  split
  · rfl
  · split <;> rfl

theorem setMeterCommand_peers : peerView (setMeterCommand bs s).1 = peerView s := by
  unfold setMeterCommand
  split
  · rfl
  · split
    · rfl
    · split <;> rfl

theorem planPointCommand_peers : peerView (planPointCommand bs s).1 = peerView s := by
  unfold planPointCommand
  split
  · rfl
  · split
    · rfl
    · split
      · rfl
      · exact stageEntry_peers _ _ s

theorem planLimitsCommand_peers : peerView (planLimitsCommand bs s).1 = peerView s := by
  unfold planLimitsCommand
  split
  · rfl
  · split
    · rfl
    · split
      · rfl
      · split
        · rfl
        · split
          · rfl
          · exact stageEntry_peers _ _ s

theorem planClearCommand_peers : peerView (planClearCommand bs s).1 = peerView s := by
  unfold planClearCommand
  split
  · rfl
  · split
    · split
      · rfl
      · dsimp only
        split
        · rfl
        · exact markChanged_peers _ _
    · rfl

theorem planHoldCommand_peers : peerView (planHoldCommand bs s).1 = peerView s := by
  unfold planHoldCommand
  split <;> rfl

theorem planReleaseCommand_peers : peerView (planReleaseCommand bs s).1 = peerView s := by
  unfold planReleaseCommand makeReady
  split
  · split
    · dsimp only
      split
      · rfl
      · split
        · exact copyEntries_peers _ _
        · rfl
    · rfl
  · rfl

theorem readingCommand_peers : peerView (readingCommand bs s).1 = peerView s := by
  unfold readingCommand
  split
  · rfl
  · split
    · rfl
    · split
      · rfl
      · split
        · rfl
        · split
          · exact (takeAfter_leaves _ _ s).1.peers
          · unfold takeBefore
            split <;> rfl

theorem endBatchCommand_peers : peerView (endBatchCommand bs s).1 = peerView s := by
  unfold endBatchCommand
  split
  · rfl
  · split
    · rfl
    · exact ((withdrawClaim_keeps s).closing.trans (discardRun_closing _)).peers

theorem retrySealCommand_peers : peerView (retrySealCommand bs s).1 = peerView s := by
  unfold retrySealCommand
  split
  · rfl
  · split
    · exact (returnToAwaitSeal_keeps s).peers
    · rfl

theorem clearNoticesCommand_peers : peerView (clearNoticesCommand bs s).1 = peerView s := by
  unfold clearNoticesCommand
  split <;> rfl

theorem noticeMaskCommand_peers : peerView (noticeMaskCommand bs s).1 = peerView s := by
  unfold noticeMaskCommand
  split <;> rfl

theorem reply_peers (k : FrameKind) (code : ReplyCode) : peerView (reply k code s) = peerView s :=
  (enqueue_keeps _ s).peers

/-- The answer of a command leaves what the command leaves (R163). -/
theorem command_peers {k : FrameKind} {dest : Nat} {f : State → State × ReplyCode} {s : State}
    (h : peerView (f s).1 = peerView s) : peerView (command k dest f s) = peerView s := by
  unfold command groupAnswer
  split
  · exact (reply_peers _ k _).trans h
  · split
    · exact (raiseNotice_keeps _ _).peers.trans h
    · exact h
  · rfl

theorem takeQuery_peers (dest : Nat) : peerView (takeQuery dest bs s) = peerView s := by
  unfold takeQuery
  split
  · split
    · dsimp only
      split
      · exact (enqueue_keeps _ _).peers
      · exact reply_peers _ _ _
    · exact reply_peers s _ _
  all_goals rfl

theorem takeRestart_peers (dest : Nat) : peerView (takeRestart dest bs s) = peerView s := by
  unfold takeRestart
  split
  · split
    · rfl
    · exact reply_peers s _ _
  all_goals rfl

end Commands

/-! ### The bench line -/

theorem emptyQueue_peers (st : LineState) (s : State) : peerView (emptyQueue st s) = peerView s := by
  unfold emptyQueue
  dsimp only
  split
  · rfl
  · exact (raiseTxDropped_keeps _).peers

theorem enterLineOff_peers (s : State) : peerView (enterLineOff s) = peerView s :=
  (abandonOffLine_keeps _).peers.trans (emptyQueue_peers _ _)

theorem enterMuted_peers (s : State) : peerView (enterMuted s) = peerView s := by
  unfold enterMuted
  split
  · rfl
  · exact ((raiseNotice_keeps _ _).trans (abandonOffLine_keeps _)).peers.trans (emptyQueue_peers _ _)

theorem returnOnLine_peers (s : State) : peerView (returnOnLine s) = peerView s :=
  (requeueOwed_keeps _).peers.trans (queueJoin_keeps .lineReturn _).peers

theorem countGood_peers (s : State) : peerView (countGood s) = peerView s := by
  unfold countGood
  split
  · split
    · exact returnOnLine_peers s
    · rfl
  · rfl

theorem beginAttempt_peers (s : State) : peerView (beginAttempt s) = peerView s := by
  unfold beginAttempt
  split
  · split <;> rfl
  · rfl

theorem partSent_peers (s : State) : peerView (partSent s) = peerView s := by
  unfold partSent
  split
  · rfl
  · split
    · split <;> exact (enqueue_keeps _ _).peers
    · rfl

theorem tellSent_peers (m : TxMsg) (s : State) : peerView (tellSent m s) = peerView s := by
  unfold tellSent
  split
  · exact (ownClaimSent_keeps _ s).peers
  · exact (ownReleaseSent_keeps _ s).peers
  · split
    · exact partSent_peers s
    · rfl
  · rfl

theorem succeed_peers (f : TxFrame) (s : State) : peerView (succeed f s) = peerView s :=
  ((releaseWaiting_keeps _).trans (requeueOwed_keeps _)).peers.trans (tellSent_peers f.msg _)

theorem fail_peers (f : TxFrame) (s : State) : peerView (fail f s) = peerView s := by
  have hoff (t : State) (h : peerView t = peerView s) : peerView
      (if Config.lineOffTally ≤ t.line.faultTally && t.line.state = .onLine then enterLineOff t else t) =
        peerView s := by
    split
    · exact (enterLineOff_peers t).trans h
    · exact h
  unfold fail
  dsimp only
  refine hoff _ ?_
  split
  · exact ((releaseWaiting_keeps _).trans (frameLost_keeps _ _)).peers
  · exact (releaseWaiting_keeps _).peers

/-! ### The seal reader -/

theorem deliverSeal_peers (number : Text) (s : State) : peerView (deliverSeal number s) = peerView s := by
  unfold deliverSeal
  split
  case h_3 => exact (sealCheck_keeps _ _).peers
  all_goals rfl

theorem takeSealChar_peers (code : Byte) (framingError : Bool) (s : State) :
    peerView (takeSealChar code framingError s) = peerView s := by
  unfold takeSealChar endSealLine
  split
  · dsimp only
    split
    · exact deliverSeal_peers _ _
    · exact (raiseNotice_keeps _ _).peers
  · rfl

/-! ### The roster -/

/-- The stations of the roster, one for each entry. -/
def stations (es : List RosterEntry) : List Nat := es.map RosterEntry.station

/-- Whether a roster is well keyed is said by its stations alone (R103). -/
theorem rosterKeys_iff (s : State) : RosterKeys s ↔ (stations s.roster.entries).Nodup ∧
    ∀ k ∈ stations s.roster.entries, 1 ≤ k ∧ k ≤ 60 ∧ k ≠ s.line.own := by
  unfold RosterKeys stations
  rw [List.forall_mem_map]

theorem mem_stations_iff {k : Nat} {es : List RosterEntry} :
    (es.any fun e => e.station == k) = true ↔ k ∈ stations es := by
  simp [stations]

/-- A station enters once (R105). -/
theorem stations_withPeer (k : Nat) (es : List RosterEntry) :
    stations (withPeer k es) = if k ∈ stations es then stations es else stations es ++ [k] := by
  unfold withPeer
  simp only [mem_stations_iff]
  split
  · rfl
  · simp [stations, newPeer]

/-- An update of a station's entry that keeps its station leaves the stations, the new one apart (R105). -/
theorem stations_hearPeer (k : Nat) {f : RosterEntry → RosterEntry} (hf : ∀ e, (f e).station = e.station)
    (es : List RosterEntry) : stations (hearPeer k f es) = stations (withPeer k es) := by
  unfold hearPeer stations
  rw [List.map_map]
  refine List.map_congr_left fun e _ => ?_
  simp only [Function.comp]
  split
  · exact hf e
  · rfl

theorem roleOf_position_iff (k : Nat) : roleOf k = .position ↔ 1 ≤ k ∧ k ≤ 60 := by
  unfold roleOf
  split
  · simp; omega
  · split <;> simp <;> omega

theorem rosterTakes_keyed (k : Nat) {f : RosterEntry → RosterEntry} (hf : ∀ e, (f e).station = e.station) (s : State) :
    StaysKeyed s (rosterTakes k f s) := by
  unfold rosterTakes
  split
  · next hpeer =>
    simp only [Bool.and_eq_true, decide_eq_true_eq, bne_iff_ne, roleOf_position_iff] at hpeer
    obtain ⟨⟨hlow, hhigh⟩, hown⟩ := hpeer
    simp only [StaysKeyed, rosterKeys_iff, stations_hearPeer k hf, stations_withPeer]
    rintro ⟨hnodup, hkeys⟩
    split
    · exact ⟨hnodup, hkeys⟩
    · next hnew =>
      refine ⟨List.nodup_append.2 ⟨hnodup, List.nodup_singleton k, ?_⟩, fun j hj => ?_⟩
      · rintro a ha b hb rfl
        exact hnew (List.mem_singleton.1 hb ▸ ha)
      · rcases List.mem_append.1 hj with hj | hj
        · exact hkeys j hj
        · rw [List.mem_singleton.1 hj]
          exact ⟨hlow, hhigh, hown⟩
  · exact .refl s

theorem rosterMarks_keyed (k : Nat) (s : State) : StaysKeyed s (rosterMarks k s) := rosterTakes_keyed k (fun _ => rfl) s

/-- Aging takes entries out of the roster (R110). -/
theorem stations_agedEntries (es : List RosterEntry) : (stations (agedEntries es)).Sublist (stations es) := by
  have hshift : stations (agedEntries es) = stations (es.filter survives) := by
    unfold agedEntries stations
    rw [List.map_map]
    rfl
  rw [hshift]
  exact List.Sublist.map _ List.filter_sublist

/-- What an aging expiry does after the roster has lost its entries leaves the roster (R110, R111). -/
theorem ageRoster_peers (s : State) :
    peerView (ageRoster s) = (agedEntries s.roster.entries, s.line.own) := by
  have hlost (b : Bool) (t : State) : QueuingKeeps t (if b then raiseNotice .peerLost t else t) := by
    cases b
    · exact .refl t
    · exact raiseNotice_keeps _ t
  unfold ageRoster
  dsimp only
  split
  · rfl
  · exact (completionTest_closing _).peers.trans ((earlyJudgment_peers _).trans
      ((hlost _ _).trans (removeClaims_keeps _ _)).peers)

theorem ageRoster_keyed (s : State) : StaysKeyed s (ageRoster s) := by
  obtain ⟨hentries, hown⟩ := Prod.mk.inj (ageRoster_peers s)
  simp only [StaysKeyed, rosterKeys_iff, hentries, hown]
  exact fun ⟨hnodup, hkeys⟩ => ⟨(stations_agedEntries _).nodup hnodup,
    fun k hk => hkeys k ((stations_agedEntries _).subset hk)⟩

theorem takeJoin_keyed (k : Nat) (c : JoinCause) (b : BatchState) (s : State) : StaysKeyed s (takeJoin k c b s) := by
  have hstatus (t : State) : QueuingKeeps t (if t.line.state = .onLine then enqueue (.status none) t else t) := by
    split
    · exact enqueue_keeps _ t
    · exact .refl t
  have hclaim (t : State) : QueuingKeeps t (if c = .lineReturn then t else removeClaims [k] t) := by
    split
    · exact .refl t
    · exact removeClaims_keeps _ t
  exact (rosterTakes_keyed k (f := fun e => { e with batch := some b, progress := none }) (fun _ => rfl) s).trans
    (.of_same ((completionTest_closing _).peers.trans ((hstatus _).trans (hclaim _)).peers))

/-- A report updates the sender's entry, and the completion test leaves the roster (R107 to R109). -/
theorem report_keyed (k : Nat) {f : RosterEntry → RosterEntry} (hf : ∀ e, (f e).station = e.station) (s : State) :
    StaysKeyed s (completionTest (rosterTakes k f s)) :=
  (rosterTakes_keyed k hf s).trans (.of_same (completionTest_closing _).peers)

theorem takeStatus_keyed (k : Nat) (b : BatchState) (x : Option (Nat × Nat × Progress)) (s : State) :
    StaysKeyed s (takeStatus k b x s) := by
  unfold takeStatus
  split
  · exact report_keyed k (by exact fun _ => rfl) s
  · split
    · exact report_keyed k (by exact fun _ => rfl) s
    · exact rosterMarks_keyed k s

theorem takeProgress_keyed (k p r : Nat) (v : Progress) (b : BatchState) (s : State) :
    StaysKeyed s (takeProgress k p r v b s) := by
  unfold takeProgress
  split
  · exact report_keyed k (by exact fun _ => rfl) s
  · exact rosterMarks_keyed k s

theorem takePointResult_keyed (k p r : Nat) (s : State) : StaysKeyed s (takePointResult k p r s) := by
  unfold takePointResult
  split
  · exact report_keyed k (by exact fun _ => rfl) s
  · exact rosterMarks_keyed k s

/-! ### Accepted frames -/

theorem deliver_keyed (k : FrameKind) (h : Hdr) (bs : List Byte) (s : State) : StaysKeyed s (deliver k h bs s) := by
  have hmarks {t : State} (ht : peerView t = peerView (rosterMarks h.sender.toNat s)) : StaysKeyed s t :=
    (rosterMarks_keyed _ s).trans (.of_same ht)
  cases k
  case loadSettled => dsimp only [deliver]; split; exacts [.of_same (loadSettled_peers _ _ s), .refl s]
  case loadChanging => exact .of_same (loadChanging_peers s)
  case loadOff => exact .of_same (loadOff_peers s)
  case sync => dsimp only [deliver]; split; exacts [.of_same (takeSync_peers _ s), .refl s]
  case setup => exact .of_same (command_peers (setupCommand_peers bs s))
  case setMeter => exact .of_same (command_peers (setMeterCommand_peers bs s))
  case planPoint => exact .of_same (command_peers (planPointCommand_peers bs s))
  case planLimits => exact .of_same (command_peers (planLimitsCommand_peers bs s))
  case planClear => exact .of_same (command_peers (planClearCommand_peers bs s))
  case planHold => exact .of_same (command_peers (planHoldCommand_peers bs s))
  case planRelease => exact .of_same (command_peers (planReleaseCommand_peers bs s))
  case reading => exact .of_same (command_peers (readingCommand_peers bs s))
  case query => exact .of_same (takeQuery_peers bs s _)
  case endBatch => exact .of_same (command_peers (endBatchCommand_peers bs s))
  case retrySeal => exact .of_same (command_peers (retrySealCommand_peers bs s))
  case clearNotices => exact .of_same (command_peers (clearNoticesCommand_peers bs s))
  case noticeMask => exact .of_same (command_peers (noticeMaskCommand_peers bs s))
  case restart => exact .of_same (takeRestart_peers bs s _)
  case join => dsimp only [deliver]; split; exacts [takeJoin_keyed _ _ _ s, .refl s]
  case status => dsimp only [deliver]; split; exacts [takeStatus_keyed _ _ _ s, .refl s]
  case progress => dsimp only [deliver]; split; exacts [takeProgress_keyed _ _ _ _ _ s, .refl s]
  case pointResult => dsimp only [deliver]; split; exacts [takePointResult_keyed _ _ _ s, .refl s]
  case tally => dsimp only [deliver]; split; exacts [hmarks (takeTally_peers _ _ _ _), .refl s]
  case claim => dsimp only [deliver]; split; exacts [hmarks (takeClaim_keeps _ _ _ _).peers, .refl s]
  case release => dsimp only [deliver]; split; exacts [hmarks (takeRelease_keeps _ _ _).peers, .refl s]
  case sealed => exact hmarks (takeSealed_keeps bs _).peers
  case measurement | notice | reply | detail => exact rosterMarks_keyed _ s

theorem receive_keyed (f : RxFrame) (s : State) : StaysKeyed s (receive f s) := by
  have hfilter (t : State) : StaysKeyed t (filtered f t) := by
    unfold filtered
    split
    · exact .refl t
    · exact .refl t
    · exact .of_same (enterMuted_peers t)
    · exact rosterMarks_keyed _ t
    · exact deliver_keyed _ _ _ t
  unfold receive
  split
  · exact .refl s
  · exact (StaysKeyed.of_same (countGood_peers (driveAs .acknowledgeSlot s))).trans (hfilter _)

/-! ### Every command -/

theorem whenRunning_keyed {f : State → State} {s : State} (h : StaysKeyed s (f s)) :
    StaysKeyed s (whenRunning f s) := by
  unfold whenRunning
  split
  · exact h
  · exact .refl s

theorem whenDue_keyed {timer : State → Option Stamp} {f : State → State} {s : State} (h : StaysKeyed s (f s)) :
    StaysKeyed s (whenDue timer f s) := by
  refine whenRunning_keyed ?_
  split
  · exact h
  · exact .refl s

theorem receiveKind_keyed (k : FrameKind) (h : Hdr) (bs : List Byte) (s : State) :
    StaysKeyed s (receiveKind k h bs s) := whenRunning_keyed (receive_keyed _ s)

/-- After a reset the roster is empty (R104). -/
theorem resetBlocks_keyed (p : Phase) (straps : BitVec 6) (present midFrame : Bool) (s : State) :
    StaysKeyed s (resetBlocks p straps present midFrame s) :=
  fun _ => ⟨List.nodup_nil, fun _ h => (List.not_mem_nil h).elim⟩

theorem next_keyed {s t u : State} (h : (.next u : Host.Outcome State Fault Refusal) = .next t)
    (hs : StaysKeyed s u) : StaysKeyed s t := by
  cases h; exact hs

/-- Every command keeps the roster keyed. -/
theorem exec_keyed {i : Instr} {s t : State} (h : exec i s = .next t) : StaysKeyed s t := by
  cases i
  case powerOnReset => exact next_keyed h (.of_same (by rfl))
  case pinReset =>
    refine next_keyed h ?_
    split
    · exact .refl s
    · exact .of_same (by rfl)
  case resetEnd =>
    refine next_keyed h ?_
    split
    · exact .refl s
    · split
      · exact resetBlocks_keyed _ _ _ _ s
      · exact (resetBlocks_keyed _ _ _ _ s).trans (.of_same (raiseNotice_keeps _ _).peers)
  case refRisingEdge => exact next_keyed h (whenRunning_keyed (.of_same (refEdge_peers s)))
  case mutRisingEdge =>
    exact next_keyed h (whenRunning_keyed (s := { s with pins := { s.pins with mutHigh := true } })
      (.of_same (mutRise_peers _)))
  case mutFallingEdge =>
    exact next_keyed h (whenRunning_keyed (s := { s with pins := { s.pins with mutHigh := false } })
      (.of_same (mutFall_peers _)))
  case widthTimerExpiry => exact next_keyed h (whenDue_keyed (.of_same (widthExpiry_peers s)))
  case delayedGateEvaluation => exact next_keyed h (whenDue_keyed (.of_same (evaluateGate_closing s).peers))
  case intervalTimerExpiry | batchClockTick | lampClockTick => exact next_keyed h (whenDue_keyed (.of_same (by rfl)))
  case frameDiscard | stuffingViolation | lineIdle => exact next_keyed h (whenRunning_keyed (.of_same (by rfl)))
  case presentFall =>
    refine next_keyed h ?_
    split
    · exact whenRunning_keyed (s := { s with pins := { s.pins with present := false } }) (.of_same (presentFalls_peers _))
    · exact .refl s
  case presentRise =>
    refine next_keyed h ?_
    split
    · exact .refl s
    · exact whenRunning_keyed (s := { s with pins := { s.pins with present := true } }) (.of_same (by rfl))
  case graceExpiry =>
    exact next_keyed h ((whenRunning_keyed (.of_same (by rfl))).trans (whenDue_keyed (.of_same (graceExpires_peers _))))
  case pointTimerExpiry => exact next_keyed h (whenDue_keyed (.of_same (closeRun_closing _ s).peers))
  case joinReceived level | claimReceived level | releaseReceived level =>
    exact next_keyed h (receiveKind_keyed _ _ _ (withStrokeDone level s))
  case duplicateNumberFrame | frameFiltered => exact next_keyed h (whenRunning_keyed (receive_keyed _ s))
  case agingExpiry level => exact next_keyed h (whenDue_keyed (ageRoster_keyed (withStrokeDone level s)))
  case heartbeatExpiry =>
    refine next_keyed h (whenDue_keyed ?_)
    split
    · exact .of_same (enqueue_keeps _ s).peers
    · exact .refl s
  case listenTimerExpiry =>
    refine next_keyed h (whenDue_keyed ?_)
    split
    · exact .of_same (queueJoin_keeps s.line.resetCause s).peers
    · exact .refl s
  case transmissionAttempt => exact next_keyed h (whenRunning_keyed (.of_same (beginAttempt_peers s)))
  case lostArbitration =>
    refine next_keyed h (whenRunning_keyed ?_)
    split
    · exact .of_same (releaseWaiting_keeps _).peers
    · exact .refl s
  case attemptSuccess level =>
    refine next_keyed h (whenRunning_keyed (s := withStrokeDone level s) ?_)
    split
    · exact .of_same (succeed_peers _ _)
    · exact .refl _
  case attemptFailure =>
    refine next_keyed h (whenRunning_keyed ?_)
    split
    · exact .of_same (fail_peers _ s)
    · exact .refl s
  case lineOffEntry =>
    refine next_keyed h (whenRunning_keyed ?_)
    split
    · exact .of_same (enterLineOff_peers s)
    · exact .refl s
  case lineReturn =>
    refine next_keyed h (whenRunning_keyed ?_)
    split
    · exact .of_same (returnOnLine_peers s)
    · exact .refl s
  case sealInCharacter =>
    refine next_keyed h (whenRunning_keyed ?_)
    split
    · exact .of_same (takeSealChar_peers _ _ _)
    · exact .refl s
  case sealInTimeout =>
    refine next_keyed h (whenDue_keyed ?_)
    split
    · exact .refl s
    · exact .of_same (raiseNotice_keeps _ _).peers
  case strokeDoneRise =>
    refine next_keyed h (whenRunning_keyed (s := { s with pins := { s.pins with strokeDone := true } }) ?_)
    split
    · exact .of_same (completeStroke_keeps _ _).peers
    · exact .refl _
  case strokeTimerExpiry =>
    refine next_keyed h (whenDue_keyed ?_)
    split
    · exact .of_same (failStroke_keeps _ s).peers
    · exact .refl s
  all_goals exact next_keyed h (receiveKind_keyed _ _ _ s)

theorem tick_peers (s : State) : peerView (tick s) = peerView s := by
  unfold tick
  split <;> rfl

/-- Settles O59: of the operations of a step the roster's own and the resets alone move its keys, and both keep them. -/
theorem rosterStaysKeyed : Obligations.RosterStaysKeyed := by
  intro s t hkeys hstep
  unfold step at hstep
  split at hstep
  · exact next_keyed hstep (.of_same (tick_peers s)) hkeys
  · next c rest _ => exact exec_keyed hstep (s := { s with pending := rest }) hkeys

end Sys2Proof.Machine
end

section
/-! SUPPORT. The head of the transmit queue and the attempt that takes it (R152, R160). -/

namespace Sys2Proof.Machine

/-! ### The head of the queue -/

/-- The class and the index of the frame that entered first among those of the most urgent class (R160). -/
def mostUrgent (q : List TxFrame) : Option (Nat × Nat) :=
  q.zipIdx.foldl (fun best x =>
    if best.all fun b => decide (x.1.msg.cls < b.1) then some (x.1.msg.cls, x.2) else best) none

theorem mostUrgent_append (q : List TxFrame) (f : TxFrame) : mostUrgent (q ++ [f]) =
    if (mostUrgent q).all fun b => decide (f.msg.cls < b.1) then some (f.msg.cls, q.length) else mostUrgent q := by
  unfold mostUrgent
  rw [List.zipIdx_append, List.foldl_append, Nat.zero_add]
  rfl

/-- The index names a frame that no other is more urgent than, and none before it as urgent. -/
structure FirstOfLeast (q : List TxFrame) (c i : Nat) : Prop where
  found : ∃ f, q[i]? = some f ∧ f.msg.cls = c
  least : ∀ g ∈ q, c ≤ g.msg.cls
  first : ∀ j g, j < i → q[j]? = some g → c < g.msg.cls

theorem FirstOfLeast.lt {q : List TxFrame} {c i : Nat} (h : FirstOfLeast q c i) : i < q.length := by
  obtain ⟨f, hf, -⟩ := h.found
  exact (List.getElem?_eq_some_iff.1 hf).1

theorem FirstOfLeast.append_stays {q : List TxFrame} {c i : Nat} {f : TxFrame} (h : FirstOfLeast q c i)
    (hf : c ≤ f.msg.cls) : FirstOfLeast (q ++ [f]) c i := by
  have hi := h.lt
  refine ⟨?_, fun g hg => ?_, fun j g hj hg => h.first j g hj ?_⟩
  · rw [List.getElem?_append_left hi]
    exact h.found
  · rcases List.mem_append.1 hg with hg | hg
    · exact h.least g hg
    · rwa [List.mem_singleton.1 hg]
  · rwa [List.getElem?_append_left (hj.trans hi)] at hg

theorem firstOfLeast_append_new {q : List TxFrame} {f : TxFrame} (h : ∀ g ∈ q, f.msg.cls < g.msg.cls) :
    FirstOfLeast (q ++ [f]) f.msg.cls q.length := by
  refine ⟨⟨f, by simp, rfl⟩, fun g hg => ?_, fun j g hj hg => h g ?_⟩
  · rcases List.mem_append.1 hg with hg | hg
    · exact (h g hg).le
    · rw [List.mem_singleton.1 hg]
  · rw [List.getElem?_append_left hj] at hg
    exact List.mem_of_getElem? hg

/-- Every queue but the empty one has a most urgent frame, the first of its class (R160). -/
theorem mostUrgent_spec (q : List TxFrame) : (q = [] ∧ mostUrgent q = none) ∨
    ∃ c i, mostUrgent q = some (c, i) ∧ FirstOfLeast q c i := by
  induction q using List.reverseRecOn with
  | nil => exact .inl ⟨rfl, rfl⟩
  | append_singleton q f ih =>
    refine .inr ?_
    rw [mostUrgent_append]
    rcases ih with ⟨rfl, hnone⟩ | ⟨c, i, hsome, hleast⟩
    · rw [hnone]
      exact ⟨_, _, rfl, firstOfLeast_append_new (by simp)⟩
    · rw [hsome]
      by_cases hless : f.msg.cls < c
      · rw [if_pos (by simpa using hless)]
        exact ⟨_, _, rfl, firstOfLeast_append_new fun g hg => hless.trans_le (hleast.least g hg)⟩
      · rw [if_neg (by simpa using hless)]
        exact ⟨_, _, rfl, hleast.append_stays (Nat.le_of_not_lt hless)⟩

theorem headOf_eq (q : List TxFrame) : headOf q = match q.findIdx? fun f => f.msg.kind == .join with
    | some i => some i
    | none => (mostUrgent q).map Prod.snd := rfl

/-- The frame f at index i is the one that the next attempt takes (R160). -/
def IsHead (q : List TxFrame) (i : Nat) (f : TxFrame) : Prop :=
  q[i]? = some f ∧
    ((f.msg.kind = .join ∧ ∀ j g, j < i → q[j]? = some g → g.msg.kind ≠ .join) ∨
      ((∀ g ∈ q, g.msg.kind ≠ .join ∧ f.msg.cls ≤ g.msg.cls) ∧
        ∀ j g, j < i → q[j]? = some g → f.msg.cls < g.msg.cls))

theorem headOf_nil : headOf [] = none := rfl

/-- Every queue but the empty one has a head (R160). -/
theorem headOf_isHead {q : List TxFrame} (hq : q ≠ []) : ∃ i f, headOf q = some i ∧ IsHead q i f := by
  rw [headOf_eq]
  cases hfind : q.findIdx? fun f => f.msg.kind == .join with
  | some i =>
    obtain ⟨hi, hjoin, hbefore⟩ := List.findIdx?_eq_some_iff_getElem.1 hfind
    refine ⟨i, q[i], rfl, List.getElem?_eq_getElem hi, .inl ⟨by simpa using hjoin, fun j g hj hg => ?_⟩⟩
    obtain ⟨hlt, rfl⟩ := List.getElem?_eq_some_iff.1 hg
    simpa using hbefore j hj
  | none =>
    have hnone := List.findIdx?_eq_none_iff.1 hfind
    rcases mostUrgent_spec q with ⟨hnil, -⟩ | ⟨c, i, hsome, hleast⟩
    · exact absurd hnil hq
    · obtain ⟨f, hf, rfl⟩ := hleast.found
      exact ⟨i, f, by rw [hsome]; rfl, hf,
        .inr ⟨fun g hg => ⟨by simpa using hnone g hg, hleast.least g hg⟩, hleast.first⟩⟩

/-! ### The attempt -/

theorem exec_transmissionAttempt {s : State} (hp : s.phase = .running) :
    exec .transmissionAttempt s = .next (beginAttempt s) := congrArg Host.Outcome.next (whenRunning_running hp)

theorem attempting_iff {q : List TxFrame} : attempting q = true ↔ ∃ f ∈ q, f.sending = true := by
  simp [attempting]

/-- Off line, on a busy line, during an attempt and with nothing queued no attempt begins (R152). -/
theorem beginAttempt_none {s : State} (h : s.line.state ≠ .onLine ∨ s.line.idle = false ∨
    s.line.awaitingIdle = true ∨ (∃ f ∈ s.line.queue, f.sending = true) ∨ s.line.queue = []) : beginAttempt s = s := by
  unfold beginAttempt
  split
  · next hguard =>
    simp only [Bool.and_eq_true, decide_eq_true_eq, Bool.not_eq_true', ← attempting_iff] at hguard h
    obtain ⟨⟨⟨hon, hidle⟩, hawait⟩, hsend⟩ := hguard
    rcases h with h | h | h | h | h
    · exact absurd hon h
    · simp [hidle] at h
    · simp [hawait] at h
    · simp [hsend] at h
    · rw [h, headOf_nil]
  · rfl

/-- On an idle line the head of the queue is under attempt, filled (R152, R160). -/
theorem beginAttempt_takes {s : State} {i : Nat} {f : TxFrame} (hon : s.line.state = .onLine)
    (hidle : s.line.idle = true) (hawait : s.line.awaitingIdle = false)
    (hsend : ∀ f ∈ s.line.queue, f.sending = false) (hhead : headOf s.line.queue = some i)
    (hf : s.line.queue[i]? = some f) : beginAttempt s = { s with line := { s.line with
      idle := false
      queue := s.line.queue.set i { f with msg := fillMsg s f.msg, sending := true } } } := by
  have hnone : attempting s.line.queue = false := by
    rw [← Bool.not_eq_true, attempting_iff]
    rintro ⟨f, hf, h⟩
    simp [hsend f hf] at h
  unfold beginAttempt
  rw [if_pos (by simp [hon, hidle, hawait, hnone]), hhead]
  dsimp only
  rw [List.modify_eq_set_getElem?, hf]
  rfl

/-- Settles O39: the head of the queue is a JOIN or the first of the most urgent class, and `beginAttempt` fills it. -/
theorem attemptTakesHead : Obligations.AttemptTakesHead := by
  intro s hp
  rw [exec_transmissionAttempt hp]
  refine ⟨fun h => by rw [beginAttempt_none h], fun hon hidle hawait hsend hq => ?_⟩
  obtain ⟨i, f, hhead, hf, hfirst⟩ := headOf_isHead hq
  refine ⟨i, f, fillMsg s f.msg, hf, by rw [beginAttempt_takes hon hidle hawait hsend hhead hf], hfirst,
    fun c b hmsg => by rw [hmsg]; rfl, fun x hmsg => by rw [hmsg]; rfl, fun hjoin hstatus => ?_⟩
  cases hmsg : f.msg <;> rw [hmsg] at hjoin hstatus
  case join => exact absurd rfl hjoin
  case status => exact absurd rfl hstatus
  all_goals rfl

end Sys2Proof.Machine
end

section
/-! SUPPORT. What the queuing of one frame does to the queue: it enters, takes the place of its kind, waits beside, or is
lost, and a lost frame is the new one or a less urgent one (R160 to R162). -/

namespace Sys2Proof.Machine

/-! ### Where a queued frame goes -/

/-- Where none of its kind is queued, or its kind does not coalesce, a frame enters by the room there is (R161, R162). -/
theorem queueFrame_new (now : Stamp) {m : TxMsg} {l : LineController}
    (hnew : coalesces m.kind = true → ∀ f ∈ l.queue, f.msg.kind ≠ m.kind) : queueFrame now m l = admitFrame now m l := by
  refine if_neg ?_
  rw [Bool.and_eq_true, List.any_eq_true]
  rintro ⟨hc, f, hf, hk⟩
  exact hnew hc f hf (beq_iff_eq.1 hk)

/-- Such a frame enters a queue with room at its end (R162). -/
theorem queueFrame_enters (now : Stamp) {m : TxMsg} {l : LineController}
    (hnew : coalesces m.kind = true → ∀ f ∈ l.queue, f.msg.kind ≠ m.kind)
    (hroom : l.queue.length < Config.queueCapacity) :
    queueFrame now m l = ({ l with queue := l.queue ++ [newFrame now m] }, none) :=
  (queueFrame_new now hnew).trans (if_pos hroom)

/-- A frame of a kind that coalesces takes the place of the queued one (R161). -/
theorem queueFrame_replaces (now : Stamp) {m : TxMsg} {l : LineController} (hc : coalesces m.kind = true)
    (hold : ∃ f ∈ l.queue, f.msg.kind = m.kind) (hidle : ∀ f ∈ l.queue, f.msg.kind = m.kind → f.sending = false) :
    queueFrame now m l = ({ l with
      queue := l.queue.map fun f => if f.msg.kind = m.kind then { f with msg := m } else f }, none) := by
  have hany : (l.queue.any fun f => f.msg.kind == m.kind) = true := by simpa [List.any_eq_true] using hold
  have hsend : (l.queue.any fun f => f.msg.kind == m.kind && f.sending) = false := by
    rw [← Bool.not_eq_true, List.any_eq_true]
    rintro ⟨f, hf, h⟩
    simp only [Bool.and_eq_true, beq_iff_eq] at h
    simp [hidle f hf h.1] at h
  simp [queueFrame, hc, hany, hsend]

/-- While a frame of its kind is under attempt, a frame that coalesces waits beside the queue (R161). -/
theorem queueFrame_waits (now : Stamp) {m : TxMsg} {l : LineController} (hc : coalesces m.kind = true)
    (hsend : ∃ f ∈ l.queue, f.msg.kind = m.kind ∧ f.sending = true) : queueFrame now m l = (waitBeside m l, none) := by
  obtain ⟨f, hf, hk, hs⟩ := hsend
  have hany : (l.queue.any fun f => f.msg.kind == m.kind) = true := List.any_eq_true.2 ⟨f, hf, by simp [hk]⟩
  have hsend : (l.queue.any fun f => f.msg.kind == m.kind && f.sending) = true :=
    List.any_eq_true.2 ⟨f, hf, by simp [hk, hs]⟩
  simp [queueFrame, hc, hany, hsend]

/-- A queuing that loses no frame reaches the line controller alone. -/
theorem enqueue_of_kept {m : TxMsg} {s : State} {l : LineController} (h : queueFrame s.fe.now m s.line = (l, none)) :
    enqueue m s = { s with line := l } := by
  simp only [enqueue, h]

/-- A frame enters a queue with room at its end, where none of a kind that coalesces is queued (R161, R162). -/
theorem enqueue_enters (m : TxMsg) (s : State)
    (hnew : coalesces m.kind = true → ∀ f ∈ s.line.queue, f.msg.kind ≠ m.kind)
    (hroom : s.line.queue.length < Config.queueCapacity) :
    enqueue m s = { s with line := { s.line with queue := s.line.queue ++ [newFrame s.fe.now m] } } :=
  enqueue_of_kept (queueFrame_enters s.fe.now hnew hroom)

theorem victim_none {c : Nat} {q : List TxFrame} (h : ∀ f ∈ q, f.msg.cls ≤ c) : victim c q = none := by
  cases hv : victim c q with
  | none => rfl
  | some i =>
    obtain ⟨f, hf, hcls⟩ := victim_cls hv
    exact absurd (h f (List.mem_of_getElem? hf)) (Nat.not_le_of_lt hcls)

/-- In a full queue with no class less urgent, a frame is dropped at its queuing (R162). -/
theorem queueFrame_drops (now : Stamp) {m : TxMsg} {l : LineController}
    (hnew : coalesces m.kind = true → ∀ f ∈ l.queue, f.msg.kind ≠ m.kind)
    (hfull : Config.queueCapacity ≤ l.queue.length) (hcls : ∀ f ∈ l.queue, f.msg.cls ≤ m.cls) :
    queueFrame now m l = (l, some m) := by
  rw [queueFrame_new now hnew, admitFrame, if_neg (Nat.not_lt_of_le hfull), victim_none hcls]

theorem cls_le (m : TxMsg) : m.cls ≤ 3 := by
  unfold TxMsg.cls
  cases m.kind <;> decide

/-! ### The frames of the queue after a queuing -/

/-- A frame of the queue after a queuing was there, is the new one, or is the one whose place the new one takes. -/
theorem mem_queueFrame {now : Stamp} {m : TxMsg} {l : LineController} {f : TxFrame}
    (h : f ∈ (queueFrame now m l).1.queue) : f ∈ l.queue ∨ f = newFrame now m ∨
      ∃ g ∈ l.queue, g.msg.kind = m.kind ∧ coalesces m.kind = true ∧ f = { g with msg := m } := by
  unfold queueFrame admitFrame at h
  split at h
  · next hc =>
    rw [Bool.and_eq_true] at hc
    split at h
    · exact .inl (by cases m <;> exact h)
    · obtain ⟨g, hg, rfl⟩ := List.mem_map.1 h
      by_cases hk : g.msg.kind = m.kind
      · rw [if_pos hk]
        exact .inr (.inr ⟨g, hg, hk, hc.1, rfl⟩)
      · rw [if_neg hk]
        exact .inl hg
  · split at h
    · rcases List.mem_append.1 h with h | h
      · exact .inl h
      · exact .inr (.inl (List.mem_singleton.1 h))
    · split at h
      · rcases List.mem_append.1 h with h | h
        · exact .inl (List.mem_of_mem_eraseIdx h)
        · exact .inr (.inl (List.mem_singleton.1 h))
      · exact .inl h

/-- A queuing adds one frame at most, and none to a full queue (R162). -/
theorem queueFrame_length {now : Stamp} {m : TxMsg} {l : LineController}
    (h : l.queue.length < Config.queueCapacity) : (queueFrame now m l).1.queue.length ≤ Config.queueCapacity := by
  unfold queueFrame admitFrame
  split
  · split
    · cases m <;> exact h.le
    · simpa using h.le
  · simpa using h

/-! ### TX_DROPPED -/

theorem raiseTxDropped_of_pending {s : State} (h : hasNotice s.cmd.notices .txDropped = true) : raiseTxDropped s = s :=
  if_pos h

/-- TX_DROPPED is pending once it is raised (R162). -/
theorem raiseTxDropped_raises (s : State) : hasNotice (raiseTxDropped s).cmd.notices .txDropped = true := by
  unfold raiseTxDropped
  split
  · assumption
  · dsimp only
    split <;> simp [hasNotice_withNotice]

/-- Where TX_DROPPED is raised, the line controller stays or queues a NOTICE (R162, R169). -/
theorem raiseTxDropped_line (s : State) : (raiseTxDropped s).line = s.line ∨
    ∃ set, (raiseTxDropped s).line = (queueFrame s.fe.now (.notice set) s.line).1 := by
  unfold raiseTxDropped
  split
  · exact .inl rfl
  · dsimp only
    split
    · exact .inr ⟨_, rfl⟩
    · exact .inl rfl

theorem tellOwner_line (m : TxMsg) (s : State) : (tellOwner m s).line = s.line := by
  unfold tellOwner
  split
  · split
    · rw [abandonDropped, evaluateRecord_eq]
    · rfl
  · split <;> rfl
  · rfl

/-- The frames after TX_DROPPED is raised are those before it, and a NOTICE (R162). -/
theorem mem_frameLost {m : TxMsg} {s : State} {f : TxFrame} (h : f ∈ (frameLost m s).line.queue) :
    f ∈ s.line.queue ∨ f.msg.kind = .notice := by
  rw [frameLost, tellOwner_line] at h
  rcases raiseTxDropped_line s with hline | ⟨set, hline⟩ <;> rw [hline] at h
  · exact .inl h
  · rcases mem_queueFrame h with h | rfl | ⟨g, -, -, -, rfl⟩
    · exact .inl h
    · exact .inr rfl
    · exact .inr rfl

theorem frameLost_raises (m : TxMsg) (s : State) : hasNotice (frameLost m s).cmd.notices .txDropped = true :=
  (tellOwner_remembers m _).notices _ (raiseTxDropped_raises s)

/-! ### A STATUS that is queued -/

/-- A STATUS in a full queue without one is dropped, with TX_DROPPED (R115, R162). -/
theorem enqueue_status_drops {c : Option StatusContent} {s : State}
    (hnew : ∀ f ∈ s.line.queue, f.msg.kind ≠ .status) (hfull : Config.queueCapacity ≤ s.line.queue.length) :
    enqueue (.status c) s = raiseTxDropped s := by
  have hdrop := queueFrame_drops s.fe.now (m := .status c) (l := s.line) (fun _ => hnew) hfull fun f _ => cls_le f.msg
  simp only [enqueue, hdrop]
  rfl

end Sys2Proof.Machine
end

section
/-! SUPPORT. The heartbeat and the end of the listen period (R115, R156). -/

namespace Sys2Proof.Machine

theorem later_halfAging (s : State) : later s.fe.now (halfAging s) =
    s.fe.now + BitVec.ofNat 48 (s.cmd.setup.agingPeriod * 50000000) := rfl

/-! ### The heartbeat -/

theorem exec_heartbeatExpiry_none {s : State}
    (h : s.line.state ≠ .onLine ∨ s.line.heartbeat ≠ some s.fe.now) : exec .heartbeatExpiry s = .next s := by
  refine congrArg Host.Outcome.next ?_
  by_cases hdue : s.line.heartbeat = some s.fe.now
  · unfold whenDue whenRunning
    simp [dueAt_iff.2 hdue, h.resolve_right (not_not_intro hdue)]
  · exact whenDue_not_due hdue

theorem exec_heartbeatExpiry {s : State} (hp : s.phase = .running) (hon : s.line.state = .onLine)
    (hdue : s.line.heartbeat = some s.fe.now) :
    exec .heartbeatExpiry s = .next (startHeartbeat (enqueue (.status none) s)) :=
  congrArg Host.Outcome.next ((whenDue_due hp hdue).trans (if_pos hon))

/-! ### The end of the listen period -/

theorem exec_listenTimerExpiry_none {s : State}
    (h : s.line.state ≠ .listening ∨ s.line.listenTimer ≠ some s.fe.now) : exec .listenTimerExpiry s = .next s := by
  refine congrArg Host.Outcome.next ?_
  by_cases hdue : s.line.listenTimer = some s.fe.now
  · unfold whenDue whenRunning
    simp [dueAt_iff.2 hdue, h.resolve_right (not_not_intro hdue)]
  · exact whenDue_not_due hdue

/-- The line after the listen period, on line with its heartbeat started (R115, R156). -/
def onLineNow (s : State) : State := startHeartbeat { s with line := { s.line with state := .onLine, listenTimer := none } }

theorem exec_listenTimerExpiry {s : State} (hp : s.phase = .running) (hlisten : s.line.state = .listening)
    (hdue : s.line.listenTimer = some s.fe.now) :
    exec .listenTimerExpiry s = .next (onLineNow (queueJoin s.line.resetCause s)) :=
  congrArg Host.Outcome.next ((whenDue_due hp hdue).trans (if_pos hlisten))

theorem makeRoom_of_room {s : State} (h : s.line.queue.length < Config.queueCapacity) : makeRoom s = s := by
  unfold makeRoom
  split
  · exact if_pos h
  · rfl

/-- A full queue loses the frame that entered last (R160). -/
theorem makeRoom_full {s : State} (h : Config.queueCapacity ≤ s.line.queue.length) :
    ∃ f : TxFrame, makeRoom s = frameLost f.msg { s with line := { s.line with queue := s.line.queue.dropLast } } := by
  have hne : s.line.queue ≠ [] := by
    rintro hnil
    rw [hnil] at h
    exact absurd h (by decide)
  refine ⟨s.line.queue.getLast hne, ?_⟩
  simp only [makeRoom, List.getLast?_eq_getLast_of_ne_nil hne, if_neg (Nat.not_lt_of_le h)]

/-- Room made twice in a full queue is room for the JOIN, among frames that were there and a NOTICE (R160, log 13). -/
theorem makeRoom_twice {s : State} (h : s.line.queue.length = Config.queueCapacity) :
    hasNotice (makeRoom (makeRoom s)).cmd.notices .txDropped = true ∧
      (makeRoom (makeRoom s)).line.queue.length < Config.queueCapacity ∧
      ∀ f ∈ (makeRoom (makeRoom s)).line.queue, f ∈ s.line.queue.dropLast ∨ f.msg.kind = .notice := by
  obtain ⟨f, hfirst⟩ := makeRoom_full h.ge
  have hraised : hasNotice (makeRoom s).cmd.notices .txDropped = true := hfirst ▸ frameLost_raises _ _
  have hmem : ∀ g ∈ (makeRoom s).line.queue, g ∈ s.line.queue.dropLast ∨ g.msg.kind = .notice := fun g hg =>
    mem_frameLost (hfirst ▸ hg)
  have hlength : (makeRoom s).line.queue.length ≤ Config.queueCapacity := by
    have hdropped : s.line.queue.dropLast.length < Config.queueCapacity := by
      rw [List.length_dropLast, h]
      decide
    rw [hfirst, frameLost, tellOwner_line]
    rcases raiseTxDropped_line { s with line := { s.line with queue := s.line.queue.dropLast } } with
      hline | ⟨set, hline⟩ <;> rw [hline]
    · exact hdropped.le
    · exact queueFrame_length hdropped
  by_cases hroom : (makeRoom s).line.queue.length < Config.queueCapacity
  · rw [makeRoom_of_room hroom]
    exact ⟨hraised, hroom, hmem⟩
  · obtain ⟨g, hsecond⟩ := makeRoom_full (Nat.le_of_not_lt hroom)
    have hline : (makeRoom (makeRoom s)).line =
        { (makeRoom s).line with queue := (makeRoom s).line.queue.dropLast } := by
      rw [hsecond, frameLost, tellOwner_line, raiseTxDropped_of_pending (by exact hraised)]
    rw [hline]
    refine ⟨hsecond ▸ frameLost_raises _ _, ?_, fun g hg => hmem g (List.mem_of_mem_dropLast hg)⟩
    rw [List.length_dropLast]
    simp only [Config.queueCapacity] at hlength ⊢
    omega

/-- Settles O46: a STATUS is queued where the queue lets it, and `queueJoin` makes room for the JOIN. -/
theorem heartbeatAndListen : Obligations.HeartbeatAndListen := by
  intro s hp
  refine ⟨exec_heartbeatExpiry_none, fun hon hdue => ?_, exec_listenTimerExpiry_none, fun hlisten hdue => ?_⟩
  · rw [exec_heartbeatExpiry hp hon hdue]
    refine ⟨fun hnew hroom => ?_, fun hold hidle => ?_, fun hsend => ?_, fun hnew hfull => ⟨_, rfl, ?_⟩⟩
    · rw [enqueue_enters (.status none) s (fun _ => hnew) hroom]
      rfl
    · rw [enqueue_of_kept (queueFrame_replaces s.fe.now (m := .status none) rfl hold hidle)]
      rfl
    · rw [enqueue_of_kept (queueFrame_waits s.fe.now (m := .status none) rfl hsend)]
      rfl
    · rw [enqueue_status_drops hnew hfull]
      have hkeeps := raiseTxDropped_keeps s
      refine ⟨raiseTxDropped_raises s, ?_, fun f hf => ?_, fun hpending => ?_⟩
      · rw [startHeartbeat_line, later_halfAging, hkeeps.setup, raiseTxDropped_fe]
      · exact mem_frameLost (m := .status none) hf
      · rw [raiseTxDropped_of_pending hpending]
        rfl
  · rw [exec_listenTimerExpiry hp hlisten hdue]
    refine ⟨fun hroom => ?_, fun hfull => ⟨_, rfl, ?_⟩⟩
    · rw [queueJoin_room _ _ hroom]
      rfl
    · obtain ⟨hraised, hroom, hmem⟩ := makeRoom_twice hfull
      have hkeeps := (makeRoom_keeps s).trans (makeRoom_keeps (makeRoom s))
      have hfe : (makeRoom (makeRoom s)).fe = s.fe := by rw [hkeeps.blocks]
      refine ⟨rfl, rfl, ?_, ?_, hraised, ?_, fun f hf => hmem f ?_⟩
      · rw [onLineNow, startHeartbeat_line, later_halfAging]
        simp only [queueJoin, hkeeps.setup, hfe]
      · simp only [onLineNow, startHeartbeat_line, queueJoin, List.length_append, List.length_singleton]
        exact hroom
      · simp only [onLineNow, startHeartbeat_line, queueJoin, List.getLast?_append, hfe]
        rfl
      · simpa [onLineNow, queueJoin] using hf

end Sys2Proof.Machine
end

section
/-! SUPPORT. What a queuing leaves of the claim and of a series, by the kinds of the frames it can lose (R135, R162, R167). -/

namespace Sys2Proof.Machine

/-! ### Owners of lost frames -/

/-- The loss of a frame that is no CLAIM reaches neither the meter record nor the seal unit (R162). -/
theorem tellOwner_of_not_claim {m : TxMsg} (h : m.kind ≠ .claim) (s : State) :
    (tellOwner m s).meter = s.meter ∧ (tellOwner m s).sealUnit = s.sealUnit := by
  unfold tellOwner
  split
  · exact absurd rfl h
  · split <;> exact ⟨rfl, rfl⟩
  · exact ⟨rfl, rfl⟩

/-- The loss of a frame that is no DETAIL ends no series (R162). -/
theorem tellOwner_cmd {m : TxMsg} (h : m.kind ≠ .detail) (s : State) : (tellOwner m s).cmd = s.cmd := by
  unfold tellOwner
  split
  · split
    · rw [abandonDropped, evaluateRecord_eq]
    · rfl
  · exact absurd rfl h
  · rfl

/-- A queuing that loses a frame loses the new one or a queued one (R162). -/
theorem queueFrame_lost_mem {now : Stamp} {m lost : TxMsg} {l : LineController}
    (h : (queueFrame now m l).2 = some lost) : lost = m ∨ ∃ f ∈ l.queue, f.msg = lost := by
  unfold queueFrame admitFrame at h
  split at h
  · split at h <;> cases h
  · split at h
    · cases h
    · split at h
      · obtain ⟨f, hf, rfl⟩ := Option.map_eq_some_iff.1 h
        exact .inr ⟨f, List.mem_of_getElem? hf, rfl⟩
      · exact .inl (Option.some.inj h).symm

/-- What a queuing does beside the line controller, if it loses a frame: TX_DROPPED, and the owner told (R162). -/
theorem enqueue_cases (m : TxMsg) (s : State) :
    enqueue m s = { s with line := (queueFrame s.fe.now m s.line).1 } ∨
    ∃ lost, (queueFrame s.fe.now m s.line).2 = some lost ∧
      enqueue m s = frameLost lost { s with line := (queueFrame s.fe.now m s.line).1 } := by
  unfold enqueue
  dsimp only
  split
  · next lost hlost => exact .inr ⟨lost, hlost, rfl⟩
  · exact .inl rfl

/-- A queued frame other than a CLAIM displaces no CLAIM, so that it leaves the meter record and the seal unit (R162). -/
theorem enqueue_of_not_claim {m : TxMsg} (h : m.kind ≠ .claim) (s : State) :
    (enqueue m s).meter = s.meter ∧ (enqueue m s).sealUnit = s.sealUnit := by
  rcases enqueue_cases m s with heq | ⟨lost, hlost, heq⟩ <;> rw [heq]
  · exact ⟨rfl, rfl⟩
  · have hkind : lost.kind ≠ .claim := by
      rcases queueFrame_lost hlost with rfl | hcls
      · exact h
      · intro hclaim
        simp [TxMsg.cls, hclaim, FrameKind.cls] at hcls
    obtain ⟨hmeter, hunit⟩ := tellOwner_of_not_claim hkind
      (raiseTxDropped { s with line := (queueFrame s.fe.now m s.line).1 })
    rw [frameLost, hmeter, hunit, raiseTxDropped_meter, raiseTxDropped_sealUnit]
    exact ⟨rfl, rfl⟩

/-- A notice reaches neither the meter record nor the seal unit (R169). -/
theorem raiseNotice_leaves (n : Notice) (s : State) :
    (raiseNotice n s).meter = s.meter ∧ (raiseNotice n s).sealUnit = s.sealUnit := by
  unfold raiseNotice
  split
  · exact ⟨rfl, rfl⟩
  · dsimp only
    split
    · exact enqueue_of_not_claim (m := .notice (withNotice s.cmd.notices n)) (by simp [TxMsg.kind])
        { s with cmd := { s.cmd with notices := withNotice s.cmd.notices n } }
    · exact ⟨rfl, rfl⟩

/-- The queue of a state in which a notice is raised stays, or has a NOTICE queued (R169). -/
theorem raiseNotice_cases (n : Notice) (s : State) : raiseNotice n s = s ∨
    ∃ set, raiseNotice n s = { s with cmd := { s.cmd with notices := set } } ∨
      raiseNotice n s = enqueue (.notice set) { s with cmd := { s.cmd with notices := set } } := by
  unfold raiseNotice
  split
  · exact .inl rfl
  · dsimp only
    split
    · exact .inr ⟨_, .inr rfl⟩
    · exact .inr ⟨_, .inl rfl⟩

end Sys2Proof.Machine
end

section
/-! SUPPORT. The line controller off line: what the emptied queue keeps, and what an abandoned claim and the notices then
queue (R137, R157, R159, R167). -/

namespace Sys2Proof.Machine

/-! ### The frames off line -/

/-- Kinds of the frames that stay queued off line (R157). -/
abbrev KeptKind (k : FrameKind) : Prop := k = .pointResult ∨ k = .sealed

theorem keptOffLine_iff (m : TxMsg) : keptOffLine m = true ↔ KeptKind m.kind := by
  unfold keptOffLine KeptKind
  cases m.kind <;> simp

theorem keptOffLine_eq (m : TxMsg) : keptOffLine m = (m.kind == .pointResult || m.kind == .sealed) := by
  rw [Bool.eq_iff_iff, keptOffLine_iff]
  simp

/-- A frame that can stand in the queue off line: one that stays, or a NOTICE or a CLAIM queued at this very stamp; none is
under attempt. -/
def OffLineFrame (now : Stamp) (claims : Prop) (f : TxFrame) : Prop :=
  f.sending = false ∧ (KeptKind f.msg.kind ∨
    ((f.msg.kind = .notice ∨ (f.msg.kind = .claim ∧ claims)) ∧ f.entered = now ∧ f.attempts = 0))

/-- What every state off line has on the way through the entry: such frames alone, none beside the queue, and a series. -/
structure OffLine (claims : Prop) (series : Option Series) (s : State) : Prop where
  frames : ∀ f ∈ s.line.queue, OffLineFrame s.fe.now claims f
  waitingStatus : s.line.waitingStatus = false
  waitingNotice : s.line.waitingNotice = none
  series : s.cmd.series = series

/-- With no frame under attempt a queuing leaves the frames beside the queue (R161). -/
theorem queueFrame_beside {now : Stamp} {m : TxMsg} {l : LineController} (h : ∀ f ∈ l.queue, f.sending = false) :
    (queueFrame now m l).1.waitingStatus = l.waitingStatus ∧
      (queueFrame now m l).1.waitingNotice = l.waitingNotice := by
  have hsend : (l.queue.any fun f => f.msg.kind == m.kind && f.sending) = false := by
    rw [← Bool.not_eq_true, List.any_eq_true]
    rintro ⟨f, hf, hs⟩
    simp [h f hf] at hs
  unfold queueFrame admitFrame
  rw [hsend]
  split
  · exact ⟨rfl, rfl⟩
  · split
    · exact ⟨rfl, rfl⟩
    · split <;> exact ⟨rfl, rfl⟩

section OffLineStates

variable {claims : Prop} {c : Option Series} {s : State}

theorem OffLine.queueFrame {m : TxMsg} (h : OffLine claims c s) (hm : m.kind = .notice ∨ (m.kind = .claim ∧ claims)) :
    OffLine claims c { s with line := (queueFrame s.fe.now m s.line).1 } := by
  obtain ⟨hstatus, hnotice⟩ := queueFrame_beside (now := s.fe.now) (m := m) fun f hf => (h.frames f hf).1
  refine ⟨fun f hf => ?_, hstatus.trans h.waitingStatus, hnotice.trans h.waitingNotice, h.series⟩
  rcases mem_queueFrame hf with hf | rfl | ⟨g, hg, hk, -, rfl⟩
  · exact h.frames f hf
  · exact ⟨rfl, .inr ⟨hm, rfl, rfl⟩⟩
  · obtain ⟨hsend, hkept | ⟨-, hentered⟩⟩ := h.frames g hg
    · rw [hk] at hkept
      exact ⟨hsend, .inl hkept⟩
    · exact ⟨hsend, .inr ⟨hm, hentered⟩⟩

theorem OffLine.raiseTxDropped (h : OffLine claims c s) : OffLine claims c (raiseTxDropped s) := by
  have hset (set : BitVec 10) : OffLine claims c { s with cmd := { s.cmd with notices := set } } :=
    ⟨h.frames, h.waitingStatus, h.waitingNotice, h.series⟩
  unfold Machine.raiseTxDropped
  split
  · exact h
  · dsimp only
    split
    · exact (hset (withNotice s.cmd.notices .txDropped)).queueFrame
        (m := .notice (withNotice s.cmd.notices .txDropped)) (.inl rfl)
    · exact hset _

theorem OffLine.enqueue {m : TxMsg} (h : OffLine claims c s) (hm : m.kind = .notice ∨ (m.kind = .claim ∧ claims)) :
    OffLine claims c (enqueue m s) := by
  have hqueued := h.queueFrame hm
  rcases enqueue_cases m s with heq | ⟨lost, hlost, heq⟩ <;> rw [heq]
  · exact hqueued
  · have hkind : lost.kind ≠ .detail := by
      rcases queueFrame_lost_mem hlost with rfl | ⟨f, hf, rfl⟩
      · rcases hm with hm | ⟨hm, -⟩ <;> rw [hm] <;> decide
      · obtain ⟨-, (hk | hk) | ⟨hk | ⟨hk, -⟩, -⟩⟩ := h.frames f hf <;> rw [hk] <;> decide
    have hdropped := hqueued.raiseTxDropped
    have hkeeps := (tellOwner_keeps lost (Machine.raiseTxDropped
      { s with line := (Machine.queueFrame s.fe.now m s.line).1 })).blocks
    unfold frameLost
    refine ⟨?_, ?_, ?_, ?_⟩
    · rw [tellOwner_line, show (tellOwner lost _).fe = _ by rw [hkeeps]]
      exact hdropped.frames
    · rw [tellOwner_line]; exact hdropped.waitingStatus
    · rw [tellOwner_line]; exact hdropped.waitingNotice
    · rw [tellOwner_cmd hkind]; exact hdropped.series

theorem OffLine.raiseNotice (h : OffLine claims c s) (n : Notice) : OffLine claims c (raiseNotice n s) := by
  have hset (set : BitVec 10) : OffLine claims c { s with cmd := { s.cmd with notices := set } } :=
    ⟨h.frames, h.waitingStatus, h.waitingNotice, h.series⟩
  rcases raiseNotice_cases n s with heq | ⟨set, heq | heq⟩ <;> rw [heq]
  · exact h
  · exact hset set
  · exact (hset set).enqueue (.inl rfl)

end OffLineStates

/-! ### The frames that stay -/

/-- The queue holds the kept frames in order, and after them at most one NOTICE. -/
def KeptWith (kept : List TxFrame) (now : Stamp) (q : List TxFrame) : Prop :=
  q = kept ∨ ∃ set, q = kept ++ [newFrame now (.notice set)]

section Kept

variable {kept : List TxFrame} (hkept : ∀ f ∈ kept, KeptKind f.msg.kind)
include hkept

/-- A NOTICE enters behind the kept frames, takes the place of the one there, or is lost itself (R161, R162). -/
theorem KeptWith.queueFrame {now : Stamp} {set : BitVec 10} {l : LineController} (h : KeptWith kept now l.queue) :
    KeptWith kept now (queueFrame now (.notice set) l).1.queue := by
  have hother : ∀ f ∈ kept, f.msg.kind ≠ .notice := fun f hf hn => by
    rcases hkept f hf with hk | hk <;> simp [hn] at hk
  have hcls : ∀ f ∈ kept, f.msg.cls ≤ 2 := fun f hf => by
    unfold TxMsg.cls
    rcases hkept f hf with hk | hk <;> rw [hk] <;> decide
  rcases h with hq | ⟨old, hq⟩
  · have hnew : ∀ f ∈ l.queue, f.msg.kind ≠ (TxMsg.notice set).kind := hq ▸ hother
    by_cases hroom : l.queue.length < Config.queueCapacity
    · rw [queueFrame_enters now (fun _ => hnew) hroom]
      exact .inr ⟨set, congrArg (· ++ _) hq⟩
    · rw [queueFrame_drops now (fun _ => hnew) (Nat.le_of_not_lt hroom) (hq ▸ hcls)]
      exact .inl hq
  · have hnotice : newFrame now (.notice old) ∈ l.queue := hq ▸ List.mem_append_right _ (List.mem_singleton_self _)
    have hidle : ∀ f ∈ l.queue, f.msg.kind = (TxMsg.notice set).kind → f.sending = false := fun f hf hk => by
      rcases List.mem_append.1 (hq ▸ hf) with hf | hf
      · exact absurd hk (hother f hf)
      · rw [List.mem_singleton.1 hf]
        rfl
    have hmap : kept.map (fun f => if f.msg.kind = (TxMsg.notice set).kind then { f with msg := .notice set } else f) =
        kept := (List.map_congr_left fun f hf => if_neg (hother f hf)).trans (List.map_id kept)
    rw [queueFrame_replaces now (m := .notice set) rfl ⟨_, hnotice, rfl⟩ hidle]
    refine .inr ⟨set, ?_⟩
    dsimp only
    rw [hq, List.map_append, hmap]
    rfl

theorem KeptWith.raiseTxDropped {s : State} (h : KeptWith kept s.fe.now s.line.queue) :
    KeptWith kept s.fe.now (raiseTxDropped s).line.queue := by
  rcases raiseTxDropped_line s with hline | ⟨set, hline⟩ <;> rw [hline]
  · exact h
  · exact h.queueFrame hkept

theorem KeptWith.raiseNotice {s : State} (h : KeptWith kept s.fe.now s.line.queue) (n : Notice) :
    KeptWith kept s.fe.now (raiseNotice n s).line.queue := by
  rcases raiseNotice_cases n s with heq | ⟨set, heq | heq⟩ <;> rw [heq]
  · exact h
  · exact h
  · rcases enqueue_cases (.notice set) { s with cmd := { s.cmd with notices := set } } with
      heq | ⟨lost, -, heq⟩ <;> rw [heq]
    · exact h.queueFrame hkept
    · rw [frameLost, tellOwner_line]
      exact KeptWith.raiseTxDropped hkept (s := { s with
        cmd := { s.cmd with notices := set }, line := (Machine.queueFrame s.fe.now (.notice set) s.line).1 })
        (h.queueFrame hkept)

/-- Of such a queue the frames that stay are the kept ones. -/
theorem KeptWith.filter {now : Stamp} {q : List TxFrame} (h : KeptWith kept now q) :
    (q.filter fun f => f.msg.kind == .pointResult || f.msg.kind == .sealed) = kept := by
  have hall : (kept.filter fun f => f.msg.kind == .pointResult || f.msg.kind == .sealed) = kept :=
    List.filter_eq_self.2 fun f hf => by simpa [KeptKind] using hkept f hf
  rcases h with rfl | ⟨set, rfl⟩
  · exact hall
  · rw [List.filter_append, hall]
    exact List.append_nil kept

end Kept

/-! ### The check of a held number -/

/-- The check of a held number changes nothing, discards the number with SEAL_REUSED, or queues its CLAIM (R96, R132). -/
theorem checkHeld_cases (s : State) : checkHeld s = s ∨
    checkHeld s = { raiseNotice .sealReused s with meter := { (raiseNotice .sealReused s).meter with held := none } } ∨
    ∃ n number, checkHeld s = enqueue (.claim n number) (numberClaimed number s) := by
  unfold checkHeld
  split
  · next number _ =>
    split
    · by_cases htaken : sealTaken number s = true
      · exact .inr (.inl (if_pos htaken))
      · exact .inr (.inr ⟨_, number, sealCheck_free htaken⟩)
    · exact .inl rfl
  · exact .inl rfl

theorem checkHeld_offLine {claims : Prop} {c : Option Series} {s : State} (h : OffLine claims c s) (hc : claims) :
    OffLine claims c (checkHeld s) := by
  rcases checkHeld_cases s with heq | heq | ⟨n, number, heq⟩ <;> rw [heq]
  · exact h
  · obtain ⟨hframes, hstatus, hnotice, hseries⟩ := h.raiseNotice .sealReused
    exact ⟨hframes, hstatus, hnotice, hseries⟩
  · have hclaimed : OffLine claims c (numberClaimed number s) := ⟨h.frames, h.waitingStatus, h.waitingNotice, h.series⟩
    exact hclaimed.enqueue (.inr ⟨rfl, hc⟩)

/-- The check leaves the owed release and the press list (R132). -/
theorem checkHeld_sealUnit (s : State) : (checkHeld s).sealUnit.owed = s.sealUnit.owed ∧
    (checkHeld s).sealUnit.pressList = s.sealUnit.pressList := by
  rcases checkHeld_cases s with heq | heq | ⟨n, number, heq⟩ <;> rw [heq]
  · exact ⟨rfl, rfl⟩
  · rw [(raiseNotice_leaves .sealReused s).2]
    exact ⟨rfl, rfl⟩
  · rcases enqueue_sealUnit (.claim n number) (numberClaimed number s) with hunit | hunit <;> rw [hunit] <;>
      exact ⟨rfl, rfl⟩

/-- A CLAIM that the check queues finds room behind six kept frames and a NOTICE. -/
theorem checkHeld_filter {kept : List TxFrame} {s : State} (hkept : ∀ f ∈ kept, KeptKind f.msg.kind)
    (h : KeptWith kept s.fe.now s.line.queue) (hshort : kept.length ≤ 6) :
    ((checkHeld s).line.queue.filter fun f => f.msg.kind == .pointResult || f.msg.kind == .sealed) = kept := by
  rcases checkHeld_cases s with heq | heq | ⟨n, number, heq⟩ <;> rw [heq]
  · exact h.filter hkept
  · exact (h.raiseNotice hkept .sealReused).filter hkept
  · have hroom : s.line.queue.length < Config.queueCapacity := by
      simp only [Config.queueCapacity]
      rcases h with hq | ⟨set, hq⟩ <;> rw [hq]
      · omega
      · rw [List.length_append, List.length_singleton]
        omega
    rw [enqueue_room (.claim n number) (numberClaimed number s) rfl hroom]
    show (s.line.queue ++ [newFrame _ (.claim n number)]).filter _ = kept
    rw [List.filter_append, h.filter hkept]
    exact List.append_nil kept

/-! ### The abandoned claim -/

/-- The claim of a CLAIMING station abandoned as the line leaves ON-LINE: a sent one leaves the press list, and its RELEASE
is owed (R137). -/
def claimAbandoned (c : OwnClaim) (s : State) : State := { s with sealUnit := { s.sealUnit with
  current := none
  owed := if c.sent then some ⟨c.number, .abandoned⟩ else s.sealUnit.owed
  pressList := if c.sent then withoutStation s.line.own s.sealUnit.pressList else s.sealUnit.pressList } }

theorem abandonOffLine_cases (s : State) : (abandonOffLine s = s ∧
      ∀ c, s.meter.batch = .claiming → s.sealUnit.current ≠ some c) ∨
    ∃ c, s.meter.batch = .claiming ∧ s.sealUnit.current = some c ∧
      abandonOffLine s = checkHeld (evaluatedAwaiting (claimAbandoned c s)) := by
  unfold abandonOffLine
  split
  · next c hb hc => exact .inr ⟨c, hb, hc, returnToAwaitSeal_eq (claimAbandoned c s)⟩
  · next hnot => exact .inl ⟨rfl, fun c hb hc => hnot c hb hc⟩

/-! ### The emptied queue -/

/-- The frames that stay queued off line, none of them under attempt (R157). -/
def keptFrames (q : List TxFrame) : List TxFrame :=
  (q.filter fun f => f.msg.kind == .pointResult || f.msg.kind == .sealed).map fun f => { f with sending := false }

theorem keptFrames_kind {q : List TxFrame} {f : TxFrame} (h : f ∈ keptFrames q) :
    KeptKind f.msg.kind ∧ f.sending = false := by
  obtain ⟨g, hg, rfl⟩ := List.mem_map.1 h
  exact ⟨by simpa [KeptKind] using (List.mem_filter.1 hg).2, rfl⟩

/-- The series after a queue is emptied: none where a part of it left (R167). -/
def seriesAfter (q : List TxFrame) (c : Option Series) : Option Series :=
  if ∃ f ∈ q, LivePart f.msg then none else c

/-- The emptied queue in line state st, before TX_DROPPED is raised (R157, R159). -/
def emptied (st : LineState) (s : State) : State := { s with
  line := { s.line with
    state := st
    queue := keptFrames s.line.queue
    waitingStatus := false
    waitingNotice := none
    heartbeat := none }
  cmd := { s.cmd with series := seriesAfter s.line.queue s.cmd.series } }

/-- A live part is a DETAIL, which does not stay off line (R157, R167). -/
theorem holdsLivePart_removed (q : List TxFrame) :
    holdsLivePart (q.filter fun f => !keptOffLine f.msg) = true ↔ ∃ f ∈ q, LivePart f.msg := by
  have hremoved {m : TxMsg} (h : LivePart m) : keptOffLine m = false := by
    cases m
    case detail => rfl
    all_goals exact absurd h Bool.false_ne_true
  unfold holdsLivePart
  rw [List.any_eq_true]
  constructor
  · rintro ⟨f, hf, hlive⟩
    exact ⟨f, List.mem_of_mem_filter hf, hlive⟩
  · rintro ⟨f, hf, hlive⟩
    exact ⟨f, List.mem_filter.2 ⟨hf, by rw [hremoved hlive]; rfl⟩, hlive⟩

/-- TX_DROPPED is raised where a frame left the queue (R157). -/
theorem emptyQueue_cases (st : LineState) (s : State) : (emptyQueue st s = emptied st s ∧
      ∀ f ∈ s.line.queue, KeptKind f.msg.kind) ∨ emptyQueue st s = raiseTxDropped (emptied st s) := by
  have hemptied : emptied st s = { s with
      line := { s.line with
        state := st
        queue := (s.line.queue.filter fun f => keptOffLine f.msg).map fun f => { f with sending := false }
        waitingStatus := false
        waitingNotice := none
        heartbeat := none }
      cmd := { s.cmd with series :=
        if (holdsLivePart (s.line.queue.filter fun f => !keptOffLine f.msg)) = true then none
        else s.cmd.series } } := by
    simp only [emptied, keptFrames, seriesAfter, ← keptOffLine_eq, ← holdsLivePart_removed]
  unfold emptyQueue
  dsimp only
  rw [← hemptied]
  split
  · next hnone =>
    refine .inl ⟨rfl, fun f hf => (keptOffLine_iff _).1 ?_⟩
    rw [Bool.and_eq_true, List.isEmpty_iff, List.filter_eq_nil_iff] at hnone
    simpa using hnone.1 f hf
  · exact .inr rfl

/-- What the emptied queue and the notices raised after it leave (R157, R159). -/
structure LineEmptied (st : LineState) (s e : State) : Prop where
  keeps : QueuingKeeps (emptied st s) e
  remembers : Remembers s e
  meter : e.meter = s.meter
  sealUnit : e.sealUnit = s.sealUnit
  offLine : ∀ claims, OffLine claims (seriesAfter s.line.queue s.cmd.series) e
  queue : KeptWith (keptFrames s.line.queue) e.fe.now e.line.queue
  dropped : (∃ f ∈ s.line.queue, ¬ KeptKind f.msg.kind) → hasNotice e.cmd.notices .txDropped = true

theorem emptied_offLine (st : LineState) (s : State) (claims : Prop) :
    OffLine claims (seriesAfter s.line.queue s.cmd.series) (emptied st s) :=
  ⟨fun _ hf => ⟨(keptFrames_kind hf).2, .inl (keptFrames_kind hf).1⟩, rfl, rfl, rfl⟩

theorem emptyQueue_emptied (st : LineState) (s : State) : LineEmptied st s (emptyQueue st s) := by
  have hkept : KeptWith (keptFrames s.line.queue) (emptied st s).fe.now (emptied st s).line.queue := .inl rfl
  have hremembers : Remembers s (emptied st s) := .of_same rfl rfl
  rcases emptyQueue_cases st s with ⟨heq, hall⟩ | heq <;> rw [heq]
  · exact ⟨.refl _, hremembers, rfl, rfl, emptied_offLine st s, hkept, fun ⟨f, hf, hnot⟩ => absurd (hall f hf) hnot⟩
  · refine ⟨raiseTxDropped_keeps _, hremembers.trans (raiseTxDropped_remembers _), raiseTxDropped_meter _,
      raiseTxDropped_sealUnit _, fun claims => (emptied_offLine st s claims).raiseTxDropped, ?_,
      fun _ => raiseTxDropped_raises _⟩
    rw [raiseTxDropped_fe]
    exact hkept.raiseTxDropped fun f hf => (keptFrames_kind hf).1

theorem LineEmptied.raiseNotice {st : LineState} {s e : State} (h : LineEmptied st s e) (n : Notice) :
    LineEmptied st s (raiseNotice n e) := by
  obtain ⟨hmeter, hunit⟩ := raiseNotice_leaves n e
  have hremembers := raiseNotice_remembers n e
  refine ⟨h.keeps.trans (raiseNotice_keeps n e), h.remembers.trans hremembers, hmeter.trans h.meter,
    hunit.trans h.sealUnit, fun claims => (h.offLine claims).raiseNotice n, ?_,
    fun hex => hremembers.notices _ (h.dropped hex)⟩
  rw [raiseNotice_fe]
  exact h.queue.raiseNotice (fun f hf => (keptFrames_kind hf).1) n

/-- What the entry leaves once a claim in CLAIMING has been abandoned (R137, R157, R159). -/
structure LineLeft (st : LineState) (s t : State) : Prop where
  keeps : QueuingKeeps (emptied st s) t
  offLine : OffLine (s.meter.batch = .claiming) (seriesAfter s.line.queue s.cmd.series) t
  dropped : (∃ f ∈ s.line.queue, ¬ KeptKind f.msg.kind) → hasNotice t.cmd.notices .txDropped = true
  kept : s.meter.batch ≠ .claiming ∨ (keptFrames s.line.queue).length ≤ 6 →
    (t.line.queue.filter fun f => f.msg.kind == .pointResult || f.msg.kind == .sealed) = keptFrames s.line.queue
  spared : s.meter.batch ≠ .claiming → t.meter = s.meter ∧ t.sealUnit = s.sealUnit
  abandoned : ∀ c, s.meter.batch = .claiming → s.sealUnit.current = some c →
    t.sealUnit.owed = (if c.sent then some ⟨c.number, .abandoned⟩ else s.sealUnit.owed) ∧
    t.sealUnit.pressList =
      (if c.sent then s.sealUnit.pressList.filter fun x => x.station != s.line.own else s.sealUnit.pressList)

/-- The claim is abandoned last (R137). -/
theorem LineEmptied.left {st : LineState} {s e : State} (h : LineEmptied st s e) :
    LineLeft st s (abandonOffLine e) ∧ Remembers e (abandonOffLine e) := by
  have hkept : ∀ f ∈ keptFrames s.line.queue, KeptKind f.msg.kind := fun f hf => (keptFrames_kind hf).1
  have hkeeps := h.keeps.trans (abandonOffLine_keeps e)
  rcases abandonOffLine_cases e with ⟨heq, hnone⟩ | ⟨c, hb, hc, heq⟩
  · rw [heq] at hkeeps ⊢
    refine ⟨⟨hkeeps, h.offLine _, h.dropped, fun _ => h.queue.filter hkept, fun _ => ⟨h.meter, h.sealUnit⟩,
      fun c hb hc => absurd ?_ (hnone c (by rw [h.meter]; exact hb))⟩, .refl e⟩
    rw [h.sealUnit]
    exact hc
  · have hremembers : Remembers e (checkHeld (evaluatedAwaiting (claimAbandoned c e))) :=
      Remembers.trans (.of_same (by rfl) (by rfl)) (checkHeld_remembers _)
    rw [h.meter] at hb
    rw [h.sealUnit] at hc
    rw [heq] at hkeeps ⊢
    refine ⟨⟨hkeeps, checkHeld_offLine ?_ hb, fun hex => hremembers.notices _ (h.dropped hex), fun hshort => ?_,
      fun hnot => absurd hb hnot, fun c' _ hc' => ?_⟩, hremembers⟩
    · obtain ⟨hframes, hstatus, hnotice, hseries⟩ := h.offLine (s.meter.batch = .claiming)
      exact ⟨hframes, hstatus, hnotice, hseries⟩
    · exact checkHeld_filter (s := evaluatedAwaiting (claimAbandoned c e)) hkept h.queue
        (hshort.resolve_left (not_not_intro hb))
    · obtain rfl := Option.some.inj (hc.symm.trans hc')
      obtain ⟨howed, hlist⟩ := checkHeld_sealUnit (evaluatedAwaiting (claimAbandoned c e))
      have hown : e.line.own = s.line.own := h.keeps.own
      rw [howed, hlist]
      simp only [evaluatedAwaiting, claimAbandoned, withoutStation, hown, h.sealUnit]
      exact ⟨trivial, trivial⟩

/-! ### The entries -/

theorem exec_lineOffEntry {s : State} (hp : s.phase = .running) (hon : s.line.state = .onLine) :
    exec .lineOffEntry s = .next (enterLineOff s) :=
  congrArg Host.Outcome.next ((whenRunning_running hp).trans (if_pos hon))

/-- The line as it takes its 32nd fault (R157). -/
def faulted (s : State) : State := { s with line := { s.line with faultTally := 32, goodFrames := 0 } }

/-- An entry into LINE-OFF empties the queue and abandons the claim (R157). -/
theorem enterLineOff_left (s : State) : LineLeft .lineOff (faulted s) (enterLineOff s) :=
  (emptyQueue_emptied .lineOff (faulted s)).left.1

/-- The line once a frame has been acknowledged and counted, below the 64th (R154, R158). -/
def frameCounted (s : State) : State := { s with line := { s.line with
  drive := .acknowledgeSlot
  idle := false
  goodFrames := if s.line.state = .lineOff then s.line.goodFrames + 1 else s.line.goodFrames } }

theorem countGood_acked {s : State} (hv : validNumber s.line.own = true)
    (hgood : s.line.state = .lineOff → s.line.goodFrames < 63) :
    countGood (driveAs .acknowledgeSlot s) = frameCounted s := by
  have hdrive : driveAs .acknowledgeSlot s = acked s := by simp [driveAs, receiverDrives, acked, hv]
  rw [hdrive]
  by_cases hoff : s.line.state = .lineOff
  · have hbelow : ¬ 64 ≤ (acked s).line.goodFrames + 1 := by
      have := hgood hoff
      simp only [acked_line]
      omega
    rw [countGood_lineOff (s := acked s) hoff, if_neg hbelow, frameCounted, if_pos hoff]
    rfl
  · rw [countGood_of_ne (s := acked s) hoff, frameCounted, if_neg hoff]
    rfl

/-- The line as it takes a frame with the own number, its listen timer stopped (R159). -/
def ownNumberTaken (s : State) : State :=
  { frameCounted s with line := { (frameCounted s).line with listenTimer := none } }

/-- A frame of a known kind and class with the own number is not delivered (R155). -/
theorem receiveFilter_ownNumber {k : FrameKind} {n : Nat} {dest : BitVec 6} {l : BitVec 5} {bs : List Byte} {s : State}
    (hn : s.line.own = n) (hl : l.toNat ≤ 16) (hv : validNumber n = true) : receiveFilter
      ⟨BitVec.ofNat 2 k.cls, BitVec.ofNat 6 n, BitVec.ofNat 6 k.number, dest, l, bs⟩ s = .ownNumber := by
  subst hn
  obtain ⟨hlow, hhigh⟩ := own_bounds hv
  obtain ⟨hkind, hcls⟩ := kind_fields k
  have hsender : (BitVec.ofNat 6 s.line.own).toNat = s.line.own := by
    rw [BitVec.toNat_ofNat]
    omega
  have hreserved : ¬ 62 ≤ s.line.own := by omega
  have hlong : ¬ 17 ≤ l.toNat := by omega
  simp only [receiveFilter, hv, hsender, hkind, hcls, hreserved, hlong, Bool.not_true, Bool.false_eq_true, if_false,
    ne_eq, not_true_eq_false, if_true]

/-- An entry into MUTED empties the queue, raises DUPLICATE_NUMBER and abandons the claim (R117, R159). -/
theorem exec_duplicateNumberFrame {k : FrameKind} {dest : BitVec 6} {l : BitVec 5} {bs : List Byte} {s : State}
    (hp : s.phase = .running) (hl : l.toNat ≤ 16) (hv : validNumber s.line.own = true)
    (hawait : s.line.awaitingIdle = false) (hmuted : s.line.state ≠ .muted)
    (hgood : s.line.state = .lineOff → s.line.goodFrames < 63) :
    exec (.duplicateNumberFrame (BitVec.ofNat 2 k.cls) (BitVec.ofNat 6 k.number) dest l bs) s =
      .next (abandonOffLine (raiseNotice .duplicateNumber (emptyQueue .muted (ownNumberTaken s)))) := by
  refine congrArg Host.Outcome.next ((whenRunning_running hp).trans ?_)
  rw [receive, if_neg (by rw [hawait]; exact Bool.false_ne_true), countGood_acked hv hgood, filtered,
    receiveFilter_ownNumber (n := s.line.own) (s := frameCounted s) rfl hl hv]
  exact if_neg hmuted

theorem ownNumber_left (s : State) : LineLeft .muted (ownNumberTaken s)
      (abandonOffLine (raiseNotice .duplicateNumber (emptyQueue .muted (ownNumberTaken s)))) ∧
    hasNotice (abandonOffLine (raiseNotice .duplicateNumber (emptyQueue .muted (ownNumberTaken s)))).cmd.notices
      .duplicateNumber = true := by
  obtain ⟨hleft, hremembers⟩ := ((emptyQueue_emptied .muted (ownNumberTaken s)).raiseNotice .duplicateNumber).left
  exact ⟨hleft, hremembers.notices _ (raiseNotice_raises _ _)⟩

/-- What both entries leave of the line's state and timers (R157, R159). -/
theorem LineLeft.line {st : LineState} {s t : State} (h : LineLeft st s t) :
    t.line.state = st ∧ t.line.heartbeat = none ∧ t.line.waitingStatus = false ∧ t.line.waitingNotice = none :=
  ⟨h.keeps.state, h.keeps.heartbeat, h.offLine.waitingStatus, h.offLine.waitingNotice⟩

/-- The frames that an entry leaves queued: the kept ones, and those queued at this stamp. -/
theorem LineLeft.frames {st : LineState} {s t : State} (h : LineLeft st s t) : ∀ f ∈ t.line.queue,
    f.msg.kind = .pointResult ∨ f.msg.kind = .sealed ∨
      ((f.msg.kind = .notice ∨ (f.msg.kind = .claim ∧ s.meter.batch = .claiming)) ∧
        f.entered = s.fe.now ∧ f.attempts = 0 ∧ f.sending = false) := by
  intro f hf
  have hfe : t.fe = s.fe := by rw [h.keeps.blocks]; rfl
  obtain ⟨hsend, (hk | hk) | ⟨hk, hentered, hattempts⟩⟩ := h.offLine.frames f hf
  · exact .inl hk
  · exact .inr (.inl hk)
  · exact .inr (.inr ⟨hk, hentered.trans (by rw [hfe]), hattempts, hsend⟩)

/-- The blocks that no entry reaches (R157, R159). -/
theorem LineLeft.blocks {st : LineState} {s t : State} (h : LineLeft st s t) :
    t.run = s.run ∧ t.plan = s.plan ∧ t.roster = s.roster ∧ t.xc = s.xc ∧ t.fe = s.fe ∧ t.trk = s.trk ∧ t.ec = s.ec := by
  rw [h.keeps.blocks]
  exact ⟨rfl, rfl, rfl, rfl, rfl, rfl, rfl⟩

/-- Settles O43: either entry is an emptied queue with its notices, and the claim abandoned last. -/
theorem leavingOnLine : Obligations.LeavingOnLine := by
  rintro i s hp (⟨rfl, hon⟩ | ⟨k, dest, l, bs, rfl, hl, hv, hawait, hmuted, hgood⟩)
  · have h := enterLineOff_left s
    obtain ⟨hstate, hheartbeat, hstatus, hnotice⟩ := h.line
    refine ⟨_, exec_lineOffEntry hp hon, hstate, hheartbeat, hstatus, hnotice,
      fun _ => ⟨h.keeps.faultTally, h.keeps.goodFrames⟩, fun hne => absurd rfl hne,
      fun ⟨f, hf, hne⟩ => h.dropped ⟨f, hf, not_or.2 hne⟩, h.offLine.series, h.frames, fun hshort => h.kept ?_, h.spared,
      h.abandoned, h.blocks⟩
    rwa [keptFrames, List.length_map]
  · obtain ⟨h, hduplicate⟩ := ownNumber_left s
    obtain ⟨hstate, hheartbeat, hstatus, hnotice⟩ := h.line
    refine ⟨_, exec_duplicateNumberFrame hp hl hv hawait hmuted hgood, hstate, hheartbeat, hstatus, hnotice,
      fun hi => absurd hi (by simp), fun _ => ⟨h.keeps.listenTimer, hduplicate⟩,
      fun ⟨f, hf, hne⟩ => h.dropped ⟨f, hf, not_or.2 hne⟩, h.offLine.series, h.frames, fun hshort => h.kept ?_, h.spared,
      h.abandoned, h.blocks⟩
    rwa [keptFrames, List.length_map]

end Sys2Proof.Machine
end

section
/-! SUPPORT. The reference cross-check: the median, what a judgment does to streak, condition and open run, and how a tally
enters the collection of its window (R122 to R126). -/

namespace Sys2Proof.Machine

/-! ### The median -/

theorem insertRising_eq (n : Nat) (ns : List Nat) : insertRising n ns = ns.orderedInsert (· ≤ ·) n := by
  induction ns with
  | nil => rfl
  | cons m ms ih => simp only [insertRising, List.orderedInsert, ih]

theorem sortRising_eq (ns : List Nat) : sortRising ns = ns.insertionSort (· ≤ ·) := by
  induction ns with
  | nil => rfl
  | cons n ns ih =>
    show insertRising n (sortRising ns) = _
    rw [insertRising_eq, ih, List.insertionSort_cons]

theorem sortRising_perm (ns : List Nat) : (sortRising ns).Perm ns := sortRising_eq ns ▸ List.perm_insertionSort _ ns

theorem sortRising_pairwise (ns : List Nat) : (sortRising ns).Pairwise (· ≤ ·) :=
  sortRising_eq ns ▸ List.pairwise_insertionSort _ ns

section Rising

variable {l : List Nat} (hl : l.Pairwise (· ≤ ·)) {i : Nat} (hi : i < l.length) {m : Nat}
include hl

/-- Where the member at a place of a rising list is below a number, so is every member up to it. -/
theorem countP_lt_of_getElem_lt (h : l[i] < m) : i < l.countP fun t => decide (t < m) := by
  have hall : ∀ t ∈ l.take (i + 1), decide (t < m) = true := fun t ht => by
    obtain ⟨j, hj, rfl⟩ := List.mem_take_iff_getElem.1 ht
    have hle : l[j] ≤ l[i] := hl.rel_get_of_le (a := ⟨j, by omega⟩) (b := ⟨i, hi⟩) (Fin.mk_le_mk.2 (by omega))
    exact decide_eq_true (by omega)
  have htake := (List.take_sublist (i + 1) l).countP_le (p := fun t => decide (t < m))
  rw [List.countP_eq_length.2 hall, List.length_take] at htake
  omega

/-- Where it is above the number, the members up to the number all stand before it. -/
theorem countP_le_of_lt_getElem (h : m < l[i]) : (l.countP fun t => decide (t ≤ m)) ≤ i := by
  have hnone : (l.drop i).countP (fun t => decide (t ≤ m)) = 0 := List.countP_eq_zero.2 fun t ht => by
    obtain ⟨j, hj, rfl⟩ := List.mem_drop_iff_getElem.1 ht
    have hle : l[i] ≤ l[i + j] := hl.rel_get_of_le (a := ⟨i, hi⟩) (b := ⟨i + j, by omega⟩) (Fin.mk_le_mk.2 (by omega))
    simp only [decide_eq_true_eq]
    omega
  have htake := (l.take i).countP_le_length (p := fun t => decide (t ≤ m))
  rw [List.length_take] at htake
  rw [← List.take_append_drop i l, List.countP_append, hnone]
  omega

end Rising

/-- The median of the tallies is the one number that has the place of the median (00_scope.md 3.4). -/
theorem median_eq {m : Nat} {ts : List Nat} (h : IsMedian m ts) : median ts = m := by
  obtain ⟨hmem, hbelow, habove⟩ := h
  have hpos : 0 < ts.length := List.length_pos_of_mem hmem
  have hperm := sortRising_perm ts
  have hi : (ts.length - 1) / 2 < (sortRising ts).length := by
    rw [hperm.length_eq]
    omega
  rw [← hperm.countP_eq] at hbelow habove
  have hget : median ts = (sortRising ts)[(ts.length - 1) / 2] := by
    rw [median, List.getD_eq_getElem?_getD, List.getElem?_eq_getElem hi, Option.getD_some]
  rw [hget]
  rcases Nat.lt_trichotomy (sortRising ts)[(ts.length - 1) / 2] m with hlt | heq | hgt
  · have := countP_lt_of_getElem_lt (sortRising_pairwise ts) hi hlt
    omega
  · exact heq
  · have := countP_le_of_lt_getElem (sortRising_pairwise ts) hi hgt
    omega

/-! ### The outcome -/

/-- Fewer than three tallies judge nothing (R124). -/
theorem outcome_few {own tolPpm : Nat} {c : Collection} (h : c.tallies.length < 3) : outcome own tolPpm c = none :=
  if_pos h

/-- With three or more the own tally is out of tolerance or within it, around the median (R124). -/
theorem outcome_many {own tolPpm tally m : Nat} {c : Collection} (h : 3 ≤ c.tallies.length)
    (hown : tallyOf own c = some tally) (hm : IsMedian m (c.tallies.map StationTally.tally)) :
    outcome own tolPpm c = some (decide (max 8 (m * tolPpm / 1000000) < max tally m - min tally m)) := by
  have hmany : ¬ c.tallies.length < Config.minTallies := Nat.not_lt.2 h
  rw [outcome, if_neg hmany, hown, median_eq hm]
  rfl

/-! ### The condition -/

/-- The condition as a judgment sets it, before its notice and the void flag. -/
def withSuspect (b : Bool) (s : State) : State := { s with xc := { s.xc with suspect := b } }

theorem setSuspect_raises {s : State} (h : s.xc.suspect = false) :
    setSuspect true s = raiseNotice .refSuspect (voidRun (withSuspect true s)) := by
  simp [setSuspect, h, withSuspect]

theorem setSuspect_clears {s : State} (h : s.xc.suspect = true) :
    setSuspect false s = clearNotice .refSuspect (withSuspect false s) := by
  simp [setSuspect, h, withSuspect]

theorem setSuspect_same {b : Bool} {s : State} (h : s.xc.suspect = b) : setSuspect b s = withSuspect b s := by
  subst h
  unfold setSuspect
  cases s.xc.suspect <;> rfl

theorem hasNotice_withoutNotice_self (set : BitVec 10) (n : Notice) : hasNotice (withoutNotice set n) n = false := by
  have hbit : n.single.getLsbD n.bit = true := by cases n <;> rfl
  simp [hasNotice, withoutNotice, hbit]

/-- A change of the condition sets it, and reaches neither the meter record nor the seal unit (R126). -/
theorem setSuspect_leaves (b : Bool) (s : State) : (setSuspect b s).xc = { s.xc with suspect := b } ∧
    (setSuspect b s).meter = s.meter ∧ (setSuspect b s).sealUnit = s.sealUnit := by
  obtain ⟨-, -, -, -, -, -, -, -, -, -, hxc, -⟩ := (setSuspect_closing b s).fields
  refine ⟨hxc, ?_⟩
  unfold setSuspect
  dsimp only
  split
  · exact raiseNotice_leaves .refSuspect _
  · split <;> exact ⟨rfl, rfl⟩

/-! ### The judgment -/

section Judgment

variable {c : Collection} {s : State}

/-- Condition and streak after the judgment of the collection. -/
def verdictOn (c : Collection) (s : State) : Bool × Nat :=
  judged s.xc.suspect s.xc.streak (outcome s.line.own s.cmd.setup.tolPpm c)

/-- The collection judged and the streak set, before the condition. -/
def collectionJudged (c : Collection) (s : State) : State := { s with xc := { s.xc with
  collection := some { c with judged := true }
  streak := (verdictOn c s).2 } }

theorem judge_eq (hc : s.xc.collection = some c) (hj : c.judged = false) :
    judge s = setSuspect (verdictOn c s).1 (collectionJudged c s) := by
  simp only [judge, hc, hj, Bool.false_eq_true, if_false]
  rfl

/-- A judgment reaches neither the meter record nor the seal unit. -/
theorem judge_leaves (s : State) : (judge s).meter = s.meter ∧ (judge s).sealUnit = s.sealUnit := by
  unfold judge
  split
  · split
    · exact ⟨rfl, rfl⟩
    · exact (setSuspect_leaves _ _).2
  · exact ⟨rfl, rfl⟩

/-- A judgment of an unjudged collection judges it, and sets streak and condition (R124, R125). -/
theorem judge_xc (hc : s.xc.collection = some c) (hj : c.judged = false) : (judge s).xc = { s.xc with
    collection := some { c with judged := true }, streak := (verdictOn c s).2, suspect := (verdictOn c s).1 } := by
  rw [judge_eq hc hj, (setSuspect_leaves _ _).1]
  rfl

/-- What follows from the verdict of a judgment for the open run and the notice (R126). -/
theorem judge_announces (hc : s.xc.collection = some c) (hj : c.judged = false) :
    ((verdictOn c s).1 = s.xc.suspect → (judge s).run = s.run) ∧
    ((verdictOn c s).1 = true → s.xc.suspect = false → hasNotice (judge s).cmd.notices .refSuspect = true ∧
      (judge s).run = { s.run with run := s.run.run.map fun x => { x with void := true } }) ∧
    ((verdictOn c s).1 = false → s.xc.suspect = true → hasNotice (judge s).cmd.notices .refSuspect = false ∧
      (judge s).run = s.run) := by
  rw [judge_eq hc hj]
  refine ⟨fun hsame => ?_, fun hraise hwas => ?_, fun hclear hwas => ?_⟩
  · rw [setSuspect_same (s := collectionJudged c s) hsame.symm]
    rfl
  · rw [hraise, setSuspect_raises (s := collectionJudged c s) hwas]
    exact ⟨raiseNotice_raises _ _, raiseNotice_run _ _⟩
  · rw [hclear, setSuspect_clears (s := collectionJudged c s) hwas]
    exact ⟨hasNotice_withoutNotice_self _ _, rfl⟩

/-- A judgment of an unjudged collection that has the own tally is one of its tallies (R124 to R126). -/
theorem judge_judgedBy {own : Nat} (hc : s.xc.collection = some c) (hj : c.judged = false)
    (hown : tallyOf s.line.own c = some own) : JudgedBy own (c.tallies.map StationTally.tally) s (judge s) := by
  have hxc := judge_xc hc hj
  have hsuspect : (judge s).xc.suspect = (verdictOn c s).1 := by rw [hxc]
  have hstreak : (judge s).xc.streak = (verdictOn c s).2 := by rw [hxc]
  obtain ⟨hsame, hraised, hcleared⟩ := judge_announces hc hj
  unfold JudgedBy
  rw [List.length_map, hsuspect, hstreak]
  refine ⟨fun hfew => ?_, fun m hm hmany => ⟨fun hoff => ?_, fun hwithin hbound => ?_⟩⟩
  · have hverdict : verdictOn c s = (s.xc.suspect, s.xc.streak) := by rw [verdictOn, outcome_few hfew, judged]
    rw [hverdict] at hsame ⊢
    exact ⟨rfl, rfl, hsame rfl⟩
  · have hverdict : verdictOn c s = (true, 0) := by
      rw [verdictOn, outcome_many hmany hown hm, decide_eq_true hoff, judged]
    rw [hverdict] at hsame hraised ⊢
    exact ⟨rfl, rfl, fun hwas => hraised rfl hwas, fun hwas => hsame hwas.symm⟩
  · have hverdict : verdictOn c s = judged s.xc.suspect s.xc.streak (some false) := by
      rw [verdictOn, outcome_many hmany hown hm, decide_eq_false (Nat.not_lt.2 hwithin)]
    rw [hverdict] at hsame hraised hcleared ⊢
    cases hwas : s.xc.suspect with
    | false =>
      rw [hwas] at hsame
      exact ⟨hsame rfl, fun _ => ⟨rfl, rfl⟩, fun h => Bool.noConfusion h, fun h => Bool.noConfusion h⟩
    | true =>
      rw [hwas] at hsame hcleared
      by_cases hthird : Config.goodWindows ≤ s.xc.streak + 1
      · have hj : judged true s.xc.streak (some false) = (false, 3) := by simp only [judged, if_true, if_pos hthird]; rfl
        rw [hj] at hcleared ⊢
        obtain ⟨hnotice, hrun⟩ := hcleared rfl rfl
        exact ⟨hrun, fun h => Bool.noConfusion h, fun _ hlt => absurd hthird (by simp [Config.goodWindows]; omega),
          fun _ _ => ⟨rfl, rfl, hnotice⟩⟩
      · have hj : judged true s.xc.streak (some false) = (true, s.xc.streak + 1) := by
          simp only [judged, if_true, if_neg hthird]
        rw [hj] at hsame ⊢
        exact ⟨hsame rfl, fun h => Bool.noConfusion h, fun _ _ => ⟨rfl, rfl⟩,
          fun _ htwo => absurd hthird (by simp [Config.goodWindows, htwo])⟩

end Judgment

/-! ### Early judgment -/

/-- A collection that lacks the tally of an entry's station waits (R123). -/
theorem earlyJudgment_waits {c : Collection} {s : State} (hc : s.xc.collection = some c)
    (h : ∃ k ∈ stations s.roster.entries, tallyOf k c = none) : earlyJudgment s = s := by
  obtain ⟨k, hk, hnone⟩ := h
  obtain ⟨e, he, rfl⟩ := List.mem_map.1 hk
  have hwait : ¬ allReported c s.roster.entries = true := fun hall => by
    have := List.all_eq_true.1 hall e he
    simp [hnone] at this
  simp only [earlyJudgment, hc, if_neg hwait]

/-- One that has the tally of every entry's station is judged (R123). -/
theorem earlyJudgment_judges {c : Collection} {s : State} (hc : s.xc.collection = some c)
    (h : ∀ k ∈ stations s.roster.entries, tallyOf k c ≠ none) : earlyJudgment s = judge s := by
  have hall : allReported c s.roster.entries = true :=
    List.all_eq_true.2 fun e he => Option.isSome_iff_ne_none.2 (h e.station (List.mem_map_of_mem he))
  simp only [earlyJudgment, hc, if_pos hall]

theorem judge_roster (s : State) : (judge s).roster = s.roster := by
  obtain ⟨_, _, _, hkeeps⟩ := judge_closing s
  obtain ⟨-, -, -, -, -, -, -, -, -, hroster, -⟩ := hkeeps.fields
  exact hroster

/-! ### A tally entered -/

/-- The collection with a tally entered under a station's number (R122). -/
def withTally (k v : Nat) (c : Collection) : Collection := { c with tallies := enterTally k v c.tallies }

/-- An entered tally is the station's, and the other stations keep theirs (R122). -/
theorem tallyOf_withTally (k v j : Nat) (c : Collection) :
    tallyOf j (withTally k v c) = if j = k then some v else tallyOf j c := by
  unfold tallyOf withTally enterTally
  dsimp only
  split
  · next hany =>
    have hstation (x : StationTally) : ((if x.station = k then { x with tally := v } else x).station == j) =
        (x.station == j) := by split <;> rfl
    rw [List.find?_map, Option.map_map]
    simp only [Function.comp_def, hstation]
    split
    · next hjk =>
      subst hjk
      obtain ⟨y, hy, hyk⟩ := List.any_eq_true.1 hany
      obtain ⟨x, hx⟩ := Option.isSome_iff_exists.1 
        ((List.find?_isSome (p := fun x => x.station == j)).2 ⟨y, hy, hyk⟩)
      rw [hx, Option.map_some, if_pos (beq_iff_eq.1 (List.find?_some hx :))]
    · next hjk =>
      refine Option.map_congr fun x hx => ?_
      have hxj := beq_iff_eq.1 (List.find?_some hx :)
      rw [if_neg fun hxk => hjk (hxj.symm.trans hxk)]
  · next hany =>
    rw [List.find?_append]
    split
    · next hjk =>
      subst hjk
      have hnone : (c.tallies.find? fun x => x.station == j) = none :=
        List.find?_eq_none.2 fun x hx hxj => hany (List.any_eq_true.2 ⟨x, hx, hxj⟩)
      simp [hnone]
    · next hjk => simp [Ne.symm hjk]

end Sys2Proof.Machine
end

section
/-! SUPPORT. A peer's TALLY: the marks of its sender, and the collection of its window (R105, R122, R123). -/

namespace Sys2Proof.Machine

/-! ### The marks -/

/-- A position peer's frame updates its entry (R105). -/
theorem rosterTakes_peer {h : Hdr} {s : State} (hs : FromPeer h s) (f : RosterEntry → RosterEntry) :
    rosterTakes h.sender.toNat f s = { s with roster := { s.roster with
      entries := hearPeer h.sender.toNat f s.roster.entries } } := by
  obtain ⟨hlow, hhigh, hown⟩ := hs
  exact if_pos (by simp [(roleOf_position_iff _).2 ⟨hlow, hhigh⟩, hown])

/-- The stations of a roster that has heard a peer (R105). -/
theorem mem_stations_hearPeer {k j : Nat} {f : RosterEntry → RosterEntry} (hf : ∀ e, (f e).station = e.station)
    {es : List RosterEntry} : j ∈ stations (hearPeer k f es) ↔ j = k ∨ j ∈ stations es := by
  rw [stations_hearPeer k hf, stations_withPeer]
  split
  · next hk => exact ⟨.inr, fun h => h.elim (fun h => h ▸ hk) id⟩
  · rw [List.mem_append, List.mem_singleton, or_comm]

/-! ### The frame -/

section Peer

variable {h : Hdr} {bs : List Byte} {w : BitVec 16} {v : Nat} {s : State}

/-- The state once the acknowledge slot is driven and the roster has heard the sender, with an update of its entry. -/
def reported (h : Hdr) (f : RosterEntry → RosterEntry) (s : State) : State := { acked s with roster := { s.roster with
  entries := hearPeer h.sender.toNat f s.roster.entries } }

theorem rosterTakes_acked (hs : FromPeer h s) (f : RosterEntry → RosterEntry) :
    rosterTakes h.sender.toNat f (acked s) = reported h f s := rosterTakes_peer (s := acked s) hs f

theorem exec_tallyReceived (hh : Hears s) (hs : FromPeer h s) (hread : readTally bs = some (w, v)) :
    exec (.tallyReceived h bs) s = .next (takeTally h.sender.toNat w v (reported h id s)) := by
  refine congrArg Host.Outcome.next ((receiveKind_fits hh hs rfl (by simp [fits, hread])).trans ?_)
  simp only [deliver, hread]
  rw [rosterMarks, rosterTakes_acked hs]

/-- Without an unjudged collection for its window a tally is passed over (R122). -/
theorem takeTally_passes {k : Nat} {s : State} (h : ∀ c, s.xc.collection = some c → c.judged = true ∨ c.window ≠ w) :
    takeTally k w v s = s := by
  unfold takeTally
  split
  · next c hc => exact if_pos (by simpa using h c hc)
  · rfl

/-- A tally of the collection's window enters it, and the early-judgment test follows (R122, R123). -/
theorem takeTally_enters {k : Nat} {c : Collection} {s : State} (hc : s.xc.collection = some c) (hj : c.judged = false)
    (hw : c.window = w) :
    takeTally k w v s = earlyJudgment { s with xc := { s.xc with collection := some (withTally k v c) } } := by
  have htakes : ¬ (c.judged || c.window != w) = true := by simp [hj, hw]
  simp only [takeTally, hc, if_neg htakes]
  rfl

/-- What a tally of the collection's window leaves, while an entry's station lacks its own and once none does. -/
theorem takeTally_reported {c : Collection} (hown : h.sender.toNat ≠ s.line.own) (hc : s.xc.collection = some c)
    (hj : c.judged = false) (hw : c.window = w) :
    ((∃ e ∈ s.roster.entries, e.station ≠ h.sender.toNat ∧ tallyOf e.station c = none) →
      takeTally h.sender.toNat w v (reported h id s) = { reported h id s with xc := { s.xc with
        collection := some (withTally h.sender.toNat v c) } }) ∧
    ((∀ e ∈ s.roster.entries, e.station ≠ h.sender.toNat → tallyOf e.station c ≠ none) →
      let t := takeTally h.sender.toNat w v (reported h id s)
      t.roster = (reported h id s).roster ∧
      t.xc.collection = some { withTally h.sender.toNat v c with judged := true } ∧
      ∀ own, tallyOf s.line.own c = some own →
        JudgedBy own ((withTally h.sender.toNat v c).tallies.map StationTally.tally) s t) := by
  have hstations {j : Nat} : j ∈ stations (reported h id s).roster.entries ↔ j = h.sender.toNat ∨ j ∈ stations s.roster.entries :=
    mem_stations_hearPeer fun _ => rfl
  rw [takeTally_enters (s := reported h id s) hc hj hw]
  refine ⟨fun hlacks => ?_, fun hall => ?_⟩
  · obtain ⟨e, he, hne, hnone⟩ := hlacks
    refine earlyJudgment_waits rfl ⟨e.station, hstations.2 (.inr (List.mem_map_of_mem he)), ?_⟩
    rw [tallyOf_withTally, if_neg hne, hnone]
  · rw [earlyJudgment_judges rfl fun k hk => ?_]
    · refine ⟨judge_roster _, ?_, fun own ho => ?_⟩
      · rw [judge_xc (c := withTally h.sender.toNat v c) rfl hj]
      · refine judge_judgedBy (s := { reported h id s with xc := { s.xc with
          collection := some (withTally h.sender.toNat v c) } }) rfl hj ?_
        exact (tallyOf_withTally _ v s.line.own c).trans ((if_neg (Ne.symm hown)).trans ho)
    · rw [tallyOf_withTally]
      split
      · exact Option.some_ne_none v
      · next hne =>
        obtain ⟨e, he, rfl⟩ := List.mem_map.1 ((hstations.1 hk).resolve_left hne)
        exact hall e he hne

end Peer

/-- Settles O26: the tally enters the collection of its window, and the early-judgment test decides by the stations of the
roster that has heard the sender. -/
theorem tallyEntersCollection : Obligations.TallyEntersCollection := by
  intro h bs w v s hh hs hread
  have hexec := exec_tallyReceived hh hs hread
  refine ⟨fun hpass => hexec.trans (congrArg Host.Outcome.next (takeTally_passes (s := reported h id s) hpass)),
    fun c hc hj hw => ?_⟩
  obtain ⟨-, -, hown⟩ := hs
  obtain ⟨hwaits, hjudges⟩ := takeTally_reported (v := v) hown hc hj hw
  have hsender (b : Bool) : tallyOf h.sender.toNat { withTally h.sender.toNat v c with judged := b } = some v :=
    (tallyOf_withTally h.sender.toNat v _ c).trans (if_pos rfl)
  have hothers (b : Bool) (k : Nat) (hk : k ≠ h.sender.toNat) :
      tallyOf k { withTally h.sender.toNat v c with judged := b } = tallyOf k c :=
    (tallyOf_withTally h.sender.toNat v k c).trans (if_neg hk)
  by_cases hlacks : ∃ e ∈ s.roster.entries, e.station ≠ h.sender.toNat ∧ tallyOf e.station c = none
  · refine ⟨_, { withTally h.sender.toNat v c with judged := false }, hexec, ?_⟩
    rw [hwaits hlacks]
    obtain ⟨e, he, hne, hnone⟩ := hlacks
    have hsame : withTally h.sender.toNat v c = { withTally h.sender.toNat v c with judged := false } :=
      congrArg (fun b => ({ withTally h.sender.toNat v c with judged := b } : Collection)) hj
    exact ⟨congrArg some hsame, rfl, rfl, hsender false, hothers false, fun _ => ⟨rfl, by rw [hsame]; rfl⟩,
      fun hall => absurd hnone (hall e he hne)⟩
  · have hall : ∀ e ∈ s.roster.entries, e.station ≠ h.sender.toNat → tallyOf e.station c ≠ none :=
      fun e he hne hnone => hlacks ⟨e, he, hne, hnone⟩
    obtain ⟨hroster, hcollection, hjudged⟩ := hjudges hall
    exact ⟨_, _, hexec, hcollection, hroster, rfl, hsender true, hothers true, fun h => absurd h hlacks,
      fun _ => ⟨rfl, hjudged⟩⟩

end Sys2Proof.Machine
end

section
/-! SUPPORT. The roster's entry of a peer that is heard, and the payloads of peers that fit no kind (R105, R151, R155). -/

namespace Sys2Proof.Machine

/-! ### The entry -/

/-- The entry of a station as it stands, or the new one that it would get (R105). -/
def entryOf (k : Nat) (es : List RosterEntry) : RosterEntry := (es.find? fun e => e.station == k).getD (newPeer k)

theorem entryOf_station (k : Nat) (es : List RosterEntry) : (entryOf k es).station = k := by
  unfold entryOf
  cases h : es.find? fun e => e.station == k with
  | none => rfl
  | some e => exact beq_iff_eq.1 (List.find?_some h :)

/-- The entries once a station has one: the ones that stood, and its own. -/
theorem mem_withPeer {k : Nat} {es : List RosterEntry} {x : RosterEntry} :
    x ∈ withPeer k es ↔ x ∈ es ∨ (k ∉ stations es ∧ x = newPeer k) := by
  unfold withPeer
  simp only [mem_stations_iff]
  split
  · next hk => simp [hk]
  · next hk => simp [hk]

theorem entryOf_mem (k : Nat) (es : List RosterEntry) : entryOf k es ∈ withPeer k es := by
  rw [mem_withPeer]
  unfold entryOf
  cases h : es.find? fun e => e.station == k with
  | none =>
    refine .inr ⟨fun hk => ?_, rfl⟩
    obtain ⟨e, he, rfl⟩ := List.mem_map.1 hk
    exact absurd (beq_self_eq_true e.station) (List.find?_eq_none.1 h e he)
  | some e => exact .inl (List.mem_of_find?_eq_some h)

/-- With one entry for a station that entry is the station's (R103). -/
theorem eq_entryOf {k : Nat} {es : List RosterEntry} (hkeys : (stations es).Nodup) {x : RosterEntry}
    (hx : x ∈ withPeer k es) (hk : x.station = k) : x = entryOf k es := by
  refine List.inj_on_of_nodup_map (f := RosterEntry.station) (l := withPeer k es) ?_ hx (entryOf_mem k es)
    (hk.trans (entryOf_station k es).symm)
  show (stations (withPeer k es)).Nodup
  rw [stations_withPeer]
  split
  · exact hkeys
  · next hnew => exact List.nodup_append.2 ⟨hkeys, List.nodup_singleton k,
      fun a ha b hb hab => hnew (List.mem_singleton.1 hb ▸ hab ▸ ha)⟩

/-- What a heard peer's entry becomes by an update (R105). -/
def heardEntry (f : RosterEntry → RosterEntry) (e : RosterEntry) : RosterEntry :=
  { f e with current := true, next := true }

/-- A heard peer has the updated entry and no other, and the other peers keep theirs (R103, R105). -/
theorem hearPeer_entryIs {k : Nat} {f : RosterEntry → RosterEntry} (hf : ∀ e, (f e).station = e.station)
    {before after : Roster} (hkeys : (stations before.entries).Nodup)
    (hafter : after.entries = hearPeer k f before.entries) :
    EntryIs k (heardEntry f (entryOf k before.entries)) before after := by
  have hmem {x : RosterEntry} : x ∈ after.entries ↔
      ∃ e ∈ withPeer k before.entries, (if e.station = k then heardEntry f e else e) = x := by
    rw [hafter]
    exact List.mem_map
  refine ⟨fun x hx hk => ?_, ?_, fun x hk => ?_⟩
  · obtain ⟨e, he, rfl⟩ := hmem.1 hx
    by_cases hek : e.station = k
    · rw [if_pos hek, eq_entryOf hkeys he hek]
    · exact absurd (by rwa [if_neg hek] at hk) hek
  · exact hmem.2 ⟨_, entryOf_mem k _, if_pos (entryOf_station k _)⟩
  · rw [hmem]
    constructor
    · rintro ⟨e, he, rfl⟩
      split at hk
      · next hek => exact absurd ((hf e).trans hek) hk
      · next hek =>
        rw [if_neg hek]
        rcases mem_withPeer.1 he with hold | ⟨-, rfl⟩
        · exact hold
        · exact absurd rfl hek
    · exact fun hx => ⟨x, mem_withPeer.2 (.inl hx), if_neg hk⟩

/-! ### Payloads that fit no kind -/

/-- A frame of a position peer that does not fit its kind sets the marks alone (R155). -/
theorem receiveKind_unfit {k : FrameKind} {h : Hdr} {bs : List Byte} {s : State} (hh : Hears s) (hs : FromPeer h s)
    (hr : k.role = .position) (hf : fits k bs = false) (hl : bs.length ≤ 16) :
    receiveKind k h bs s = rosterMarks h.sender.toNat (acked s) := by
  obtain ⟨hp, hv, hawait, hline⟩ := hh
  obtain ⟨hlow, hhigh, hown⟩ := hs
  obtain ⟨hkind, hcls⟩ := kind_fields k
  have hdrive : driveAs .acknowledgeSlot s = acked s := by simp [driveAs, receiverDrives, acked, hv]
  have hreserved : ¬ 62 ≤ h.sender.toNat := by omega
  have hlong : ¬ 17 ≤ (BitVec.ofNat 5 bs.length).toNat := by
    rw [BitVec.toNat_ofNat]
    omega
  have hrole : k.role = roleOf h.sender.toNat := hr.trans ((roleOf_position_iff _).2 ⟨hlow, hhigh⟩).symm
  have hmarks : receiveFilter (frameOfKind k h bs) (acked s) = .marksOnly := by
    simp only [receiveFilter, frameOfKind, acked, hv, hreserved, hlong, hkind, hcls, hown, hrole, hf, Bool.not_true,
      Bool.false_eq_true, if_false, ne_eq, not_true_eq_false]
  rw [receiveKind, whenRunning_running hp, receive, hawait, if_neg Bool.false_ne_true, hdrive,
    countGood_of_ne (s := acked s) hline,
    filtered, hmarks]
  rfl

theorem batchState_ofCode_none {n : Nat} (h : 8 < n) : BatchState.ofCode n = none := by
  obtain ⟨m, rfl⟩ := Nat.exists_eq_add_of_le' (Nat.succ_le_of_lt h)
  rfl

theorem progress_ofCode_none {n : Nat} (h : 3 < n) : Progress.ofCode n = none := by
  obtain ⟨m, rfl⟩ := Nat.exists_eq_add_of_le' (Nat.succ_le_of_lt h)
  rfl

theorem verdict_ofCode_none {n : Nat} (h : 6 < n) : Verdict.ofCode n = none := by
  obtain ⟨m, rfl⟩ := Nat.exists_eq_add_of_le' (Nat.succ_le_of_lt h)
  rfl

theorem joinCause_ofCode_none {n : Nat} (h : 3 < n) : JoinCause.ofCode n = none := by
  obtain ⟨m, rfl⟩ := Nat.exists_eq_add_of_le' (Nat.succ_le_of_lt h)
  rfl

section Unfit

variable {bs : List Byte}

theorem readStatus_none (h : bs.length ≠ 6 ∨ 8 < byteAt bs 0 ∨ (byteAt bs 1 ≠ 255 ∧ 3 < byteAt bs 3)) :
    readStatus bs = none := by
  unfold readStatus
  split
  · next b p r v _ _ =>
    rcases h with hlen | hbatch | ⟨hindex, hvalue⟩
    · exact absurd rfl hlen
    · have hnone : BatchState.ofCode b.toNat = none := batchState_ofCode_none hbatch
      rw [hnone]
    · have hopen : ¬ p = 255 := fun hp => hindex (congrArg BitVec.toNat hp)
      have hnone : Progress.ofCode v.toNat = none := progress_ofCode_none hvalue
      split
      · rfl
      · rw [if_neg hopen, hnone]
  · rfl

theorem readProgress_none (h : bs.length ≠ 4 ∨ 3 < byteAt bs 2 ∨ 8 < byteAt bs 3) : readProgress bs = none := by
  unfold readProgress
  split
  · next p r v b =>
    rcases h with hlen | hvalue | hbatch
    · exact absurd rfl hlen
    · have hnone : Progress.ofCode v.toNat = none := progress_ofCode_none hvalue
      rw [hnone]
    · have hnone : BatchState.ofCode b.toNat = none := batchState_ofCode_none hbatch
      rw [hnone]
      cases Progress.ofCode v.toNat <;> rfl
  · rfl

theorem readPointResult_none (h : bs.length ≠ 11 ∨ 6 < byteAt bs 2) : readPointResult bs = none := by
  unfold readPointResult
  split
  · next p r v _ _ _ _ _ _ _ _ =>
    rcases h with hlen | hverdict
    · exact absurd rfl hlen
    · have hnone : Verdict.ofCode v.toNat = none := verdict_ofCode_none hverdict
      rw [hnone]
  · rfl

theorem readJoin_none (h : bs.length ≠ 2 ∨ 3 < byteAt bs 0 ∨ 8 < byteAt bs 1) : readJoin bs = none := by
  unfold readJoin
  split
  · next c b =>
    rcases h with hlen | hcause | hbatch
    · exact absurd rfl hlen
    · have hnone : JoinCause.ofCode c.toNat = none := joinCause_ofCode_none hcause
      rw [hnone]
    · have hnone : BatchState.ofCode b.toNat = none := batchState_ofCode_none hbatch
      rw [hnone]
      cases JoinCause.ofCode c.toNat <;> rfl
  · rfl

theorem readRelease_none (h : bs.length ≠ 2 ∨ 2 < byteAt bs 1) : readRelease bs = none := by
  unfold readRelease
  split
  · rcases h with hlen | hreason
    · exact absurd rfl hlen
    · exact if_neg (Nat.not_le.2 hreason)
  · rfl

end Unfit

end Sys2Proof.Machine
end

section
/-! SUPPORT. STATUS, PROGRESS, POINT_RESULT and the frames that set the marks alone, in the roster (R105 to R109). -/

namespace Sys2Proof.Machine

/-- Without a run that the roster's answer completes, the completion test changes nothing (R67, R114). -/
theorem completionTest_waits {s : State} (h : ∀ x, s.run.run = some x → nonePending x.p x.r s = false) :
    completionTest s = s := by
  unfold completionTest
  split
  · next x hx => rw [h x hx, Bool.and_false, if_neg Bool.false_ne_true]
  · rfl

section Peer

variable {h : Hdr} {bs : List Byte} {s : State}

theorem reported_entryIs (hkeys : RosterKeys s) {f : RosterEntry → RosterEntry} (hf : ∀ e, (f e).station = e.station) :
    EntryIs h.sender.toNat (heardEntry f (entryOf h.sender.toNat s.roster.entries)) s.roster (reported h f s).roster :=
  hearPeer_entryIs hf hkeys.1 rfl

/-- A report makes the sender's entry a given one, and does nothing else while no run closes by it. -/
def Becomes (h : Hdr) (s : State) (i : Instr) (e : RosterEntry) : Prop :=
  ∃ t, exec i s = .next t ∧ EntryIs h.sender.toNat e s.roster t.roster ∧ t.roster.agingTimer = s.roster.agingTimer ∧
    ((∀ x, s.run.run = some x → nonePending x.p x.r t = false) → t = { acked s with roster := t.roster })

/-- A report that fits updates the sender's entry, and the completion test follows (R107 to R109). -/
theorem becomes_of_report {i : Instr} {k : FrameKind} {f : RosterEntry → RosterEntry} {e : RosterEntry} (hh : Hears s)
    (hs : FromPeer h s) (hkeys : RosterKeys s) (hr : k.role = .position) (hf : fits k bs = true)
    (hstation : ∀ e, (f e).station = e.station) (hexec : exec i s = .next (receiveKind k h bs s))
    (hdeliver : deliver k h bs (acked s) = completionTest (rosterTakes h.sender.toNat f (acked s)))
    (he : heardEntry f (entryOf h.sender.toNat s.roster.entries) = e) : Becomes h s i e := by
  rw [rosterTakes_acked hs] at hdeliver
  have hroster := completionTest_roster (reported h f s)
  refine ⟨completionTest (reported h f s), ?_, ?_, ?_, fun hpending => ?_⟩
  · rw [hexec, receiveKind_fits hh hs hr hf, hdeliver]
  · rw [hroster, ← he]
    exact reported_entryIs hkeys hstation
  · rw [hroster]
    rfl
  · have hsame := completionTest_waits (s := reported h f s) fun x hx => by
      have := hpending x hx
      rwa [nonePending, hroster] at this
    rw [hsame]
    rfl

/-- A frame sets the sender's marks on a state and does nothing else. -/
def SetsMarks (h : Hdr) (s : State) (i : Instr) (base : State) : Prop :=
  ∃ t, exec i s = .next t ∧ t = { acked base with roster := t.roster } ∧
    t.roster.agingTimer = s.roster.agingTimer ∧
    EntryIs h.sender.toNat { entryOf h.sender.toNat s.roster.entries with current := true, next := true }
      s.roster t.roster

theorem setsMarks_of {i : Instr} (hs : FromPeer h s) (hkeys : RosterKeys s) (base : State) (hroster : base.roster = s.roster)
    (hown : base.line.own = s.line.own) (hexec : exec i s = .next (rosterMarks h.sender.toNat (acked base))) :
    SetsMarks h s i base := by
  have hpeer : FromPeer h base := by unfold FromPeer; rwa [hown]
  rw [rosterMarks, rosterTakes_acked hpeer] at hexec
  refine ⟨_, hexec, rfl, (congrArg Roster.agingTimer hroster :), ?_⟩
  exact hearPeer_entryIs (f := id) (fun _ => rfl) hkeys.1 (congrArg (fun r => hearPeer _ id (Roster.entries r)) hroster)

/-- A frame that does not fit its kind sets the marks, on the state as the row's pins leave it (R155, log 4). -/
theorem setsMarks_unfit {i : Instr} {k : FrameKind} (hh : Hears s) (hs : FromPeer h s) (hkeys : RosterKeys s)
    (hr : k.role = .position) (hf : fits k bs = false) (hl : bs.length ≤ 16)
    (hexec : exec i s = .next (receiveKind k h bs s)) : SetsMarks h s i s :=
  setsMarks_of hs hkeys s rfl rfl (hexec.trans (congrArg _ (receiveKind_unfit hh hs hr hf hl)))

theorem setsMarks_unfit_level {i : Instr} {k : FrameKind} {level : Bool} (hh : Hears s) (hs : FromPeer h s)
    (hkeys : RosterKeys s) (hr : k.role = .position) (hf : fits k bs = false) (hl : bs.length ≤ 16)
    (hexec : exec i s = .next (receiveKind k h bs (withStrokeDone level s))) : SetsMarks h s i (withStrokeDone level s) :=
  setsMarks_of hs hkeys (withStrokeDone level s) rfl rfl
    (hexec.trans (congrArg _ (receiveKind_unfit (s := withStrokeDone level s) hh hs hr hf hl)))

/-- So does a frame whose delivery is the marks alone. -/
theorem setsMarks_delivered {i : Instr} {k : FrameKind} (hh : Hears s) (hs : FromPeer h s) (hkeys : RosterKeys s)
    (hr : k.role = .position) (hf : fits k bs = true) (hexec : exec i s = .next (receiveKind k h bs s))
    (hdeliver : deliver k h bs (acked s) = rosterMarks h.sender.toNat (acked s)) : SetsMarks h s i s :=
  setsMarks_of hs hkeys s rfl rfl (hexec.trans (congrArg _ ((receiveKind_fits hh hs hr hf).trans hdeliver)))

theorem rangeOk_false {p r : Nat} (h : 31 < p ∨ r = 0) : ¬ rangeOk p r = true := by
  simp only [rangeOk, Bool.and_eq_true, decide_eq_true_eq, bne_iff_ne]
  omega

/-- MEASUREMENT, NOTICE, REPLY and DETAIL set the marks whether they fit or not (R105). -/
theorem setsMarks_measurement (hh : Hears s) (hs : FromPeer h s) (hkeys : RosterKeys s) (m : MarksKind)
    (hl : bs.length ≤ 16) : SetsMarks h s (.measurementReceived m h bs) s := by
  have hrole : (marksKind m).role = .position := by cases m <;> rfl
  by_cases hf : fits (marksKind m) bs = true
  · exact setsMarks_delivered (k := marksKind m) hh hs hkeys hrole hf rfl (by cases m <;> rfl)
  · exact setsMarks_unfit (k := marksKind m) hh hs hkeys hrole (Bool.eq_false_of_not_eq_true hf) hl rfl

end Peer

/-- Settles O28: a report that fits updates the sender's entry, every other frame sets its marks. -/
theorem peerFramesUpdateRoster : Obligations.PeerFramesUpdateRoster := by
  intro h s hh hs hkeys
  have hold := entryOf_station h.sender.toNat s.roster.entries
  refine ⟨fun bs b hread => ?_, fun bs b p r v hread hp hr => ?_, fun bs p r v b hread hp hr => ?_,
    fun bs p r hread hp hr => ?_, fun bs b p r v hread hout => ?_, fun bs p r v b hread hout => ?_,
    fun bs p r hread hout => ?_, fun bs hl => ⟨fun m => setsMarks_measurement hh hs hkeys m hl, fun hunfit => ?_,
      fun hunfit => ?_, fun hunfit => ?_, fun hunfit => ?_,
      fun level => ⟨fun hunfit => ?_, fun hunfit => ?_, fun hunfit => ?_⟩⟩⟩
  · exact becomes_of_report (k := .status) (bs := bs) (f := fun e => { e with batch := some b }) hh hs hkeys rfl
      (by simp [fits, hread]) (fun _ => rfl) rfl (by simp only [deliver, hread, takeStatus]) rfl
  · exact becomes_of_report (k := .status) (bs := bs)
      (f := fun e => { e with batch := some b, progress := some ⟨p, r, v.peer⟩ }) hh hs hkeys rfl
      (by simp [fits, hread]) (fun _ => rfl) rfl
      (by simp only [deliver, hread, takeStatus, if_pos (rangeOk_of hp hr)]) (by rw [heardEntry, hold])
  · exact becomes_of_report (k := .progress) (bs := bs)
      (f := fun e => { e with batch := some b, progress := some ⟨p, r, v.peer⟩ }) hh hs hkeys rfl
      (by simp [fits, hread]) (fun _ => rfl) rfl
      (by simp only [deliver, hread, takeProgress, if_pos (rangeOk_of hp hr)]) (by rw [heardEntry, hold])
  · exact becomes_of_report (k := .pointResult) (bs := bs) (f := fun e => { e with progress := some ⟨p, r, .closed⟩ })
      hh hs hkeys rfl (by simp [fits, hread]) (fun _ => rfl) rfl
      (by simp only [deliver, hread, takePointResult, if_pos (rangeOk_of hp hr)]) rfl
  · exact setsMarks_delivered (k := .status) (bs := bs) hh hs hkeys rfl (by simp [fits, hread]) rfl
      (by simp only [deliver, hread, takeStatus, if_neg (rangeOk_false hout)])
  · exact setsMarks_delivered (k := .progress) (bs := bs) hh hs hkeys rfl (by simp [fits, hread]) rfl
      (by simp only [deliver, hread, takeProgress, if_neg (rangeOk_false hout)])
  · exact setsMarks_delivered (k := .pointResult) (bs := bs) hh hs hkeys rfl (by simp [fits, hread]) rfl
      (by simp only [deliver, hread, takePointResult, if_neg (rangeOk_false hout)])
  · exact setsMarks_unfit (k := .status) hh hs hkeys rfl (by rw [fits, readStatus_none hunfit]; rfl) hl rfl
  · exact setsMarks_unfit (k := .progress) hh hs hkeys rfl (by rw [fits, readProgress_none hunfit]; rfl) hl rfl
  · exact setsMarks_unfit (k := .pointResult) hh hs hkeys rfl (by rw [fits, readPointResult_none hunfit]; rfl) hl rfl
  · exact setsMarks_unfit (k := .tally) hh hs hkeys rfl (by rw [fits, readTally, if_neg hunfit]; rfl) hl rfl
  · exact setsMarks_unfit_level (k := .join) hh hs hkeys rfl (by rw [fits, readJoin_none hunfit]; rfl) hl rfl
  · rw [List.length_eq_zero_iff] at hunfit
    subst hunfit
    exact setsMarks_unfit_level (k := .claim) hh hs hkeys rfl rfl hl rfl
  · exact setsMarks_unfit_level (k := .release) hh hs hkeys rfl (by rw [fits, readRelease_none hunfit]; rfl) hl rfl

end Sys2Proof.Machine
end

section
/-! SUPPORT. The grant test of the own claim, and the removal of the claims of peers (R134, R136, R139). -/

namespace Sys2Proof.Machine

/-! ### The grant -/

/-- A RELEASE becomes the owed one, and its queuing reaches neither the meter record nor the rest of the seal unit
(R138, R162). -/
theorem queueRelease_leaves (n : Nat) (r : ReleaseReason) (s : State) : (queueRelease n r s).meter = s.meter ∧
    (queueRelease n r s).sealUnit = { s.sealUnit with owed := some ⟨n, r⟩ } :=
  enqueue_of_not_claim (m := .release n r) (by simp [TxMsg.kind])
    { s with sealUnit := { s.sealUnit with owed := some ⟨n, r⟩ } }

theorem queueRelease_remembers (n : Nat) (r : ReleaseReason) (s : State) : Remembers s (queueRelease n r s) := by
  have h := enqueue_remembers (.release n r) { s with sealUnit := { s.sealUnit with owed := some ⟨n, r⟩ } }
  exact ⟨h.records, h.notices⟩

/-- With STROKE-DONE low the grant begins the stroke (R139). -/
theorem grant_begins {c : OwnClaim} {s : State} (h : s.pins.strokeDone = false) : grant c s = { s with
    sealUnit := { s.sealUnit with
      pressDrive := true
      strokeTimer := some (later s.fe.now (s.cmd.setup.strokeTimeout * Config.second)) }
    meter := { s.meter with batch := .pressing } } := by
  simp [grant, h]

/-- With STROKE-DONE high it is refused as a press fault (R139). -/
theorem grant_refused {c : OwnClaim} {s : State} (h : s.pins.strokeDone = true) :
    (grant c s).meter = { s.meter with batch := .sealFault } ∧
    (grant c s).sealUnit = { s.sealUnit with current := none, owed := some ⟨c.number, .fault⟩ } ∧
    hasNotice (grant c s).cmd.notices .pressFault = true := by
  obtain ⟨hmeter, hunit⟩ := raiseNotice_leaves .pressFault s
  obtain ⟨hmeter', hunit'⟩ := queueRelease_leaves c.number .fault (raiseNotice .pressFault s)
  rw [grant, if_pos h]
  refine ⟨?_, ?_, (queueRelease_remembers c.number .fault _).notices _ (raiseNotice_raises .pressFault s)⟩
  · dsimp only
    rw [hmeter', hmeter]
  · dsimp only
    rw [hunit', hunit]

/-! ### The test -/

theorem grantTest_not_claiming {s : State} (h : s.meter.batch ≠ .claiming) : grantTest s = s := by
  unfold grantTest
  split
  · next hb _ => exact absurd hb h
  · rfl

section Tested

variable {c : OwnClaim} {place : Nat} {s : State}

theorem grantTest_waits (hb : s.meter.batch = .claiming) (hc : s.sealUnit.current = some c)
    (hplace : placeOf s.line.own s.sealUnit.pressList = some place) (h : s.cmd.setup.pressBudget ≤ place) :
    grantTest s = s := by
  simp only [grantTest, hb, hc, hplace, Option.any_some, decide_eq_false (Nat.not_lt.2 h), Bool.and_false,
    Bool.false_eq_true, if_false]

theorem grantTest_grants (hb : s.meter.batch = .claiming) (hc : s.sealUnit.current = some c) (hsent : c.sent = true)
    (hplace : placeOf s.line.own s.sealUnit.pressList = some place) (h : place < s.cmd.setup.pressBudget) :
    grantTest s = grant c s := by
  simp only [grantTest, hb, hc, hplace, hsent, Option.any_some, decide_eq_true h, Bool.and_self, if_true]

/-- The grant test of the sent own claim in its place of the press list (R136, R139). -/
theorem grantTest_tested (hb : s.meter.batch = .claiming) (hc : s.sealUnit.current = some c) (hsent : c.sent = true)
    (hplace : placeOf s.line.own s.sealUnit.pressList = some place) :
    GrantTested c place s.pins.strokeDone s.sealUnit.pressList s (grantTest s) := by
  refine ⟨fun hbehind => ?_, fun hamong hlow => ?_, fun hamong hhigh => ?_⟩
  · rw [grantTest_waits hb hc hplace hbehind]
    exact ⟨rfl, rfl⟩
  · rw [grantTest_grants hb hc hsent hplace hamong, grant_begins hlow]
    exact ⟨rfl, rfl⟩
  · rw [grantTest_grants hb hc hsent hplace hamong]
    obtain ⟨hmeter, hunit, hnotice⟩ := grant_refused (c := c) hhigh
    rw [hmeter, hunit]
    exact ⟨rfl, rfl, rfl, rfl, hnotice⟩

/-- What the test reads of the state before it, and what it says of the state after it, when other blocks act besides. -/
theorem GrantTested.between {level : Bool} {list : List Claim} {before after s t : State}
    (h : GrantTested c place level list before after) (hunit : before.sealUnit = s.sealUnit)
    (hmeter : before.meter = s.meter) (hnow : before.fe.now = s.fe.now) (hsetup : before.cmd.setup = s.cmd.setup)
    (hunit' : t.sealUnit = after.sealUnit) (hmeter' : t.meter = after.meter)
    (hnotice : hasNotice after.cmd.notices .pressFault = true → hasNotice t.cmd.notices .pressFault = true) :
    GrantTested c place level list s t := by
  unfold GrantTested at *
  rw [hunit', hmeter', ← hunit, ← hmeter, ← hnow, ← hsetup]
  obtain ⟨hwaits, hbegins, hrefused⟩ := h
  refine ⟨hwaits, hbegins, fun hamong hhigh => ?_⟩
  obtain ⟨hbatch, hcurrent, hdrive, howed, hfault⟩ := hrefused hamong hhigh
  exact ⟨hbatch, hcurrent, hdrive, howed, hnotice hfault⟩

end Tested

/-! ### Removal -/

/-- The claims of stations that are not among the given ones. -/
def claimsWithout (ks : List Nat) (claims : List Claim) : List Claim := claims.filter fun c => !ks.contains c.station

/-- The press list replaced. -/
def withClaims (claims : List Claim) (s : State) : State := { s with sealUnit := { s.sealUnit with pressList := claims } }

theorem any_claims_iff {ks : List Nat} {claims : List Claim} :
    (claims.any fun c => ks.contains c.station) = true ↔ claimsWithout ks claims ≠ claims := by
  unfold claimsWithout
  rw [Ne, List.filter_eq_self, List.any_eq_true]
  push Not
  simp

/-- Where no claim leaves, the removal changes nothing (R134). -/
theorem removeClaims_none {ks : List Nat} {s : State} (h : claimsWithout ks s.sealUnit.pressList = s.sealUnit.pressList) :
    removeClaims ks s = s := if_neg fun hany => any_claims_iff.1 hany h

/-- Where one leaves, one grant test follows (R134). -/
theorem removeClaims_some {ks : List Nat} {s : State} (h : claimsWithout ks s.sealUnit.pressList ≠ s.sealUnit.pressList) :
    removeClaims ks s = grantTest (withClaims (claimsWithout ks s.sealUnit.pressList) s) := if_pos (any_claims_iff.2 h)

/-- Outside CLAIMING the claims leave, and nothing else happens (R134, R136). -/
theorem removeClaims_not_claiming (ks : List Nat) {s : State} (h : s.meter.batch ≠ .claiming) :
    removeClaims ks s = withClaims (claimsWithout ks s.sealUnit.pressList) s := by
  by_cases hsame : claimsWithout ks s.sealUnit.pressList = s.sealUnit.pressList
  · rw [removeClaims_none hsame, hsame]
    rfl
  · rw [removeClaims_some hsame]
    exact grantTest_not_claiming h

/-- In CLAIMING the sent own claim is tested in its place among the claims that are left (R134, R136). -/
theorem removeClaims_tested {c : OwnClaim} {place : Nat} {ks : List Nat} {s : State} (hb : s.meter.batch = .claiming)
    (h : claimsWithout ks s.sealUnit.pressList ≠ s.sealUnit.pressList) (hc : s.sealUnit.current = some c)
    (hsent : c.sent = true) (hplace : placeOf s.line.own (claimsWithout ks s.sealUnit.pressList) = some place) :
    GrantTested c place s.pins.strokeDone (claimsWithout ks s.sealUnit.pressList) s (removeClaims ks s) := by
  rw [removeClaims_some h]
  exact grantTest_tested (s := withClaims (claimsWithout ks s.sealUnit.pressList) s) hb hc hsent hplace

end Sys2Proof.Machine
end

section
/-! SUPPORT. What raises PEER_LOST: no operation of the queue, the seal unit, the cross-check and the point runner does
(R111, R169). -/

namespace Sys2Proof.Machine

/-- Whether PEER_LOST is pending. -/
def peerLost (s : State) : Bool := hasNotice s.cmd.notices .peerLost

theorem hasNotice_withNotice_ne {n k : Notice} (h : n ≠ k) (set : BitVec 10) :
    hasNotice (withNotice set n) k = hasNotice set k := by
  rw [hasNotice_withNotice, beq_eq_false_iff_ne.2 h, Bool.or_false]

theorem hasNotice_withoutNotice_ne {n k : Notice} (h : n ≠ k) (set : BitVec 10) :
    hasNotice (withoutNotice set n) k = hasNotice set k := by
  have hbit : n.single.getLsbD k.bit = (n == k) := by cases n <;> cases k <;> decide
  have hlow : k.bit < 10 := by cases k <;> decide
  simp only [hasNotice, withoutNotice, BitVec.getLsbD_and, BitVec.getLsbD_not, hbit, beq_eq_false_iff_ne.2 h, hlow,
    decide_true, Bool.not_false, Bool.and_self, Bool.and_true]

/-! ### The queue -/

theorem raiseTxDropped_peerLost (s : State) : peerLost (raiseTxDropped s) = peerLost s := by
  have hset := hasNotice_withNotice_ne (n := .txDropped) (k := .peerLost) (by decide) s.cmd.notices
  unfold raiseTxDropped
  split
  · rfl
  · dsimp only
    split <;> exact hset

theorem tellOwner_peerLost (m : TxMsg) (s : State) : peerLost (tellOwner m s) = peerLost s := by
  unfold tellOwner
  split
  · split
    · rw [abandonDropped, evaluateRecord_eq]
      rfl
    · rfl
  · split <;> rfl
  · rfl

theorem enqueue_peerLost (m : TxMsg) (s : State) : peerLost (enqueue m s) = peerLost s := by
  rcases enqueue_cases m s with heq | ⟨lost, -, heq⟩ <;> rw [heq]
  · rfl
  · rw [frameLost, tellOwner_peerLost, raiseTxDropped_peerLost]
    rfl

theorem raiseNotice_peerLost {n : Notice} (h : n ≠ .peerLost) (s : State) : peerLost (raiseNotice n s) = peerLost s := by
  have hset := hasNotice_withNotice_ne h s.cmd.notices
  unfold raiseNotice
  split
  · rfl
  · dsimp only
    split
    · exact (enqueue_peerLost _ _).trans hset
    · exact hset

/-! ### The seal unit -/

theorem grantTest_peerLost (s : State) : peerLost (grantTest s) = peerLost s := by
  have hgrant (c : OwnClaim) : peerLost (grant c s) = peerLost s := by
    unfold grant
    split
    · exact (enqueue_peerLost _ _).trans (raiseNotice_peerLost (n := .pressFault) (by decide) s)
    · rfl
  unfold grantTest
  split
  · split
    · exact hgrant _
    · rfl
  · rfl

theorem removeClaims_peerLost (ks : List Nat) (s : State) : peerLost (removeClaims ks s) = peerLost s := by
  unfold removeClaims
  split
  · exact grantTest_peerLost _
  · rfl

theorem checkHeld_peerLost (s : State) : peerLost (checkHeld s) = peerLost s := by
  rcases checkHeld_cases s with heq | heq | ⟨n, number, heq⟩ <;> rw [heq]
  · exact raiseNotice_peerLost (n := .sealReused) (by decide) s
  · exact enqueue_peerLost _ (numberClaimed number s)

theorem evaluate_peerLost (s : State) : peerLost (evaluate s) = peerLost s := by
  have hrecord : peerLost (evaluateRecord s) = peerLost s := by
    rw [evaluateRecord_eq]
    rfl
  unfold evaluate
  dsimp only
  split
  · exact (checkHeld_peerLost _).trans hrecord
  · exact hrecord

/-! ### The cross-check and the point runner -/

theorem earlyJudgment_peerLost (s : State) : peerLost (earlyJudgment s) = peerLost s := by
  have hsuspect (b : Bool) (t : State) : peerLost (setSuspect b t) = peerLost t := by
    unfold setSuspect
    dsimp only
    split
    · exact raiseNotice_peerLost (n := .refSuspect) (by decide) _
    · split
      · exact hasNotice_withoutNotice_ne (n := .refSuspect) (by decide) _
      · rfl
  have hjudge : peerLost (judge s) = peerLost s := by
    unfold judge
    split
    · split
      · rfl
      · exact hsuspect _ _
    · rfl
  unfold earlyJudgment
  split
  · split
    · exact hjudge
    · rfl
  · rfl

theorem completionTest_peerLost (s : State) : peerLost (completionTest s) = peerLost s := by
  have hclose (x : Run) (hx : s.run.run = some x) : peerLost (closeRun .completion s) = peerLost s := by
    rw [closeRun_eq hx, evaluate_peerLost]
    unfold closeAnnounced
    rw [enqueue_peerLost, if_neg (by decide), runRemoved_eq]
    rfl
  unfold completionTest
  split
  · next x hx =>
    split
    · exact hclose x hx
    · rfl
  · rfl

end Sys2Proof.Machine
end

section
/-! SUPPORT. The aging expiry: the entries it removes, and what follows a removal (R110 to R112, R123, R134). -/

namespace Sys2Proof.Machine

/-! ### The entries -/

theorem survives_eq (e : RosterEntry) : survives e = e.next := Bool.or_false _

theorem agedOut_eq (es : List RosterEntry) : agedOut es = es.filter fun e => !e.next := by
  simp only [agedOut, survives_eq]

theorem agedEntries_eq (es : List RosterEntry) : agedEntries es =
    (es.filter fun e => e.next).map fun e => { e with current := true, next := false } := by
  have hsurvives : survives = fun e => e.next := funext survives_eq
  rw [agedEntries, hsurvives]
  exact List.map_congr_left fun e he => congrArg (fun b => { e with current := b, next := false }) (List.mem_filter.1 he).2

/-- The stations of the entries that an expiry removes. -/
def agedStations (s : State) : List Nat := stations (agedOut s.roster.entries)

/-- The roster after an expiry, and its timer set again (R110). -/
def aged (s : State) : State := { s with roster := {
  entries := agedEntries s.roster.entries
  agingTimer := later s.fe.now (s.cmd.setup.agingPeriod * Config.second) } }

/-- A station of the roster after an expiry is that of an entry heard since the last one. -/
theorem mem_stations_aged {s : State} {k : Nat} : k ∈ stations (aged s).roster.entries ↔
    ∃ e ∈ s.roster.entries, e.next = true ∧ e.station = k := by
  unfold aged stations
  rw [agedEntries_eq, List.map_map, List.mem_map]
  simp only [List.mem_filter, Function.comp, and_assoc]

/-- Whether a removed peer was pending for the open run (R111). -/
def losesPending (s : State) : Bool :=
  s.run.run.any fun x => (agedOut s.roster.entries).any fun e => pendingPeer x.p x.r e

theorem losesPending_iff (s : State) : losesPending s = true ↔ ∃ x e, s.run.run = some x ∧ e ∈ s.roster.entries ∧
    e.next = false ∧ e.batch = some .running ∧
    ∀ q, e.progress = some q → q.p ≠ x.p ∨ q.r ≠ x.r ∨ q.value = .opened ∨ q.value = .measuring := by
  have hpending (p r : Nat) (e : RosterEntry) : pendingPeer p r e = true ↔ e.batch = some .running ∧
      ∀ q, e.progress = some q → q.p ≠ p ∨ q.r ≠ r ∨ q.value = .opened ∨ q.value = .measuring := by
    have hvalue (v : PeerValue) : v.done = false ↔ v = .opened ∨ v = .measuring := by cases v <;> decide
    unfold pendingPeer doneWith
    cases e.progress with
    | none => simp
    | some q =>
      simp only [Bool.and_eq_true, beq_iff_eq, Bool.not_eq_true', Bool.and_eq_false_iff, beq_eq_false_iff_ne, hvalue,
        Option.some.injEq, forall_eq', or_assoc]
  unfold losesPending
  simp only [Option.any_eq_true, List.any_eq_true, mem_agedOut, hpending]
  constructor
  · rintro ⟨x, hx, e, ⟨he, hnext⟩, hbatch, hprogress⟩
    exact ⟨x, e, hx, he, hnext, hbatch, hprogress⟩
  · rintro ⟨x, e, hx, he, hnext, hbatch, hprogress⟩
    exact ⟨x, hx, e, ⟨he, hnext⟩, hbatch, hprogress⟩

/-! ### The expiry -/

theorem ageRoster_none {s : State} (h : agedOut s.roster.entries = []) : ageRoster s = aged s := by
  unfold ageRoster
  simp only [h, List.isEmpty_nil, if_true]
  rfl

/-- PEER_LOST raised where a pending peer is removed, and the claims of the removed peers gone (R111, R134). -/
def peersRemoved (s : State) : State :=
  removeClaims (agedStations s) (if losesPending s then raiseNotice .peerLost (aged s) else aged s)

theorem ageRoster_some {s : State} (h : agedOut s.roster.entries ≠ []) :
    ageRoster s = completionTest (earlyJudgment (peersRemoved s)) := by
  unfold ageRoster
  simp only [List.isEmpty_eq_false_iff.2 h, Bool.false_eq_true, if_false]
  rfl

theorem peersRemoved_keeps (s : State) : QueuingKeeps (aged s) (peersRemoved s) := by
  unfold peersRemoved
  split
  · exact (raiseNotice_keeps _ _).trans (removeClaims_keeps _ _)
  · exact removeClaims_keeps _ _

/-- The removal leaves the roster, the cross-check and the run to the tests that follow it. -/
theorem peersRemoved_fields (s : State) : (peersRemoved s).roster = (aged s).roster ∧ (peersRemoved s).xc = s.xc ∧
    (peersRemoved s).run = s.run ∧ (peersRemoved s).fe = s.fe ∧ (peersRemoved s).plan = s.plan ∧
    (peersRemoved s).trk = s.trk := by
  have hblocks := (peersRemoved_keeps s).blocks
  unfold QueuingOnly at hblocks
  rw [hblocks]
  exact ⟨rfl, rfl, rfl, rfl, rfl, rfl⟩

/-- Without a pending peer among the removed ones the claims are all that leaves. -/
theorem peersRemoved_of_not_lost {s : State} (h : losesPending s = false) :
    peersRemoved s = removeClaims (agedStations s) (aged s) := by
  rw [peersRemoved, h, if_neg Bool.false_ne_true]

theorem losesPending_no_run {s : State} (h : s.run.run = none) : losesPending s = false := by
  rw [losesPending, h]
  rfl

/-- PEER_LOST is pending after the removal of a pending peer, and as it was after any other (R111). -/
theorem peersRemoved_peerLost (s : State) : peerLost (peersRemoved s) = (losesPending s || peerLost s) := by
  rw [peersRemoved, removeClaims_peerLost]
  cases losesPending s
  · rfl
  · exact raiseNotice_raises .peerLost (aged s)

/-! ### The tests that follow -/

/-- The early-judgment test does nothing, or judges the collection. -/
theorem earlyJudgment_cases (s : State) : earlyJudgment s = s ∨ earlyJudgment s = judge s := by
  unfold earlyJudgment
  split
  · split
    · exact .inr rfl
    · exact .inl rfl
  · exact .inl rfl

theorem earlyJudgment_none {s : State} (h : s.xc.collection = none) : earlyJudgment s = s := by
  simp only [earlyJudgment, h]

/-- The test leaves the meter record, the seal unit, the roster, and the inputs of the point runner (R123). -/
theorem earlyJudgment_leaves (s : State) : (earlyJudgment s).meter = s.meter ∧
    (earlyJudgment s).sealUnit = s.sealUnit ∧ (earlyJudgment s).roster = s.roster ∧ (earlyJudgment s).fe = s.fe ∧
    (earlyJudgment s).plan = s.plan ∧ (earlyJudgment s).trk.count = s.trk.count := by
  rcases earlyJudgment_cases s with heq | heq <;> rw [heq]
  · exact ⟨rfl, rfl, rfl, rfl, rfl, rfl⟩
  · obtain ⟨_, _, _, hkeeps⟩ := judge_closing s
    obtain ⟨-, -, hfe, hcount, -, -, hplan, -⟩ := hkeeps.fields
    exact ⟨(judge_leaves s).1, (judge_leaves s).2, judge_roster s, hfe, hplan, hcount⟩

/-- A notice other than REF_SUSPECT stays pending through the test (R126, R169). -/
theorem earlyJudgment_remembers {n : Notice} {s : State} (hn : n ≠ .refSuspect)
    (h : hasNotice s.cmd.notices n = true) : hasNotice (earlyJudgment s).cmd.notices n = true := by
  have hsuspect (b : Bool) (t : State) (ht : hasNotice t.cmd.notices n = true) :
      hasNotice (setSuspect b t).cmd.notices n = true := by
    unfold setSuspect
    dsimp only
    split
    · exact (raiseNotice_remembers .refSuspect _).notices n ht
    · split
      · exact (hasNotice_withoutNotice_ne hn.symm _).trans ht
      · exact ht
  rcases earlyJudgment_cases s with heq | heq <;> rw [heq]
  · exact h
  · unfold judge
    split
    · split
      · exact h
      · exact hsuspect _ _ h
    · exact h

/-- A judgment closes no run and changes no run's state (R64, R126). -/
theorem judge_run (s : State) : (judge s).run = s.run ∨
    (judge s).run = { s.run with run := s.run.run.map fun x => { x with void := true } } := by
  have hsuspect (b : Bool) (t : State) : (setSuspect b t).run = t.run ∨
      (setSuspect b t).run = { t.run with run := t.run.run.map fun x => { x with void := true } } := by
    unfold setSuspect
    dsimp only
    split
    · exact .inr (raiseNotice_run _ _)
    · split <;> exact .inl rfl
  unfold judge
  split
  · split
    · exact .inl rfl
    · exact hsuspect _ _
  · exact .inl rfl

/-- The completion test leaves a run that is not done, and a station without a run (R67). -/
theorem completionTest_not_done {s : State} (h : ∀ x, s.run.run = some x → x.state ≠ .settled ∧ x.state ≠ .decided) :
    completionTest s = s := by
  cases hx : s.run.run with
  | none => simp only [completionTest, hx]
  | some x =>
    obtain ⟨hsettled, hdecided⟩ := h x hx
    exact completionTest_undone hx fun hdone => ((doneForCompletion_iff _).1 hdone).elim hsettled hdecided

theorem completionTest_earlyJudgment {s : State}
    (h : ∀ x, s.run.run = some x → x.state ≠ .settled ∧ x.state ≠ .decided) :
    completionTest (earlyJudgment s) = earlyJudgment s := by
  refine completionTest_not_done fun x hx => ?_
  have hrun : (earlyJudgment s).run = s.run ∨
      (earlyJudgment s).run = { s.run with run := s.run.run.map fun x => { x with void := true } } := by
    rcases earlyJudgment_cases s with heq | heq <;> rw [heq]
    · exact .inl rfl
    · exact judge_run s
  rcases hrun with hrun | hrun <;> rw [hrun] at hx
  · exact h x hx
  · obtain ⟨y, hy, rfl⟩ := Option.map_eq_some_iff.1 hx
    exact h y hy

/-- A judgment reads the condition, the streak, the run and the setup values of the state before it. -/
theorem JudgedBy.of_before {own : Nat} {ts : List Nat} {before s t : State} (h : JudgedBy own ts before t)
    (hxc : before.xc = s.xc) (hrun : before.run = s.run) (hsetup : before.cmd.setup = s.cmd.setup) :
    JudgedBy own ts s t := by
  unfold JudgedBy at *
  rwa [hxc, hrun, hsetup] at h

/-! ### The row -/

/-- A due expiry of the row (R110, log 4). -/
theorem exec_agingExpiry_due {level : Bool} {s : State} (hp : s.phase = .running)
    (hdue : s.roster.agingTimer = s.fe.now) :
    exec (.agingExpiry level) s = .next (ageRoster (withStrokeDone level s)) :=
  congrArg Host.Outcome.next (whenDue_due (s := withStrokeDone level s) hp (congrArg some hdue))

/-- What every expiry leaves of the roster and of the blocks it does not reach (R110). -/
theorem ageRoster_leaves (s : State) : (ageRoster s).roster = (aged s).roster ∧ (ageRoster s).fe = s.fe ∧
    (ageRoster s).plan = s.plan ∧ (ageRoster s).trk.count = s.trk.count := by
  by_cases h : agedOut s.roster.entries = []
  · rw [ageRoster_none h]
    exact ⟨rfl, rfl, rfl, rfl⟩
  · obtain ⟨hroster, -, -, hfe, hplan, htrk⟩ := peersRemoved_fields s
    obtain ⟨-, -, hroster', hfe', hplan', hcount'⟩ := earlyJudgment_leaves (peersRemoved s)
    obtain ⟨-, -, hfe'', hcount'', -, -, hplan'', -, -, hroster'', -⟩ :=
      (completionTest_closing (earlyJudgment (peersRemoved s))).fields
    rw [ageRoster_some h]
    exact ⟨hroster''.trans (hroster'.trans hroster), hfe''.trans (hfe'.trans hfe), hplan''.trans (hplan'.trans hplan),
      hcount''.trans (hcount'.trans (congrArg _ htrk))⟩

/-- PEER_LOST after an expiry: pending where a pending peer was removed, and else as it was (R111). -/
theorem ageRoster_peerLost (s : State) : peerLost (ageRoster s) = (losesPending s || peerLost s) := by
  by_cases h : agedOut s.roster.entries = []
  · have hnone : losesPending s = false := by
      unfold losesPending
      rw [h]
      cases s.run.run <;> rfl
    rw [ageRoster_none h, hnone]
    rfl
  · rw [ageRoster_some h, completionTest_peerLost, earlyJudgment_peerLost, peersRemoved_peerLost]

section NoRun

variable {s : State} (hrun : s.run.run = none)
include hrun

/-- With no run open the removal of the claims and the early-judgment test are all that an expiry does beside aging. -/
theorem ageRoster_no_run : ageRoster s = aged s ∧ agedStations s = [] ∨
    ageRoster s = earlyJudgment (removeClaims (agedStations s) (aged s)) := by
  by_cases h : agedOut s.roster.entries = []
  · exact .inl ⟨ageRoster_none h, by rw [agedStations, h]; rfl⟩
  · refine .inr ?_
    rw [ageRoster_some h, peersRemoved_of_not_lost (losesPending_no_run hrun)]
    refine completionTest_earlyJudgment fun x hx => ?_
    have hblocks := (removeClaims_keeps (agedStations s) (aged s)).blocks
    unfold QueuingOnly at hblocks
    rw [hblocks] at hx
    exact absurd (hrun.symm.trans hx) (by simp)

/-- The meter record and the seal unit are then as the removal of the claims leaves them (R134). -/
theorem ageRoster_sealing : (ageRoster s).meter = (removeClaims (agedStations s) (aged s)).meter ∧
    (ageRoster s).sealUnit = (removeClaims (agedStations s) (aged s)).sealUnit := by
  rcases ageRoster_no_run hrun with ⟨heq, hnone⟩ | heq <;> rw [heq]
  · rw [hnone, removeClaims_none (List.filter_eq_self.2 fun _ _ => rfl)]
    exact ⟨rfl, rfl⟩
  · obtain ⟨hmeter, hunit, -⟩ := earlyJudgment_leaves (removeClaims (agedStations s) (aged s))
    exact ⟨hmeter, hunit⟩

/-- Outside CLAIMING the claims of the removed peers leave, and nothing else of the seal unit (R134). -/
theorem ageRoster_claims (hb : s.meter.batch ≠ .claiming) : (ageRoster s).sealUnit =
    { s.sealUnit with pressList := claimsWithout (agedStations s) s.sealUnit.pressList } := by
  rw [(ageRoster_sealing hrun).2, removeClaims_not_claiming (agedStations s) (s := aged s) hb]
  rfl

/-- Where no claim leaves, the claim and the batch state stay (R134). -/
theorem ageRoster_no_claim (h : claimsWithout (agedStations s) s.sealUnit.pressList = s.sealUnit.pressList) :
    (ageRoster s).sealUnit = s.sealUnit ∧ (ageRoster s).meter = s.meter := by
  obtain ⟨hmeter, hunit⟩ := ageRoster_sealing hrun
  rw [hmeter, hunit, removeClaims_none (s := aged s) h]
  exact ⟨rfl, rfl⟩

/-- In CLAIMING the sent own claim is tested where a claim leaves (R134, R136). -/
theorem ageRoster_tested {c : OwnClaim} {place : Nat} (hb : s.meter.batch = .claiming)
    (h : claimsWithout (agedStations s) s.sealUnit.pressList ≠ s.sealUnit.pressList)
    (hc : s.sealUnit.current = some c) (hsent : c.sent = true)
    (hplace : placeOf s.line.own (claimsWithout (agedStations s) s.sealUnit.pressList) = some place) :
    GrantTested c place s.pins.strokeDone (claimsWithout (agedStations s) s.sealUnit.pressList) s (ageRoster s) := by
  have htested := removeClaims_tested (s := aged s) hb h hc hsent hplace
  obtain ⟨hmeter, hunit⟩ := ageRoster_sealing hrun
  refine htested.between rfl rfl rfl rfl hunit hmeter fun hfault => ?_
  rcases ageRoster_no_run hrun with ⟨-, hnone⟩ | heq
  · exact absurd (by rw [hnone]; exact List.filter_eq_self.2 fun _ _ => rfl) h
  · rw [heq]
    exact earlyJudgment_remembers (by decide) hfault

/-- Without a collection nothing of the command handler and the line is reached outside CLAIMING. -/
theorem ageRoster_quiet (hb : s.meter.batch ≠ .claiming) (hc : s.xc.collection = none) :
    (ageRoster s).cmd = s.cmd ∧ (ageRoster s).line = s.line := by
  rcases ageRoster_no_run hrun with ⟨heq, -⟩ | heq <;> rw [heq]
  · exact ⟨rfl, rfl⟩
  · rw [removeClaims_not_claiming (agedStations s) (s := aged s) hb, earlyJudgment_none]
    · exact ⟨rfl, rfl⟩
    · exact hc

end NoRun

section Collected

variable {c : Collection} {s : State} (hc : s.xc.collection = some c)
include hc

/-- While an entry that is left has no tally in the collection, it waits (R123). -/
theorem ageRoster_waits (h : ∃ e ∈ s.roster.entries, e.next = true ∧ tallyOf e.station c = none) :
    (ageRoster s).xc = s.xc := by
  obtain ⟨e, he, hnext, hnone⟩ := h
  obtain ⟨hroster, hxc, -⟩ := peersRemoved_fields s
  by_cases hgone : agedOut s.roster.entries = []
  · rw [ageRoster_none hgone]
    rfl
  · rw [ageRoster_some hgone, earlyJudgment_waits (c := c) (by rw [hxc, hc])
      ⟨e.station, by rw [hroster]; exact mem_stations_aged.2 ⟨e, he, hnext, rfl⟩, hnone⟩]
    obtain ⟨-, -, -, -, -, -, -, -, -, -, hxc', -⟩ := (completionTest_closing (peersRemoved s)).fields
    exact hxc'.trans hxc

/-- A removal that leaves every entry with a tally in the collection judges it (R123). -/
theorem ageRoster_judges {own : Nat} (hj : c.judged = false) (hgone : agedOut s.roster.entries ≠ [])
    (hown : tallyOf s.line.own c = some own)
    (hall : ∀ e ∈ s.roster.entries, e.next = true → tallyOf e.station c ≠ none)
    (hrun : ∀ x, s.run.run = some x → x.state ≠ .settled ∧ x.state ≠ .decided) :
    (ageRoster s).xc.collection = some { c with judged := true } ∧
    JudgedBy own (c.tallies.map StationTally.tally) s (ageRoster s) := by
  obtain ⟨hroster, hxc, hrun', -⟩ := peersRemoved_fields s
  have hkeeps := peersRemoved_keeps s
  have hc' : (peersRemoved s).xc.collection = some c := by rw [hxc, hc]
  rw [ageRoster_some hgone, completionTest_earlyJudgment (by rw [hrun']; exact hrun),
    earlyJudgment_judges hc' fun k hk => ?_]
  · refine ⟨by rw [judge_xc hc' hj], ?_⟩
    refine (judge_judgedBy hc' hj ?_).of_before hxc hrun' hkeeps.setup
    rw [hkeeps.own]
    exact hown
  · rw [hroster] at hk
    obtain ⟨e, he, hnext, rfl⟩ := mem_stations_aged.1 hk
    exact hall e he hnext

end Collected

/-- Settles O31: the entries age, the claims of the removed peers leave, and the tests that follow a removal. -/
theorem agingRemovesSilentPeers : Obligations.AgingRemovesSilentPeers := by
  intro level s hp
  obtain ⟨hroster, hfe, hplan, hcount⟩ := ageRoster_leaves (withStrokeDone level s)
  have hgone : agedStations (withStrokeDone level s) =
      (s.roster.entries.filter fun e => !e.next).map RosterEntry.station := by
    rw [agedStations, withStrokeDone_roster, agedOut_eq]
    rfl
  have hlost := losesPending_iff (withStrokeDone level s)
  have hpeerLost := ageRoster_peerLost (withStrokeDone level s)
  refine ⟨fun hnot => congrArg Host.Outcome.next
      (whenDue_not_due (s := withStrokeDone level s) fun hdue => hnot (Option.some.inj hdue)),
    fun hdue => ⟨_, exec_agingExpiry_due hp hdue, ?_, ?_, hfe, hplan, hcount, fun hall => ?_, fun hb hrun => ?_,
      fun hb hrun hleft => ?_, fun c place hb hrun hleft hc hsent hplace => ?_, fun h => ?_, fun h => ?_,
      fun c hc hj hwaits => ageRoster_waits (s := withStrokeDone level s) hc hwaits,
      fun c own hc hj hne hown hall hrun => ageRoster_judges (s := withStrokeDone level s) hc hj ?_ hown hall hrun,
      fun hrun hb hc => ageRoster_quiet (s := withStrokeDone level s) hrun hb hc⟩⟩
  · rw [hroster]
    exact agedEntries_eq s.roster.entries
  · rw [hroster]
    rfl
  · have hnone : agedOut (withStrokeDone level s).roster.entries = [] :=
      List.filter_eq_nil_iff.2 fun e he => by simp [survives_eq, hall e he]
    rw [ageRoster_none hnone]
    rfl
  · rw [← hgone]
    exact ageRoster_claims (s := withStrokeDone level s) hrun hb
  · rw [← hgone] at hleft
    exact ageRoster_no_claim (s := withStrokeDone level s) hrun hleft
  · rw [← hgone] at hleft hplace ⊢
    exact ageRoster_tested (s := withStrokeDone level s) hrun hb hleft hc hsent hplace
  · exact hpeerLost.trans (by rw [hlost.2 h]; rfl)
  · exact hpeerLost.trans (by rw [Bool.eq_false_of_not_eq_true (fun hl => h (hlost.1 hl))]; rfl)
  · rw [withStrokeDone_roster, agedOut_eq]
    exact fun h => hne (congrArg (List.map RosterEntry.station) h)

end Sys2Proof.Machine
end

section
/-! SUPPORT. A peer's JOIN: the renewed entry, the STATUS that answers it, and its claim's removal (R106, R116, R134). -/

namespace Sys2Proof.Machine

theorem claimsWithout_single (k : Nat) (claims : List Claim) :
    claimsWithout [k] claims = claims.filter fun c => c.station != k := by
  unfold claimsWithout
  exact List.filter_congr fun c _ => by rw [List.contains_cons, List.contains_nil, Bool.or_false, bne]

/-! ### The STATUS -/

/-- On line a STATUS answers the JOIN (R116). -/
def joinAnswered (s : State) : State := if s.line.state = .onLine then enqueue (.status none) s else s

theorem joinAnswered_offLine {s : State} (h : s.line.state ≠ .onLine) : joinAnswered s = s := if_neg h

/-- With room and no STATUS queued it enters the queue, and nothing else happens (R161). -/
theorem joinAnswered_enters {s : State} (h : s.line.state = .onLine) (hroom : s.line.queue.length < 8)
    (hnew : ∀ f ∈ s.line.queue, f.msg.kind ≠ .status) : joinAnswered s =
      { s with line := { s.line with queue := s.line.queue ++ [newFrame s.fe.now (.status none)] } } :=
  (if_pos h).trans (enqueue_enters (.status none) s (fun _ => hnew) hroom)

/-- The answer leaves the meter record and the seal unit, and every block but the line and the command handler. -/
theorem joinAnswered_leaves (s : State) : joinAnswered s = { s with
    line := (joinAnswered s).line, cmd := (joinAnswered s).cmd } ∧ QueuingKeeps s (joinAnswered s) := by
  by_cases hon : s.line.state = .onLine
  · have hkeeps := enqueue_keeps (.status none) s
    have hblocks := hkeeps.blocks
    obtain ⟨hmeter, hunit⟩ := enqueue_of_not_claim (m := .status none) (by simp [TxMsg.kind]) s
    unfold QueuingOnly at hblocks
    rw [hmeter, hunit] at hblocks
    rw [joinAnswered, if_pos hon]
    exact ⟨hblocks, hkeeps⟩
  · rw [joinAnswered_offLine hon]
    exact ⟨rfl, .refl s⟩

/-! ### The frame -/

/-- The entry renewed by a JOIN (R106). -/
def renewed (b : BatchState) (e : RosterEntry) : RosterEntry := { e with batch := some b, progress := none }

section Join

variable {h : Hdr} {bs : List Byte} {level : Bool} {cause : JoinCause} {b : BatchState} {s : State}

/-- The station once the roster has heard the JOIN and its answer is queued, with the level of STROKE-DONE (log 4). -/
def joinHeard (h : Hdr) (level : Bool) (b : BatchState) (s : State) : State :=
  joinAnswered (reported h (renewed b) (withStrokeDone level s))

/-- With no run open the JOIN's answer is followed by the removal of the peer's claim after a reset, and nothing else. -/
theorem exec_joinReceived_no_run (hh : Hears s) (hs : FromPeer h s) (hread : readJoin bs = some (cause, b))
    (hrun : s.run.run = none) : exec (.joinReceived h bs level) s =
      .next (if cause = .lineReturn then joinHeard h level b s
        else removeClaims [h.sender.toNat] (joinHeard h level b s)) := by
  refine congrArg Host.Outcome.next ?_
  rw [receiveKind_fits (s := withStrokeDone level s) hh hs rfl (by simp [fits, hread])]
  simp only [deliver, hread, takeJoin]
  have htakes := rosterTakes_acked (h := h) (s := withStrokeDone level s) hs (renewed b)
  unfold renewed at htakes
  rw [htakes]
  refine completionTest_not_done fun x hx => ?_
  have hkeeps : QueuingKeeps (reported h (renewed b) (withStrokeDone level s)) (if cause = .lineReturn then
      joinHeard h level b s else removeClaims [h.sender.toNat] (joinHeard h level b s)) := by
    split
    · exact (joinAnswered_leaves _).2
    · exact (joinAnswered_leaves _).2.trans (removeClaims_keeps _ _)
  have hnone : (if cause = .lineReturn then joinHeard h level b s
      else removeClaims [h.sender.toNat] (joinHeard h level b s)).run.run = none := by
    have hblocks := hkeeps.blocks
    unfold QueuingOnly at hblocks
    rw [hblocks]
    exact hrun
  exact absurd (hnone.symm.trans hx) (by simp)

/-- The heard JOIN leaves the claim and every block but the roster, the line and the command handler. -/
theorem joinHeard_eq (h : Hdr) (level : Bool) (b : BatchState) (s : State) : joinHeard h level b s = { s with
    pins := { s.pins with strokeDone := level }
    roster := (reported h (renewed b) s).roster
    line := (joinHeard h level b s).line
    cmd := (joinHeard h level b s).cmd } := (joinAnswered_leaves (reported h (renewed b) (withStrokeDone level s))).1

theorem joinHeard_keeps (h : Hdr) (level : Bool) (b : BatchState) (s : State) :
    QueuingKeeps (reported h (renewed b) (withStrokeDone level s)) (joinHeard h level b s) :=
  (joinAnswered_leaves (reported h (renewed b) (withStrokeDone level s))).2

/-- Outside CLAIMING the state after a JOIN is the heard one, without the peer's claim after a reset (R134). -/
theorem exec_joinReceived_not_claiming (hh : Hears s) (hs : FromPeer h s) (hread : readJoin bs = some (cause, b))
    (hrun : s.run.run = none) (hb : s.meter.batch ≠ .claiming) : exec (.joinReceived h bs level) s =
      .next (withClaims (if cause = .lineReturn then s.sealUnit.pressList
        else s.sealUnit.pressList.filter fun c => c.station != h.sender.toNat) (joinHeard h level b s)) := by
  have hunit : (joinHeard h level b s).sealUnit = s.sealUnit := by rw [joinHeard_eq]
  have hmeter : (joinHeard h level b s).meter = s.meter := by rw [joinHeard_eq]
  rw [exec_joinReceived_no_run hh hs hread hrun]
  congr 1
  split
  · rw [← hunit]
    rfl
  · rw [removeClaims_not_claiming _ (by rw [hmeter]; exact hb), hunit, claimsWithout_single]

theorem renewed_entryIs (hkeys : RosterKeys s) : EntryIs h.sender.toNat ⟨h.sender.toNat, some b, none, true, true⟩
    s.roster (reported h (renewed b) s).roster := by
  have hentry := reported_entryIs (h := h) (f := renewed b) hkeys fun _ => rfl
  rwa [heardEntry, renewed, entryOf_station] at hentry

end Join

/-- Settles O27: the JOIN is heard and answered, and its claim's removal is the one of the aging expiry, for one station. -/
theorem joinRenewsPeer : Obligations.JoinRenewsPeer := by
  intro h bs level cause b s hh hs hkeys hread hrun
  have heq := joinHeard_eq h level b s
  have hunit : (joinHeard h level b s).sealUnit = s.sealUnit := by rw [heq]
  have hmeter : (joinHeard h level b s).meter = s.meter := by rw [heq]
  have hroster : (joinHeard h level b s).roster = (reported h (renewed b) s).roster := by rw [heq]
  have hexec := exec_joinReceived_no_run (level := level) hh hs hread hrun
  refine ⟨fun hb => ⟨_, exec_joinReceived_not_claiming hh hs hread hrun hb, ?_, ?_, ?_, ?_, fun hoff => ?_,
    fun hon hroom hnew => ?_⟩, fun hb _ hstays => ?_, fun c place hb _ hcause hleft hc hsent hplace => ?_⟩
  · rw [heq]
    rfl
  · show (joinHeard h level b s).roster.agingTimer = _
    rw [hroster]
    rfl
  · show EntryIs _ _ _ (joinHeard h level b s).roster
    rw [hroster]
    exact renewed_entryIs hkeys
  · show ({ (joinHeard h level b s).sealUnit with pressList := _ } : SealUnit) = _
    rw [hunit]
  · have hsame : joinHeard h level b s = reported h (renewed b) (withStrokeDone level s) := joinAnswered_offLine hoff
    rw [hsame]
    exact ⟨rfl, rfl⟩
  · have hqueued := joinAnswered_enters (s := reported h (renewed b) (withStrokeDone level s)) hon hroom hnew
    have hsame : joinHeard h level b s = _ := hqueued
    rw [hsame]
    exact ⟨rfl, rfl⟩
  · have hnone : (if cause = .lineReturn then joinHeard h level b s
        else removeClaims [h.sender.toNat] (joinHeard h level b s)) = joinHeard h level b s := by
      split
      · rfl
      · next hcause =>
        exact removeClaims_none (by rw [claimsWithout_single, hunit]; exact hstays.resolve_left hcause)
    exact ⟨_, hexec.trans (congrArg _ hnone), hunit, hmeter⟩
  · refine ⟨_, hexec.trans (congrArg _ (if_neg hcause)), ?_⟩
    have htested := removeClaims_tested (ks := [h.sender.toNat]) (s := joinHeard h level b s) (c := c) (place := place)
      (by rw [hmeter]; exact hb) (by rw [claimsWithout_single, hunit]; exact hleft) (by rw [hunit]; exact hc) hsent
      (by rw [claimsWithout_single, hunit, (joinHeard_keeps h level b s).own]; exact hplace)
    have hpins : (joinHeard h level b s).pins.strokeDone = level := by rw [heq]
    have hnow : (joinHeard h level b s).fe.now = s.fe.now := by rw [heq]
    rw [claimsWithout_single, hunit, hpins] at htested
    exact htested.between hunit hmeter hnow (joinHeard_keeps h level b s).setup rfl rfl id

end Sys2Proof.Machine
end

section
/-! SUPPORT. The frames that enter behind a sent one: those waiting beside the queue, and an owed RELEASE (R138, R161). -/

namespace Sys2Proof.Machine

/-! ### Frames that enter -/

/-- Frames behind the queue. -/
def queued (fs : List TxFrame) (s : State) : State := { s with line := { s.line with queue := s.line.queue ++ fs } }

/-- No frame waits beside the queue. -/
def besideTaken (s : State) : State := { s with line := { s.line with waitingStatus := false, waitingNotice := none } }

/-- The frames that wait beside the queue, as they enter it: the NOTICE, then the STATUS (R161). -/
def besideOf (s : State) : List TxFrame :=
  (s.line.waitingNotice.map fun set => newFrame s.fe.now (.notice set)).toList ++
    if s.line.waitingStatus then [newFrame s.fe.now (.status none)] else []

/-- Whether a frame is the RELEASE of a claim number. -/
def releases (n : Nat) (m : TxMsg) : Bool :=
  match m with
  | .release k _ => k == n
  | _ => false

/-- The owed RELEASE as it enters the queue again, where it is not queued (R138). -/
def againOf (s : State) : List TxFrame :=
  match s.sealUnit.owed with
  | some o =>
    if s.line.queue.any fun f => releases o.number f.msg then [] else [newFrame s.fe.now (.release o.number o.reason)]
  | none => []

theorem queued_nil (s : State) : queued [] s = s := by
  unfold queued
  rw [List.append_nil]

theorem queued_queued (fs gs : List TxFrame) (s : State) : queued gs (queued fs s) = queued (fs ++ gs) s := by
  unfold queued
  dsimp only
  rw [List.append_assoc]

/-- A frame with its kind not queued yet, or of a kind that does not coalesce, enters behind the queue (R161). -/
theorem enqueue_queued {m : TxMsg} {s : State} (hnew : coalesces m.kind = true → ∀ f ∈ s.line.queue, f.msg.kind ≠ m.kind)
    (hroom : s.line.queue.length < 8) : enqueue m s = queued [newFrame s.fe.now m] s := enqueue_enters m s hnew hroom

/-! ### The frames beside the queue -/

/-- The NOTICE that waits beside the queue enters it first (R161). -/
def noticeEntered (s : State) : State :=
  match s.line.waitingNotice with
  | some set => enqueue (.notice set) (besideTaken s)
  | none => besideTaken s

theorem releaseWaiting_eq (s : State) : releaseWaiting s =
    if s.line.waitingStatus then enqueue (.status none) (noticeEntered s) else noticeEntered s := rfl

/-- With room the frames that wait beside the queue enter it, each the one of its kind (R161). -/
theorem releaseWaiting_enters {s : State}
    (hstatus : s.line.waitingStatus = true → ∀ f ∈ s.line.queue, f.msg.kind ≠ .status)
    (hnotice : s.line.waitingNotice ≠ none → ∀ f ∈ s.line.queue, f.msg.kind ≠ .notice)
    (hroom : besideOf s = [] ∨ s.line.queue.length + (besideOf s).length ≤ 8) :
    releaseWaiting s = queued (besideOf s) (besideTaken s) := by
  rw [releaseWaiting_eq]
  unfold besideOf noticeEntered at *
  cases hset : s.line.waitingNotice with
  | none =>
    cases hwaits : s.line.waitingStatus with
    | false => exact (queued_nil _).symm
    | true =>
      rw [hset, hwaits] at hroom
      exact enqueue_queued (m := .status none) (s := besideTaken s) (fun _ => hstatus hwaits)
        (hroom.resolve_left (List.cons_ne_nil _ _))
  | some set =>
    have hother := hnotice (by rw [hset]; exact Option.some_ne_none set)
    rw [hset] at hroom
    have hlen : s.line.queue.length +
        (1 + (if s.line.waitingStatus then [newFrame s.fe.now (.status none)] else []).length) ≤ 8 := by
      have hlen := hroom.resolve_left (List.cons_ne_nil _ _)
      rwa [List.length_append] at hlen
    have hentered := enqueue_queued (m := .notice set) (s := besideTaken s) (fun _ => hother)
      (show s.line.queue.length < 8 by omega)
    dsimp only
    rw [hentered]
    cases hwaits : s.line.waitingStatus with
    | false => rfl
    | true =>
      rw [hwaits] at hlen
      refine (enqueue_queued (m := .status none) (fun _ f hf => ?_) ?_).trans (queued_queued _ _ _)
      · rcases List.mem_append.1 (show f ∈ s.line.queue ++ [_] from hf) with hf | hf
        · exact hstatus hwaits f hf
        · rw [List.mem_singleton.1 hf]
          exact fun hk => by cases hk
      · show (s.line.queue ++ [_]).length < 8
        rw [List.length_append]
        exact hlen

/-! ### The owed RELEASE -/

theorem requeueOwed_cases (s : State) : requeueOwed s = s ∨ ∃ n r, requeueOwed s = enqueue (.release n r) s := by
  unfold requeueOwed
  split
  · split
    · exact .inl rfl
    · exact .inr ⟨_, _, rfl⟩
  · exact .inl rfl

/-- With room the owed RELEASE enters the queue where it is not queued (R138). -/
theorem requeueOwed_enters {s : State} (hroom : againOf s = [] ∨ s.line.queue.length < 8) :
    requeueOwed s = queued (againOf s) s := by
  unfold againOf at hroom ⊢
  unfold requeueOwed
  cases howed : s.sealUnit.owed with
  | none => exact (queued_nil s).symm
  | some o =>
    simp only [howed] at hroom
    by_cases hany : (s.line.queue.any fun f => releases o.number f.msg) = true
    · dsimp only
      rw [if_pos hany, queued_nil]
      exact if_pos hany
    · rw [if_neg hany] at hroom
      dsimp only
      rw [if_neg hany, ← enqueue_queued (m := .release o.number o.reason) (fun h => by cases h)
        (hroom.resolve_left (List.cons_ne_nil _ _))]
      exact if_neg hany

theorem releases_kind {n : Nat} {m : TxMsg} (h : m.kind ≠ .release) : releases n m = false := by
  unfold releases
  split
  · exact absurd rfl h
  · rfl

/-- Frames other than a RELEASE that enter do not change what is owed (R138). -/
theorem againOf_queued {fs : List TxFrame} (h : ∀ f ∈ fs, f.msg.kind ≠ .release) (s : State) :
    againOf (queued fs s) = againOf s := by
  have hnone (n : Nat) : (fs.any fun f => releases n f.msg) = false :=
    List.any_eq_false.2 fun f hf => by rw [releases_kind (h f hf)]; exact Bool.false_ne_true
  have hany (n : Nat) : ((s.line.queue ++ fs).any fun f => releases n f.msg) =
      s.line.queue.any fun f => releases n f.msg := by rw [List.any_append, hnone, Bool.or_false]
  unfold againOf queued
  simp only [hany]

theorem besideOf_kind {s : State} {f : TxFrame} (h : f ∈ besideOf s) : f.msg.kind = .notice ∨ f.msg.kind = .status := by
  rcases List.mem_append.1 h with hf | hf
  · obtain ⟨set, -, rfl⟩ := Option.map_eq_some_iff.1 (Option.mem_toList.1 hf)
    exact .inl rfl
  · split at hf
    · rw [List.mem_singleton.1 hf]
      exact .inr rfl
    · cases hf

/-! ### What follows the owner -/

/-- What a success does once the owner of the frame is told (R153, log 38). -/
def afterOwner (s : State) : State := requeueOwed (releaseWaiting s)

/-- With room the frames beside the queue enter it, and the owed RELEASE behind them (log 38). -/
theorem afterOwner_enters {s : State} (hstatus : s.line.waitingStatus = true → ∀ f ∈ s.line.queue, f.msg.kind ≠ .status)
    (hnotice : s.line.waitingNotice ≠ none → ∀ f ∈ s.line.queue, f.msg.kind ≠ .notice)
    (hroom : besideOf s = [] ∨ s.line.queue.length + (besideOf s).length ≤ 8)
    (hagain : againOf s = [] ∨ s.line.queue.length + (besideOf s).length < 8) :
    afterOwner s = queued (besideOf s ++ againOf s) (besideTaken s) := by
  have hsame : againOf (queued (besideOf s) (besideTaken s)) = againOf s :=
    againOf_queued (fun f hf hk => by rcases besideOf_kind hf with h | h <;> rw [hk] at h <;> cases h) (besideTaken s)
  rw [afterOwner, releaseWaiting_enters hstatus hnotice hroom, requeueOwed_enters, hsame, queued_queued]
  rw [hsame]
  refine hagain.imp_right fun hlt => ?_
  show (s.line.queue ++ besideOf s).length < 8
  rwa [List.length_append]

/-- What follows the owner is the queuing of frames other than a CLAIM, in a full queue too. -/
theorem afterOwner_induction {P : State → Prop} {s : State} (hbase : P (besideTaken s))
    (hstep : ∀ m t, m.kind ≠ .claim → P t → P (enqueue m t)) : P (afterOwner s) := by
  have hnotice : P (noticeEntered s) := by
    unfold noticeEntered
    split
    · exact hstep _ _ (by simp [TxMsg.kind]) hbase
    · exact hbase
  have hreleased : P (releaseWaiting s) := by
    rw [releaseWaiting_eq]
    split
    · exact hstep _ _ (by simp [TxMsg.kind]) hnotice
    · exact hnotice
  unfold afterOwner
  rcases requeueOwed_cases (releaseWaiting s) with heq | ⟨n, r, heq⟩ <;> rw [heq]
  · exact hreleased
  · exact hstep _ _ (by simp [TxMsg.kind]) hreleased

/-- It keeps the meter record, the seal unit and the pending notices (R162). -/
theorem afterOwner_leaves (s : State) : (afterOwner s).meter = s.meter ∧ (afterOwner s).sealUnit = s.sealUnit ∧
    Remembers s (afterOwner s) := by
  refine afterOwner_induction (P := fun t => t.meter = s.meter ∧ t.sealUnit = s.sealUnit ∧ Remembers s t)
    ⟨rfl, rfl, .of_same rfl rfl⟩ fun m t hm ⟨hmeter, hunit, hremembers⟩ => ?_
  obtain ⟨hmeter', hunit'⟩ := enqueue_of_not_claim hm t
  exact ⟨hmeter'.trans hmeter, hunit'.trans hunit, hremembers.trans (enqueue_remembers m t)⟩

theorem afterOwner_keeps (s : State) : QueuingKeeps s (afterOwner s) :=
  (releaseWaiting_keeps s).trans (requeueOwed_keeps _)

/-! ### A RELEASE stays queued -/

/-- A RELEASE of a claim number with its reason is queued. -/
def HoldsRelease (n : Nat) (r : ReleaseReason) (l : LineController) : Prop := ∃ f ∈ l.queue, f.msg = .release n r

section Holds

variable {n : Nat} {r : ReleaseReason}

/-- A frame of the most urgent class is displaced by none (R162). -/
theorem HoldsRelease.queueFrame {l : LineController} (h : HoldsRelease n r l) (now : Stamp) (m : TxMsg) :
    HoldsRelease n r (queueFrame now m l).1 := by
  obtain ⟨f, hf, hmsg⟩ := h
  unfold Machine.queueFrame admitFrame
  split
  · next hcoalesces =>
    split
    · refine ⟨f, ?_, hmsg⟩
      cases m <;> exact hf
    · have hkind : ¬ f.msg.kind = m.kind := fun hk => by
        rw [← hk, hmsg, Bool.and_eq_true] at hcoalesces
        cases hcoalesces.1
      exact ⟨f, List.mem_map.2 ⟨f, hf, if_neg hkind⟩, hmsg⟩
  · split
    · exact ⟨f, List.mem_append_left _ hf, hmsg⟩
    · split
      · next i hi =>
        obtain ⟨g, hg, hcls⟩ := victim_cls hi
        obtain ⟨j, hj⟩ := List.getElem?_of_mem hf
        have hne : j ≠ i := fun hji => by
          rw [hji, hg] at hj
          rw [Option.some.inj hj, hmsg] at hcls
          exact absurd hcls (Nat.not_lt_zero _)
        exact ⟨f, List.mem_append_left _ (List.mem_eraseIdx_iff_getElem?.2 ⟨j, hne, hj⟩), hmsg⟩
      · exact ⟨f, hf, hmsg⟩

theorem HoldsRelease.enqueue {s : State} (h : HoldsRelease n r s.line) (m : TxMsg) :
    HoldsRelease n r (enqueue m s).line := by
  have hqueued := h.queueFrame s.fe.now m
  rcases enqueue_cases m s with heq | ⟨lost, -, heq⟩ <;> rw [heq]
  · exact hqueued
  · rw [frameLost, tellOwner_line]
    rcases raiseTxDropped_line { s with line := (Machine.queueFrame s.fe.now m s.line).1 } with hline | ⟨set, hline⟩ <;>
      rw [hline]
    · exact hqueued
    · exact hqueued.queueFrame _ _

theorem HoldsRelease.raiseNotice {s : State} (h : HoldsRelease n r s.line) (k : Notice) :
    HoldsRelease n r (raiseNotice k s).line := by
  rcases raiseNotice_cases k s with heq | ⟨set, heq | heq⟩ <;> rw [heq]
  · exact h
  · exact h
  · exact HoldsRelease.enqueue (s := { s with cmd := { s.cmd with notices := set } }) h _

theorem HoldsRelease.afterOwner {s : State} (h : HoldsRelease n r s.line) : HoldsRelease n r (afterOwner s).line :=
  afterOwner_induction (P := fun t => HoldsRelease n r t.line) h fun m _ _ ht => ht.enqueue m

end Holds

end Sys2Proof.Machine
end

section
/-! SUPPORT. The owner of a sent frame: the examination and the grant of the own claim, the owed release, and the series
(R133 to R139, R153, R167, R168). -/

namespace Sys2Proof.Machine

/-! ### The own claim in the press list -/

section Last

variable {own : Nat} {claims : List Claim} {c : Claim} (hothers : ∀ x ∈ claims, x.station ≠ own) (hc : c.station = own)
include hothers hc

/-- A claim that enters at the end has all the others ahead (R135). -/
theorem placeOf_last : placeOf own (claims ++ [c]) = some claims.length := by
  have hnone : claims.findIdx? (fun x => x.station == own) = none :=
    List.findIdx?_eq_none_iff.2 fun x hx => beq_eq_false_iff_ne.2 (hothers x hx)
  simp [placeOf, List.findIdx?_append, hnone, hc]

theorem takeWhile_last : (claims ++ [c]).takeWhile (fun x => x.station != own) = claims := by
  rw [List.takeWhile_append_of_pos fun x hx => bne_iff_ne.2 (hothers x hx)]
  simp [hc]

end Last

theorem mem_withoutStation {k : Nat} {claims : List Claim} {x : Claim} (h : x ∈ withoutStation k claims) :
    x.station ≠ k := bne_iff_ne.1 (List.mem_filter.1 h).2

/-- The station with its sent claim at the end of the press list (R135). -/
def claimEntered (c : OwnClaim) (s : State) : State := { s with sealUnit := { s.sealUnit with
  pressList := withoutStation s.line.own s.sealUnit.pressList ++ [⟨s.line.own, c.number, c.sealNo⟩]
  current := some { c with sent := true }
  owed := s.sealUnit.owed.filter fun o => o.number == c.number } }

theorem ownClaimSent_other {n : Nat} {s : State}
    (h : s.meter.batch ≠ .claiming ∨ ∀ c, s.sealUnit.current = some c → c.number ≠ n) : ownClaimSent n s = s := by
  unfold ownClaimSent
  split
  · next c hb hc => exact if_neg (h.resolve_left (not_not_intro hb) c hc)
  · rfl

section Entered

variable {c : OwnClaim} {s : State}

theorem claimEntered_place : placeOf s.line.own (claimEntered c s).sealUnit.pressList =
    some (withoutStation s.line.own s.sealUnit.pressList).length := placeOf_last (fun _ hx => mem_withoutStation hx) rfl

variable (hb : s.meter.batch = .claiming)
include hb

theorem ownClaimSent_eq (hc : s.sealUnit.current = some c) :
    ownClaimSent c.number s = examineAndGrant (claimEntered c s) := by
  simp only [ownClaimSent, hb, hc, if_true]
  rfl

/-- A claim with the same seal number ahead abandons the own one; else the grant test follows (R133, R135). -/
theorem examineAndGrant_entered : examineAndGrant (claimEntered c s) =
    if ∃ x ∈ withoutStation s.line.own s.sealUnit.pressList, x.sealNo = c.sealNo
    then abandonReused { c with sent := true } (claimEntered c s) else grantTest (claimEntered c s) := by
  have hahead : claimedAhead c.sealNo (claimEntered c s) = true ↔
      ∃ x ∈ withoutStation s.line.own s.sealUnit.pressList, x.sealNo = c.sealNo := by
    have hlist : ((claimEntered c s).sealUnit.pressList.takeWhile fun x => x.station != s.line.own) =
        withoutStation s.line.own s.sealUnit.pressList := takeWhile_last (fun _ hx => mem_withoutStation hx) rfl
    rw [claimedAhead, show (claimEntered c s).line.own = s.line.own from rfl, hlist]
    simp
  have hbatch : (claimEntered c s).meter.batch = .claiming := hb
  have hplace : (true && (placeOf (claimEntered c s).line.own (claimEntered c s).sealUnit.pressList).isSome) = true := by
    rw [show (claimEntered c s).line.own = s.line.own from rfl, claimEntered_place]
    rfl
  have hcurrent : (claimEntered c s).sealUnit.current = some { c with sent := true } := rfl
  simp only [examineAndGrant, hbatch, hcurrent, if_pos hplace, hahead]

end Entered

/-- Abandonment for a claim ahead: the RELEASE is owed, the held number discarded, and the record evaluated (R135, R137). -/
theorem abandonReused_leaves (c : OwnClaim) (s : State) :
    (abandonReused c s).sealUnit = { s.sealUnit with current := none, owed := some ⟨c.number, .abandoned⟩ } ∧
    (abandonReused c s).meter.held = none ∧
    (abandonReused c s).meter.verdict = overallVerdict (abandonReused c s) ∧
    (abandonReused c s).meter.batch = stateOfVerdict (overallVerdict (abandonReused c s)) ∧
    hasNotice (abandonReused c s).cmd.notices .sealReused = true ∧
    (s.line.queue.length < 8 → HoldsRelease c.number .abandoned (abandonReused c s).line) := by
  have hunit : (raiseNotice .sealReused (queueRelease c.number .abandoned s)).sealUnit =
      { s.sealUnit with owed := some ⟨c.number, .abandoned⟩ } :=
    (raiseNotice_leaves _ _).2.trans (queueRelease_leaves _ _ s).2
  rw [abandonReused, returnToAwaitSeal_not_held rfl]
  refine ⟨?_, rfl, rfl, rfl, raiseNotice_raises .sealReused (queueRelease c.number .abandoned s), fun hroom => ?_⟩
  · show ({ (raiseNotice .sealReused (queueRelease c.number .abandoned s)).sealUnit with current := none } : SealUnit) = _
    rw [hunit]
  · refine HoldsRelease.raiseNotice (s := queueRelease c.number .abandoned s) ?_ .sealReused
    rw [queueRelease, enqueue_room (.release c.number .abandoned)
      { s with sealUnit := { s.sealUnit with owed := some ⟨c.number, .abandoned⟩ } } rfl hroom]
    exact ⟨_, List.mem_append_right _ (List.mem_singleton_self _), rfl⟩

/-! ### The owed release -/

/-- The own claim that a RELEASE names out of the press list (R135). -/
def claimLeft (n : Nat) (s : State) : State := { s with sealUnit := { s.sealUnit with
  pressList := s.sealUnit.pressList.filter fun c => !(c.station == s.line.own && c.number == n) } }

/-- The success of a RELEASE ends the owed release of its number (R138). -/
theorem ownReleaseSent_ends {n : Nat} {s : State} (h : ∀ o, s.sealUnit.owed = some o → o.number = n) :
    ownReleaseSent n s = { claimLeft n s with sealUnit := { (claimLeft n s).sealUnit with owed := none } } := by
  have hnone : (s.sealUnit.owed.filter fun o => o.number != n) = none := by
    cases ho : s.sealUnit.owed with
    | none => rfl
    | some o => exact Option.filter_some_neg (by simpa using h o ho)
  rw [ownReleaseSent, hnone]
  rfl

/-- An owed release of another number stays (R138). -/
theorem ownReleaseSent_keeps_owed {n : Nat} {s : State} (h : ∃ o, s.sealUnit.owed = some o ∧ o.number ≠ n) :
    ownReleaseSent n s = claimLeft n s := by
  obtain ⟨o, ho, hne⟩ := h
  have hsame : (s.sealUnit.owed.filter fun o => o.number != n) = s.sealUnit.owed := by
    rw [ho]
    exact Option.filter_some_pos (by simpa using hne)
  rw [ownReleaseSent, hsame]
  rfl

/-! ### The series -/

section Series

variable {q : Series} {s : State} (hq : s.cmd.series = some q)
include hq

theorem partSent_last (h : q.total ≤ q.next) : partSent s = { s with cmd := { s.cmd with series := none } } := by
  simp only [partSent, hq, if_neg (Nat.not_lt.2 h)]

theorem partSent_superseded (h : q.next < q.total) (hs : q.superseded = true) : partSent s =
    enqueue (.detail q.next q.total [] false) { s with cmd := { s.cmd with series := none } } := by
  simp only [partSent, hq, if_pos h, hs, if_true]

theorem partSent_next (h : q.next < q.total) (hs : q.superseded = false) : partSent s =
    enqueue (.detail q.next q.total (seriesPart q.subject q.next s) true)
      { s with cmd := { s.cmd with series := some { q with next := q.next + 1 } } } := by
  simp only [partSent, hq, if_pos h, hs, Bool.false_eq_true, if_false]

end Series

theorem seriesPart_eq {q : Subject} {part : Nat} {bs : List Byte} {s : State}
    (h : (q = .meter ∧ bs = meterPart s.meter part) ∨
      ∃ p x, q = .point p ∧ slotGet s.meter.records p = some x ∧ bs = recordPart x part) : seriesPart q part s = bs := by
  rcases h with ⟨rfl, rfl⟩ | ⟨p, x, rfl, hx, rfl⟩
  · rfl
  · simp only [seriesPart, hx, Option.map_some, Option.getD_some]

/-! ### The success -/

/-- The frame under attempt out of the queue, a lower fault tally and the heartbeat timer started again (R115, R153). -/
def frameSent (s : State) : State := { s with line := { s.line with
  queue := dropSending s.line.queue
  faultTally := s.line.faultTally - 1
  heartbeat := some (s.fe.now + BitVec.ofNat 48 (s.cmd.setup.agingPeriod * 50000000)) } }

theorem succeed_eq (f : TxFrame) (s : State) : succeed f s = afterOwner (tellSent f.msg (frameSent s)) := by
  unfold succeed startHeartbeat
  rw [later_halfAging]
  rfl

/-- Owners that have nothing to do: those of other frames, of an earlier CLAIM, and of a part of an ended series (R153). -/
theorem tellSent_quiet {m : TxMsg} {s : State} (h : (m.kind ≠ .claim ∧ m.kind ≠ .release ∧ m.kind ≠ .detail) ∨
    (∃ n number, m = .claim n number ∧
      (s.meter.batch ≠ .claiming ∨ ∀ c, s.sealUnit.current = some c → c.number ≠ n)) ∨
    ∃ part total content live, m = .detail part total content live ∧ (live = false ∨ s.cmd.series = none)) :
    tellSent m s = s := by
  rcases h with ⟨hclaim, hrelease, hdetail⟩ | ⟨n, number, rfl, hother⟩ | ⟨part, total, content, live, rfl, hended⟩
  · unfold tellSent
    split
    · exact absurd rfl hclaim
    · exact absurd rfl hrelease
    · exact absurd rfl hdetail
    · rfl
  · exact ownClaimSent_other hother
  · unfold tellSent
    rcases hended with rfl | hnone
    · rfl
    · have hpart : partSent s = s := by simp only [partSent, hnone]
      rw [hpart]
      exact ite_self s

theorem exec_attemptSuccess {f : TxFrame} {level : Bool} {s : State} (hp : s.phase = .running)
    (hf : s.line.queue.find? TxFrame.sending = some f) : exec (.attemptSuccess level) s =
      .next (afterOwner (tellSent f.msg (frameSent (withStrokeDone level s)))) := by
  refine congrArg Host.Outcome.next ((whenRunning_running (s := withStrokeDone level s) hp).trans ?_)
  have hunder : underAttempt (withStrokeDone level s).line.queue = some f := hf
  simp only [hunder]
  exact succeed_eq f _

section Sent

variable {f : TxFrame} {level : Bool} {s u : State} (hp : s.phase = .running)
  (hf : s.line.queue.find? TxFrame.sending = some f)
  (hstatus : s.line.waitingStatus = true → ∀ g ∈ dropSending s.line.queue, g.msg.kind ≠ .status)
  (hnotice : s.line.waitingNotice ≠ none → ∀ g ∈ dropSending s.line.queue, g.msg.kind ≠ .notice)
include hp hf hstatus hnotice

/-- Where the owner leaves the line, the frames beside the queue and an owed RELEASE enter behind the frames left. -/
theorem attemptSuccess_enters (htold : tellSent f.msg (frameSent (withStrokeDone level s)) = u)
    (hline : u.line = (frameSent (withStrokeDone level s)).line) (hfe : u.fe = s.fe)
    (hroom : besideOf s = [] ∨ (dropSending s.line.queue).length + (besideOf s).length ≤ 8)
    (hagain : againOf u = [] ∨ (dropSending s.line.queue).length + (besideOf s).length < 8) :
    exec (.attemptSuccess level) s = .next (queued (besideOf s ++ againOf u) (besideTaken u)) := by
  have hbeside : besideOf u = besideOf s := by
    unfold besideOf
    rw [hline, hfe]
    rfl
  have hqueue : u.line.queue = dropSending s.line.queue := by
    rw [hline]
    rfl
  rw [exec_attemptSuccess hp hf, htold, afterOwner_enters, hbeside]
  · rw [hqueue, hline]
    exact hstatus
  · rw [hqueue, hline]
    exact hnotice
  · rw [hqueue, hbeside]
    exact hroom
  · rw [hqueue, hbeside]
    exact hagain

/-- Where the owner leaves no release owed, the frames beside the queue alone enter. -/
theorem attemptSuccess_unowed {unit : SealUnit} {record : MeterRecord}
    (htold : tellSent f.msg (frameSent (withStrokeDone level s)) =
      { frameSent (withStrokeDone level s) with sealUnit := unit, meter := record }) (howed : unit.owed = none)
    (hroom : besideOf s = [] ∨ (dropSending s.line.queue).length + (besideOf s).length ≤ 8) :
    exec (.attemptSuccess level) s = .next (queued (besideOf s)
      (besideTaken { frameSent (withStrokeDone level s) with sealUnit := unit, meter := record })) := by
  have hnone : againOf { frameSent (withStrokeDone level s) with sealUnit := unit, meter := record } = [] := by
    unfold againOf
    dsimp only
    rw [howed]
  have hexec := attemptSuccess_enters hp hf hstatus hnotice htold rfl rfl hroom (.inl hnone)
  rwa [hnone, List.append_nil] at hexec

/-- Where the owner queues a DETAIL, it enters ahead of them. -/
theorem attemptSuccess_queues {m : TxMsg} {c : Option Series} (hm : m.kind = .detail)
    (htold : tellSent f.msg (frameSent (withStrokeDone level s)) =
      enqueue m { frameSent (withStrokeDone level s) with cmd := { s.cmd with series := c } })
    (hroom : (dropSending s.line.queue).length + (besideOf s).length < 8)
    (hagain : againOf (frameSent s) = [] ∨ (dropSending s.line.queue).length + (besideOf s).length < 7) :
    exec (.attemptSuccess level) s = .next (queued (newFrame s.fe.now m :: besideOf s ++ againOf (frameSent s))
      (besideTaken { frameSent (withStrokeDone level s) with cmd := { s.cmd with series := c } })) := by
  have hentered : enqueue m { frameSent (withStrokeDone level s) with cmd := { s.cmd with series := c } } =
      queued [newFrame s.fe.now m] { frameSent (withStrokeDone level s) with cmd := { s.cmd with series := c } } :=
    enqueue_queued (fun h => by rw [hm] at h; cases h) (show (dropSending s.line.queue).length < 8 by omega)
  have hown : againOf (queued [newFrame s.fe.now m]
      { frameSent (withStrokeDone level s) with cmd := { s.cmd with series := c } }) = againOf (frameSent s) :=
    againOf_queued (fun g hg hk => by
      rw [List.mem_singleton.1 hg] at hk
      cases hm.symm.trans hk) _
  have hmem {k : FrameKind} (hk : k ≠ .detail) (hold : ∀ g ∈ dropSending s.line.queue, g.msg.kind ≠ k) :
      ∀ g ∈ dropSending s.line.queue ++ [newFrame s.fe.now m], g.msg.kind ≠ k := fun g hg => by
    rcases List.mem_append.1 hg with hg | hg
    · exact hold g hg
    · rw [List.mem_singleton.1 hg]
      exact fun h => hk (h.symm.trans hm)
  have hlen : (dropSending s.line.queue ++ [newFrame s.fe.now m]).length = (dropSending s.line.queue).length + 1 :=
    List.length_append
  have hafter := afterOwner_enters (s := queued [newFrame s.fe.now m]
      { frameSent (withStrokeDone level s) with cmd := { s.cmd with series := c } })
    (fun h => hmem (by decide) (hstatus h)) (fun h => hmem (by decide) (hnotice h))
    (.inr (show (dropSending s.line.queue ++ [newFrame s.fe.now m]).length + (besideOf s).length ≤ 8 by omega))
    (by
      rw [hown]
      refine hagain.imp_right fun hlt => ?_
      show (dropSending s.line.queue ++ [newFrame s.fe.now m]).length + (besideOf s).length < 8
      omega)
  rw [hown] at hafter
  rw [exec_attemptSuccess hp hf, htold, hentered, hafter]
  exact congrArg Host.Outcome.next (queued_queued [newFrame s.fe.now m] _
    (besideTaken { frameSent (withStrokeDone level s) with cmd := { s.cmd with series := c } }))

end Sent

/-- An owed release of another number than the given one ends with the success of that number's CLAIM (R138). -/
theorem owed_filter_none {n : Nat} {owed : Option OwedRelease} (h : ∀ o, owed = some o → o.number ≠ n) :
    (owed.filter fun o => o.number == n) = none := by
  cases owed with
  | none => rfl
  | some o => exact Option.filter_some_neg (by simpa using h o rfl)

/-- The success of the CLAIM leaves nothing owed where no release of its number was (R138). -/
theorem claimEntered_unowed {c : OwnClaim} {s : State} (h : ∀ o, s.sealUnit.owed = some o → o.number ≠ c.number) :
    claimEntered c s = { s with sealUnit := { s.sealUnit with
      pressList := withoutStation s.line.own s.sealUnit.pressList ++ [⟨s.line.own, c.number, c.sealNo⟩]
      current := some { c with sent := true }
      owed := none } } := by rw [claimEntered, owed_filter_none h]

section Claimed

variable {f : TxFrame} {level : Bool} {s : State} {c : OwnClaim} {number : Text} (hmsg : f.msg = .claim c.number number)
  (hb : s.meter.batch = .claiming) (hc : s.sealUnit.current = some c)
include hmsg hb hc

theorem tellSent_claim : tellSent f.msg (frameSent (withStrokeDone level s)) =
    if ∃ x ∈ withoutStation s.line.own s.sealUnit.pressList, x.sealNo = c.sealNo
    then abandonReused { c with sent := true } (claimEntered c (frameSent (withStrokeDone level s)))
    else grantTest (claimEntered c (frameSent (withStrokeDone level s))) := by
  rw [hmsg]
  exact (ownClaimSent_eq (s := frameSent (withStrokeDone level s)) hb hc).trans
    (examineAndGrant_entered (s := frameSent (withStrokeDone level s)) hb)

/-- The success of a CLAIM whose number is claimed ahead abandons the claim (R133, R135). -/
theorem attemptSuccess_abandons (hp : s.phase = .running) (hf : s.line.queue.find? TxFrame.sending = some f)
    (hahead : ∃ x ∈ withoutStation s.line.own s.sealUnit.pressList, x.sealNo = c.sealNo) :
    ∃ t, exec (.attemptSuccess level) s = .next t ∧
      t.sealUnit = { s.sealUnit with
        pressList := withoutStation s.line.own s.sealUnit.pressList ++ [⟨s.line.own, c.number, c.sealNo⟩]
        current := none
        owed := some ⟨c.number, .abandoned⟩ } ∧
      t.meter.held = none ∧ Evaluated t ∧ hasNotice t.cmd.notices .sealReused = true ∧
      ((dropSending s.line.queue).length ≤ 6 → ∃ g ∈ t.line.queue, g.msg = .release c.number .abandoned) := by
  obtain ⟨hunit, hheld, hverdict, hbatch, hnotice, hholds⟩ := abandonReused_leaves { c with sent := true }
    (claimEntered c (frameSent (withStrokeDone level s)))
  obtain ⟨hmeter', hunit', hremembers⟩ := afterOwner_leaves (abandonReused { c with sent := true }
    (claimEntered c (frameSent (withStrokeDone level s))))
  have hblocks := (afterOwner_keeps (abandonReused { c with sent := true }
    (claimEntered c (frameSent (withStrokeDone level s))))).blocks
  unfold QueuingOnly at hblocks
  rw [exec_attemptSuccess hp hf, tellSent_claim hmsg hb hc, if_pos hahead]
  refine ⟨_, rfl, hunit'.trans hunit, by rw [hmeter', hheld], ?_, hremembers.notices _ hnotice, fun hroom => ?_⟩
  · exact evaluated_congr (by rw [hblocks]) (by rw [hblocks]) hmeter' ⟨hverdict, hbatch⟩
  · exact (hholds (show (dropSending s.line.queue).length < 8 by omega)).afterOwner

variable (hahead : ∀ x ∈ withoutStation s.line.own s.sealUnit.pressList, x.sealNo ≠ c.sealNo)
include hahead

/-- Any other current CLAIM is tested in its place, the last of the list (R135, R136). -/
theorem tellSent_claim_tested : tellSent f.msg (frameSent (withStrokeDone level s)) =
    grantTest (claimEntered c (frameSent (withStrokeDone level s))) :=
  (tellSent_claim hmsg hb hc).trans (if_neg fun ⟨x, hx, hsame⟩ => hahead x hx hsame)

/-- Behind K others it waits (R136). -/
theorem tellSent_claim_waits
    (hbehind : s.cmd.setup.pressBudget ≤ (withoutStation s.line.own s.sealUnit.pressList).length) :
    tellSent f.msg (frameSent (withStrokeDone level s)) = claimEntered c (frameSent (withStrokeDone level s)) :=
  (tellSent_claim_tested hmsg hb hc hahead).trans (grantTest_waits
    (s := claimEntered c (frameSent (withStrokeDone level s))) hb rfl
      (claimEntered_place (s := frameSent (withStrokeDone level s))) hbehind)

variable (hamong : (withoutStation s.line.own s.sealUnit.pressList).length < s.cmd.setup.pressBudget)
include hamong

/-- Among the first K it is granted (R136). -/
theorem tellSent_claim_granted : tellSent f.msg (frameSent (withStrokeDone level s)) =
    grant { c with sent := true } (claimEntered c (frameSent (withStrokeDone level s))) :=
  (tellSent_claim_tested hmsg hb hc hahead).trans (grantTest_grants
    (s := claimEntered c (frameSent (withStrokeDone level s))) hb rfl rfl
      (claimEntered_place (s := frameSent (withStrokeDone level s))) hamong)

/-- With STROKE-DONE high the granted claim is refused as a press fault (R139). -/
theorem attemptSuccess_refused (hp : s.phase = .running) (hf : s.line.queue.find? TxFrame.sending = some f)
    (hhigh : level = true) : ∃ t, exec (.attemptSuccess level) s = .next t ∧
      t.meter.batch = .sealFault ∧ t.sealUnit.current = none ∧ t.sealUnit.pressDrive = s.sealUnit.pressDrive ∧
      t.sealUnit.owed = some ⟨c.number, .fault⟩ ∧ hasNotice t.cmd.notices .pressFault = true := by
  obtain ⟨hmeter, hunit, hnotice⟩ := grant_refused (c := { c with sent := true })
    (s := claimEntered c (frameSent (withStrokeDone level s))) hhigh
  obtain ⟨hmeter', hunit', hremembers⟩ :=
    afterOwner_leaves (grant { c with sent := true } (claimEntered c (frameSent (withStrokeDone level s))))
  rw [exec_attemptSuccess hp hf, tellSent_claim_granted hmsg hb hc hahead hamong]
  refine ⟨_, rfl, ?_, ?_, ?_, ?_, hremembers.notices _ hnotice⟩
  · rw [hmeter', hmeter]
  · rw [hunit', hunit]
  · rw [hunit', hunit]
    rfl
  · rw [hunit', hunit]

end Claimed

/-- Settles O40: the owner of the sent frame first, then the frames beside the queue, then an owed RELEASE. -/
theorem attemptSucceeds : Obligations.AttemptSucceeds := by
  intro f level s hp hf fresh rest beside again base others hstatus hnotice hroom
  refine ⟨fun hquiet hagain => ?_, fun n r hmsg => ⟨fun howed => ?_, fun howed hagain => ?_⟩,
    fun n number c hmsg howed hb hc hn => ?_, fun part total content q hmsg hq => ?_⟩
  · exact attemptSuccess_enters hp hf hstatus hnotice (tellSent_quiet (s := frameSent (withStrokeDone level s)) hquiet)
      rfl rfl hroom hagain
  · have htold : tellSent f.msg (frameSent (withStrokeDone level s)) = _ :=
      (congrArg (tellSent · _) hmsg).trans (ownReleaseSent_ends (s := frameSent (withStrokeDone level s)) howed)
    exact attemptSuccess_unowed hp hf hstatus hnotice htold rfl hroom
  · have htold : tellSent f.msg (frameSent (withStrokeDone level s)) = _ :=
      (congrArg (tellSent · _) hmsg).trans (ownReleaseSent_keeps_owed (s := frameSent (withStrokeDone level s)) howed)
    exact attemptSuccess_enters hp hf hstatus hnotice htold rfl rfl hroom hagain
  · subst hn
    refine ⟨attemptSuccess_abandons hmsg hb hc hp hf, fun hahead => ⟨fun hbehind => ?_, fun hamong hlow => ?_,
      fun hamong hhigh => attemptSuccess_refused hmsg hb hc hahead hamong hp hf hhigh⟩⟩
    · have htold := tellSent_claim_waits (level := level) hmsg hb hc hahead hbehind
      rw [claimEntered_unowed (s := frameSent (withStrokeDone level s)) howed] at htold
      exact attemptSuccess_unowed hp hf hstatus hnotice htold rfl hroom
    · have htold := (tellSent_claim_granted (level := level) hmsg hb hc hahead hamong).trans (grant_begins hlow)
      rw [claimEntered_unowed (s := frameSent (withStrokeDone level s)) howed] at htold
      exact attemptSuccess_unowed hp hf hstatus hnotice htold rfl hroom
  · have htold : tellSent f.msg (frameSent (withStrokeDone level s)) =
        partSent (frameSent (withStrokeDone level s)) := congrArg (tellSent · _) hmsg
    refine ⟨fun hlast hagain => ?_, fun hroom' hagain hnext => ⟨fun hsuper => ?_, fun hsuper bs hbs => ?_⟩⟩
    · exact attemptSuccess_enters hp hf hstatus hnotice
        (htold.trans (partSent_last (s := frameSent (withStrokeDone level s)) hq hlast)) rfl rfl hroom hagain
    · exact attemptSuccess_queues hp hf hstatus hnotice rfl
        (htold.trans (partSent_superseded (s := frameSent (withStrokeDone level s)) hq hnext hsuper)) hroom' hagain
    · have hpart := partSent_next (s := frameSent (withStrokeDone level s)) hq hnext hsuper
      rw [seriesPart_eq (s := frameSent (withStrokeDone level s)) hbs] at hpart
      exact attemptSuccess_queues hp hf hstatus hnotice rfl (htold.trans hpart) hroom' hagain

end Sys2Proof.Machine
end

section
/-! SUPPORT. SYNC: priming, the window that closes with its own tally, and the judgment of the collection before it (R119 to
R121, R123 to R126). -/

namespace Sys2Proof.Machine

/-! ### What the judgment leaves -/

/-- A change of the condition reaches the run's void flag, the condition, and what queuing reaches (R126). -/
theorem setSuspect_queuingOnly (b : Bool) (s : State) :
    QueuingOnly { s with run := (setSuspect b s).run, xc := (setSuspect b s).xc } (setSuspect b s) := by
  unfold setSuspect
  dsimp only
  split
  · have hraised := raiseNotice_queuingOnly .refSuspect (voidRun { s with xc := { s.xc with suspect := b } })
    unfold QueuingOnly at *
    rw [hraised]
    rfl
  · split <;> rfl

/-- A judgment reaches the same blocks, among them no input, no tracker, no gate, no plan and no roster (R124 to R126). -/
theorem judge_queuingOnly (s : State) : QueuingOnly { s with run := (judge s).run, xc := (judge s).xc } (judge s) := by
  unfold judge
  split
  · split
    · exact .refl s
    · exact setSuspect_queuingOnly _ { s with xc := _ }
  · exact .refl s

/-- Where no collection is unjudged there is nothing to judge (R120). -/
theorem judge_of_judged {s : State} (h : ∀ c, s.xc.collection = some c → c.judged = true) : judge s = s := by
  unfold judge
  split
  · next c hc => exact if_pos (h c hc)
  · rfl

/-- A judgment of fewer than three tallies has no outcome (R124). -/
theorem judge_few {c : Collection} {s : State} (hc : s.xc.collection = some c) (hj : c.judged = false)
    (hfew : c.tallies.length < 3) :
    judge s = { s with xc := { s.xc with collection := some { c with judged := true } } } := by
  have hverdict : verdictOn c s = (s.xc.suspect, s.xc.streak) := by rw [verdictOn, outcome_few hfew, judged]
  rw [judge_eq hc hj, collectionJudged, hverdict]
  exact setSuspect_same rfl

/-- The early-judgment test marks a collection of fewer than three tallies as judged, or leaves it (R123, R124). -/
theorem earlyJudgment_few {c : Collection} {s : State} (hc : s.xc.collection = some c) (hj : c.judged = false)
    (hfew : c.tallies.length < 3) : earlyJudgment s =
      { s with xc := { s.xc with collection := some { c with judged := allReported c s.roster.entries } } } := by
  simp only [earlyJudgment, hc]
  cases hall : allReported c s.roster.entries with
  | true => exact (if_pos rfl).trans (judge_few hc hj hfew)
  | false =>
    rw [if_neg Bool.false_ne_true, ← hj, ← hc]

/-- What a judgment does is read from condition, streak, run and the notice REF_SUSPECT after it. -/
theorem JudgedBy.to_after {own : Nat} {ts : List Nat} {before s t : State} (h : JudgedBy own ts before s)
    (hsuspect : t.xc.suspect = s.xc.suspect) (hstreak : t.xc.streak = s.xc.streak) (hrun : t.run = s.run)
    (hnotice : hasNotice t.cmd.notices .refSuspect = hasNotice s.cmd.notices .refSuspect) :
    JudgedBy own ts before t := by
  unfold JudgedBy at *
  rwa [hsuspect, hstreak, hrun, hnotice]

/-! ### The closed window -/

theorem tellOwner_notices (m : TxMsg) (s : State) : (tellOwner m s).cmd.notices = s.cmd.notices := by
  unfold tellOwner
  split
  · split
    · rw [abandonDropped, evaluateRecord_eq]
    · rfl
  · split <;> rfl
  · rfl

/-- A queuing raises TX_DROPPED alone, and clears nothing (R162, R169). -/
theorem enqueue_hasNotice {n : Notice} (hn : n ≠ .txDropped) (m : TxMsg) (s : State) :
    hasNotice (enqueue m s).cmd.notices n = hasNotice s.cmd.notices n := by
  have hraised (t : State) : hasNotice (raiseTxDropped t).cmd.notices n = hasNotice t.cmd.notices n := by
    unfold raiseTxDropped
    split
    · rfl
    · dsimp only
      split <;> exact hasNotice_withNotice_ne hn.symm _
  rcases enqueue_cases m s with heq | ⟨lost, -, heq⟩ <;> rw [heq]
  rw [frameLost, tellOwner_notices, hraised]

section Window

variable (n : BitVec 16) (l : Latch) (s : State)

/-- The collection of a closed window, with the own tally alone (R121). -/
def ownCollection : Collection := ⟨n, false, [⟨s.line.own, elapsed s.trk.count l.count⟩]⟩

/-- The latches and the collection once a window is closed, the collection judged or not (R121). -/
def windowClosed (early : Bool) : State := { s with xc := { s.xc with
  earlier := some l
  latest := some ⟨n, s.trk.count⟩
  collection := some { ownCollection n l s with judged := early } } }

/-- A closed window queues its TALLY, and its collection is judged at once where no peer has to report (R121, R123). -/
theorem formTally_eq : formTally n l s =
    { enqueue (.tally n (elapsed s.trk.count l.count)) (windowClosed n l s false) with
      xc := (windowClosed n l s (allReported (ownCollection n l s) s.roster.entries)).xc } := by
  refine (earlyJudgment_few (c := ownCollection n l s) ?_ rfl (by simp [ownCollection])).trans ?_
  · rw [enqueue_xc]
    rfl
  · congr 1
    rw [enqueue_roster, enqueue_xc]
    rfl

variable {n l s}

/-- The peers of a roster have no tally in the collection of a window just closed (R103, R123). -/
theorem allReported_ownCollection (hkeys : RosterKeys s) :
    allReported (ownCollection n l s) s.roster.entries = decide (s.roster.entries = []) := by
  obtain ⟨-, hothers⟩ := hkeys
  cases hentries : s.roster.entries with
  | nil => rfl
  | cons e es =>
    rw [hentries] at hothers
    obtain ⟨-, -, hne⟩ := hothers e List.mem_cons_self
    have hnone : tallyOf e.station (ownCollection n l s) = none := by simp [tallyOf, ownCollection, hne.symm]
    simp [allReported, hnone]

/-- With room the TALLY of a closed window enters the queue, and the collection is judged at once where the roster is
empty (R121, R123). -/
theorem formTally_room (hkeys : RosterKeys s) (hroom : s.line.queue.length < 8) : formTally n l s =
    queued [newFrame s.fe.now (.tally n (elapsed s.trk.count l.count))]
      (windowClosed n l s (decide (s.roster.entries = []))) := by
  rw [formTally_eq, allReported_ownCollection hkeys,
    enqueue_queued (m := .tally n _) (s := windowClosed n l s false) (fun h => by cases h) hroom]
  rfl

/-! ### The row -/

theorem takeSync_repeat (hl : s.xc.latest = some l) (hn : n = l.window) : takeSync n s = s := by
  simp only [takeSync, hl, if_pos hn]

theorem takeSync_unprimed (h : s.xc.latest = none) : takeSync n s = prime n s := by
  simp only [takeSync, h]

theorem takeSync_successor (hl : s.xc.latest = some l) (hne : n ≠ l.window) (hn : n = l.window + 1) :
    takeSync n s = formTally n l (judge s) := by
  simp only [takeSync, hl, if_neg hne, if_pos hn]

theorem takeSync_gap (hl : s.xc.latest = some l) (hne : n ≠ l.window) (hn : n ≠ l.window + 1) :
    takeSync n s = prime n (judge s) := by
  simp only [takeSync, hl, if_neg hne, if_neg hn]

end Window

/-- A SYNC for another window leaves condition, streak, run and REF_SUSPECT as the judgment of the collection before it
leaves them, and reaches none of the blocks that a judgment does not reach (R120, R121). -/
theorem takeSync_other {n : BitVec 16} {l : Latch} {s : State} (hl : s.xc.latest = some l) (hne : n ≠ l.window) :
    (takeSync n s).xc.suspect = (judge s).xc.suspect ∧ (takeSync n s).xc.streak = (judge s).xc.streak ∧
    hasNotice (takeSync n s).cmd.notices .refSuspect = hasNotice (judge s).cmd.notices .refSuspect ∧
    QueuingOnly { judge s with xc := (takeSync n s).xc } (takeSync n s) := by
  by_cases hn : n = l.window + 1
  · rw [takeSync_successor hl hne hn, formTally_eq]
    refine ⟨rfl, rfl, enqueue_hasNotice (by decide) _ _, ?_⟩
    have hqueued := enqueue_queuingOnly (.tally n (elapsed (judge s).trk.count l.count)) (windowClosed n l (judge s) false)
    unfold QueuingOnly at *
    rw [hqueued]
    rfl
  · rw [takeSync_gap hl hne hn]
    exact ⟨rfl, rfl, rfl, rfl⟩

/-- The row of an accepted SYNC (R120, R155). -/
theorem exec_sync {h : Hdr} {a b : Byte} {s : State} (hh : Hears s) (hs : FromSource h) :
    exec (.sync h [a, b]) s = .next (takeSync (BitVec.ofNat 16 (a.toNat * 256 + b.toNat)) (acked s)) := by
  have hread : readSync [a, b] = some (BitVec.ofNat 16 (a.toNat * 256 + b.toNat)) := by simp [readSync, beNat]
  refine congrArg Host.Outcome.next
    ((receiveKind_source .sync h [a, b] s hh hs rfl (by simp [fits, hread]) (by simp)).trans ?_)
  simp only [deliver, hread]

/-- Settles O24: each window is a repeat, a successor or a gap, and the collection before it is judged already. -/
theorem syncLatches : Obligations.SyncLatches := by
  intro h a b s hh hs n
  have hexec := exec_sync (a := a) (b := b) hh hs
  refine ⟨fun hnone => ?_, fun l hl hsame => ?_, fun l hl hnext hkeys hroom hjudged => ?_, fun l hl hne hgap => ⟨?_, ?_⟩⟩
  · exact hexec.trans (congrArg Host.Outcome.next (takeSync_unprimed (s := acked s) hnone))
  · exact hexec.trans (congrArg Host.Outcome.next (takeSync_repeat (s := acked s) hl hsame.symm))
  · have hne : n ≠ l.window := fun heq => absurd (heq.symm.trans hnext) (by simp)
    rw [hexec, takeSync_successor (s := acked s) hl hne hnext, judge_of_judged (s := acked s) hjudged,
      formTally_room (s := acked s) hkeys hroom]
    rfl
  · obtain ⟨_, _, _, hkeeps⟩ := judge_closing (acked s)
    obtain ⟨-, -, -, hcount, -⟩ := hkeeps.fields
    refine ⟨_, hexec, ?_⟩
    rw [takeSync_gap (s := acked s) hl hne hgap, prime_xc, hcount]
    exact ⟨rfl, rfl, rfl⟩
  · intro hjudged
    rw [hexec, takeSync_gap (s := acked s) hl hne hgap, judge_of_judged (s := acked s) hjudged]
    rfl

/-- Settles O25: the judgment of the collection comes first, and the closed or primed window after it leaves its effect. -/
theorem judgmentMovesSuspicion : Obligations.JudgmentMovesSuspicion := by
  intro h a b s l c own hh hs hl hne hc hj hown
  obtain ⟨hsuspect, hstreak, hnotice, hblocks⟩ := takeSync_other (s := acked s) hl hne
  have hjudged := judge_judgedBy (s := acked s) hc hj hown
  have hleft := judge_queuingOnly (acked s)
  refine ⟨_, exec_sync hh hs, ?_, ?_⟩
  · exact (hjudged.to_after hsuspect hstreak (by rw [hblocks]) hnotice).of_before rfl rfl rfl
  · rw [hblocks, hleft]
    exact ⟨rfl, rfl, rfl, rfl, rfl⟩

end Sys2Proof.Machine
end

section
/-! SUPPORT. The return from LINE-OFF: the JOIN, the heartbeat, the primed cross-check, and the owed RELEASE (R127, R138,
R158, R160). -/

namespace Sys2Proof.Machine

/-! ### The owed RELEASE -/

/-- A lost frame leaves what is owed (R138, R162). -/
theorem frameLost_owed (m : TxMsg) (s : State) : (frameLost m s).sealUnit.owed = s.sealUnit.owed := by
  have hraised : (raiseTxDropped s).sealUnit.owed = s.sealUnit.owed := by rw [raiseTxDropped_sealUnit]
  unfold frameLost tellOwner
  split
  · split
    · rw [abandonDropped, evaluateRecord_eq]
      exact hraised
    · exact hraised
  · split <;> exact hraised
  · exact hraised

theorem makeRoom_owed (s : State) : (makeRoom s).sealUnit.owed = s.sealUnit.owed := by
  unfold makeRoom
  split
  · split
    · rfl
    · exact frameLost_owed _ _
  · rfl

/-- With no RELEASE queued, the owed one enters the queue (R138). -/
theorem againOf_unqueued {s : State} (h : ∀ o f, s.sealUnit.owed = some o → f ∈ s.line.queue → f.msg.kind ≠ .release) :
    againOf s = (s.sealUnit.owed.map fun o => newFrame s.fe.now (.release o.number o.reason)).toList := by
  unfold againOf
  cases howed : s.sealUnit.owed with
  | none => rfl
  | some o =>
    refine if_neg fun hany => ?_
    obtain ⟨f, hf, hreleases⟩ := List.any_eq_true.1 hany
    rw [releases_kind (h o f howed hf)] at hreleases
    exact Bool.false_ne_true hreleases

/-! ### The row -/

/-- The line as it returns, with no attempt counted (R158). -/
def lineReturned (s : State) : State := { s with line := { s.line with
  state := .onLine
  faultTally := 0
  goodFrames := 0
  queue := s.line.queue.map fun f => { f with attempts := 0 } } }

/-- The state in which the owed RELEASE is queued again: the JOIN is in the queue, the heartbeat started, the cross-check to
be primed (R127, R158). -/
def joined (s : State) : State := unprime (startHeartbeat (queueJoin .lineReturn (lineReturned s)))

theorem exec_lineReturn {s : State} (hp : s.phase = .running) (h : s.line.state = .lineOff) :
    exec .lineReturn s = .next (requeueOwed (joined s)) :=
  congrArg Host.Outcome.next ((whenRunning_running hp).trans (if_pos h))

theorem exec_lineReturn_none {s : State} (h : s.line.state ≠ .lineOff) : exec .lineReturn s = .next s := by
  refine congrArg Host.Outcome.next ?_
  unfold whenRunning
  split
  · exact if_neg h
  · rfl

/-- With room the JOIN enters behind the queue (R160). -/
theorem joined_room {s : State} (h : s.line.queue.length < 8) : joined s =
    unprime (startHeartbeat (queued [newFrame s.fe.now (.join .lineReturn none)] (lineReturned s))) := by
  have hroom : (lineReturned s).line.queue.length < Config.queueCapacity := by
    rw [lineReturned, List.length_map]
    exact h
  rw [joined, queueJoin_room _ _ hroom]
  rfl

/-- With room the return queues the JOIN, and an owed RELEASE that is not queued behind it (R138, R158). -/
theorem requeueOwed_joined {s : State} (hroom : s.line.queue.length ≤ 6)
    (h : ∀ o f, s.sealUnit.owed = some o → f ∈ s.line.queue → f.msg.kind ≠ .release) :
    requeueOwed (joined s) = queued (newFrame s.fe.now (.join .lineReturn none) ::
        (s.sealUnit.owed.map fun o => newFrame s.fe.now (.release o.number o.reason)).toList)
      (unprime (startHeartbeat (lineReturned s))) := by
  have hlength : (joined s).line.queue.length < 8 := by
    rw [joined_room (by omega)]
    simp only [unprime_line, startHeartbeat_line, queued, lineReturned, List.length_append, List.length_map,
      List.length_singleton]
    omega
  have hagain : againOf (joined s) =
      (s.sealUnit.owed.map fun o => newFrame s.fe.now (.release o.number o.reason)).toList := by
    rw [joined_room (by omega)]
    refine againOf_unqueued fun o f howed hf => ?_
    rcases List.mem_append.1 hf with hf | hf
    · obtain ⟨g, hg, rfl⟩ := List.mem_map.1 hf
      exact h o g howed hg
    · rw [List.mem_singleton.1 hf]
      exact fun hk => by cases hk
  rw [requeueOwed_enters (.inr hlength), hagain, joined_room (by omega)]
  exact queued_queued _ _ (unprime (startHeartbeat (lineReturned s)))

/-- Where no RELEASE is owed none is queued again (R138). -/
theorem requeueOwed_unowed {s : State} (h : s.sealUnit.owed = none) : requeueOwed s = s := by
  simp only [requeueOwed, h]

/-- Settles O44: with room the JOIN and the owed RELEASE enter the queue, and a full queue makes room for the JOIN. -/
theorem lineReturns : Obligations.LineReturns := by
  intro s hp
  refine ⟨exec_lineReturn_none, fun hoff hroom hrelease => ?_, fun hoff hfull howed => ⟨_, exec_lineReturn hp hoff, ?_⟩⟩
  · rw [exec_lineReturn hp hoff, requeueOwed_joined hroom hrelease, List.append_assoc]
    cases s.sealUnit.owed <;> rfl
  · have hlength : (lineReturned s).line.queue.length = Config.queueCapacity := (List.length_map _).trans hfull
    obtain ⟨hraised, hroom, hmem⟩ := makeRoom_twice hlength
    have hkeeps := (makeRoom_keeps (lineReturned s)).trans (makeRoom_keeps (makeRoom (lineReturned s)))
    have hfe : (makeRoom (makeRoom (lineReturned s))).fe = s.fe := by rw [hkeeps.blocks]; rfl
    have hnone : (joined s).sealUnit.owed = none :=
      ((makeRoom_owed (makeRoom (lineReturned s))).trans (makeRoom_owed (lineReturned s))).trans howed
    rw [requeueOwed_unowed hnone]
    refine ⟨hkeeps.state, ?_, hraised, ?_, fun f hf => ?_⟩
    · simp only [joined, unprime_line, startHeartbeat_line, queueJoin, List.length_append, List.length_singleton]
      exact hroom
    · simp only [joined, unprime_line, startHeartbeat_line, queueJoin, List.getLast?_append, hfe]
      rfl
    · have hkept := hmem f (by simpa [joined, queueJoin] using hf)
      rwa [lineReturned, ← List.map_dropLast] at hkept

end Sys2Proof.Machine
end

section
/-! SUPPORT. The seal log, the press list and PRESS-DRIVE: sealing alone moves them, and the batch state leaves PRESSING
only where the press is released (R131, R133, R139 to R144). -/

namespace Sys2Proof.Machine

/-- What O58 says of a step, as a relation of two states, so that the operations of a step compose. -/
structure KeepsSeal (s t : State) : Prop where
  log : SealLogBound s → SealLogBound t
  claims : OneClaimEach s → OneClaimEach t
  drive : DriveOnlyPressing s → DriveOnlyPressing t

/-- The seal unit and the batch state. -/
def sealView (s : State) : SealUnit × BatchState := (s.sealUnit, s.meter.batch)

namespace KeepsSeal

theorem refl (s : State) : KeepsSeal s s := ⟨id, id, id⟩

theorem trans {s t u : State} (h : KeepsSeal s t) (k : KeepsSeal t u) : KeepsSeal s u :=
  ⟨k.log ∘ h.log, k.claims ∘ h.claims, k.drive ∘ h.drive⟩

/-- An operation that leaves log, press list and PRESS-DRIVE, and PRESSING where it stands. -/
theorem of_unit {s t : State} (hlog : t.sealUnit.log = s.sealUnit.log)
    (hlist : t.sealUnit.pressList = s.sealUnit.pressList) (hdrive : t.sealUnit.pressDrive = s.sealUnit.pressDrive)
    (hb : s.meter.batch = .pressing → t.meter.batch = .pressing) : KeepsSeal s t where
  log h := by rwa [SealLogBound, hlog]
  claims h := by rwa [OneClaimEach, hlist]
  drive h hd := hb (h (hdrive ▸ hd))

/-- An operation that leaves the seal unit and the batch state. -/
theorem of_same {s t : State} (h : sealView t = sealView s) : KeepsSeal s t := by
  obtain ⟨hunit, hb⟩ := Prod.mk.inj h
  exact of_unit (congrArg _ hunit) (congrArg _ hunit) (congrArg _ hunit) hb.trans

/-- An operation that moves the batch state outside PRESSING, and leaves the seal unit. -/
theorem of_batch {s t : State} (h : t.sealUnit = s.sealUnit) (hb : s.meter.batch ≠ .pressing) : KeepsSeal s t :=
  of_unit (congrArg _ h) (congrArg _ h) (congrArg _ h) fun hp => absurd hp hb

end KeepsSeal

theorem whenRunning_keepsSeal {f : State → State} {s : State} (h : KeepsSeal s (f s)) :
    KeepsSeal s (whenRunning f s) := by
  unfold whenRunning
  split
  · exact h
  · exact .refl s

theorem whenDue_keepsSeal {timer : State → Option Stamp} {f : State → State} {s : State} (h : KeepsSeal s (f s)) :
    KeepsSeal s (whenDue timer f s) := by
  refine whenRunning_keepsSeal ?_
  split
  · exact h
  · exact .refl s

/-! ### Queuing -/

theorem raiseTxDropped_keepsSeal (s : State) : KeepsSeal s (raiseTxDropped s) :=
  .of_same (by simp only [sealView, raiseTxDropped_sealUnit, raiseTxDropped_meter])

theorem abandonDropped_keepsSeal {s : State} (h : s.meter.batch = .claiming) : KeepsSeal s (abandonDropped s) := by
  rw [abandonDropped, evaluateRecord_eq]
  exact .of_unit rfl rfl rfl fun hp => absurd (h.symm.trans hp) (by decide)

/-- The owner of a lost frame moves the batch state from CLAIMING alone (R135). -/
theorem tellOwner_keepsSeal (m : TxMsg) (s : State) : KeepsSeal s (tellOwner m s) := by
  unfold tellOwner
  split
  · split
    · next h => exact abandonDropped_keepsSeal (of_decide_eq_true (Bool.and_eq_true_iff.1 h).1)
    · exact .refl s
  · split <;> exact .of_same (by rfl)
  · exact .refl s

theorem frameLost_keepsSeal (m : TxMsg) (s : State) : KeepsSeal s (frameLost m s) :=
  (raiseTxDropped_keepsSeal s).trans (tellOwner_keepsSeal m _)

theorem enqueue_keepsSeal (m : TxMsg) (s : State) : KeepsSeal s (enqueue m s) := by
  rcases enqueue_cases m s with heq | ⟨lost, -, heq⟩ <;> rw [heq]
  · exact .of_same (by rfl)
  · exact KeepsSeal.trans (.of_same (by rfl)) (frameLost_keepsSeal _ _)

theorem raiseNotice_keepsSeal (n : Notice) (s : State) : KeepsSeal s (raiseNotice n s) := by
  obtain ⟨hmeter, hunit⟩ := raiseNotice_leaves n s
  exact .of_same (by simp only [sealView, hmeter, hunit])

theorem makeRoom_keepsSeal (s : State) : KeepsSeal s (makeRoom s) := by
  unfold makeRoom
  split
  · split
    · exact .refl s
    · exact KeepsSeal.trans (.of_same (by rfl)) (frameLost_keepsSeal _ _)
  · exact .refl s

theorem queueJoin_keepsSeal (c : JoinCause) (s : State) : KeepsSeal s (queueJoin c s) :=
  ((makeRoom_keepsSeal s).trans (makeRoom_keepsSeal _)).trans (.of_same (by rfl))

theorem releaseWaiting_keepsSeal (s : State) : KeepsSeal s (releaseWaiting s) := by
  have hnotice : KeepsSeal s (noticeEntered s) := by
    unfold noticeEntered
    split
    · exact KeepsSeal.trans (.of_same (by rfl)) (enqueue_keepsSeal _ _)
    · exact .of_same (by rfl)
  rw [releaseWaiting_eq]
  split
  · exact hnotice.trans (enqueue_keepsSeal _ _)
  · exact hnotice

theorem requeueOwed_keepsSeal (s : State) : KeepsSeal s (requeueOwed s) := by
  rcases requeueOwed_cases s with heq | ⟨n, r, heq⟩ <;> rw [heq]
  · exact .refl s
  · exact enqueue_keepsSeal _ s

/-! ### Evaluation -/

/-- An evaluation moves the batch state in RUNNING, REJECTED and AWAIT_SEAL alone (Table 6.3). -/
theorem evaluateRecord_keepsSeal (s : State) : KeepsSeal s (evaluateRecord s) := by
  unfold evaluateRecord
  split
  · next h => exact .of_batch rfl fun hp => by simp [hp, evaluates] at h
  · exact .refl s

theorem sealCheck_keepsSeal {number : Text} {s : State} (h : s.meter.batch = .awaitSeal) :
    KeepsSeal s (sealCheck number s) := by
  by_cases htaken : sealTaken number s = true
  · rw [sealCheck, if_pos htaken]
    exact (raiseNotice_keepsSeal .sealReused s).trans (.of_same (by rfl))
  · rw [sealCheck_free htaken]
    have hclaimed : KeepsSeal s (numberClaimed number s) :=
      .of_unit rfl rfl rfl fun hp => absurd (h.symm.trans hp) (by decide)
    exact hclaimed.trans (enqueue_keepsSeal _ _)

theorem checkHeld_keepsSeal (s : State) : KeepsSeal s (checkHeld s) := by
  unfold checkHeld
  split
  · split
    · next hb => exact sealCheck_keepsSeal hb
    · exact .refl s
  · exact .refl s

theorem evaluate_keepsSeal (s : State) : KeepsSeal s (evaluate s) := by
  unfold evaluate
  dsimp only
  split
  · exact (evaluateRecord_keepsSeal s).trans (checkHeld_keepsSeal _)
  · exact evaluateRecord_keepsSeal s

theorem returnToAwaitSeal_keepsSeal {s : State} (h : s.meter.batch ≠ .pressing) :
    KeepsSeal s (returnToAwaitSeal s) := by
  have hevaluated : KeepsSeal s (evaluatedAwaiting s) := .of_batch rfl h
  rw [returnToAwaitSeal_eq]
  exact hevaluated.trans (checkHeld_keepsSeal _)

/-! ### The press list -/

/-- The stations of the press list, one for each claim. -/
def claimants (claims : List Claim) : List Nat := claims.map Claim.station

/-- A press list replaced by one that is as good. -/
theorem withClaims_keepsSeal {claims : List Claim} {s : State}
    (h : (claimants s.sealUnit.pressList).Nodup → (claimants claims).Nodup) : KeepsSeal s (withClaims claims s) :=
  ⟨id, h, id⟩

theorem claimants_filter (p : Claim → Bool) (claims : List Claim) :
    (claimants (claims.filter p)).Sublist (claimants claims) := List.filter_sublist.map _

/-- A claim put at the end in place of the station's others is its only one (R133, R135). -/
theorem claimants_entered {c : Claim} {claims : List Claim} (h : (claimants claims).Nodup) :
    (claimants (withoutStation c.station claims ++ [c])).Nodup := by
  rw [claimants, List.map_append]
  refine List.nodup_append.2 ⟨(claimants_filter _ claims).nodup h, List.nodup_singleton _, fun a ha b hb hab => ?_⟩
  obtain ⟨x, hx, rfl⟩ := List.mem_map.1 ha
  exact mem_withoutStation hx (hab.trans (List.mem_singleton.1 hb))

/-- A peer's CLAIM leaves one claim for each station (R133). -/
theorem claimants_enterClaim {c : Claim} {claims : List Claim} (h : (claimants claims).Nodup) :
    (claimants (enterClaim c claims)).Nodup := by
  unfold enterClaim
  split
  · have hsame : claimants (claims.map fun x => if x.station = c.station ∧ x.number = c.number then
        { x with sealNo := c.sealNo } else x) = claimants claims := by
      rw [claimants, List.map_map]
      refine List.map_congr_left fun x _ => ?_
      simp only [Function.comp]
      split <;> rfl
    rwa [hsame]
  · exact claimants_entered h

/-! ### The seal log -/

/-- A number enters a log of 128 different ones as another different one (R143). -/
theorem enterLog_bound {number : Text} {log : List Text} (hl : log.length ≤ Config.sealLogCapacity) (hd : log.Nodup) :
    (enterLog number log).length ≤ Config.sealLogCapacity ∧ (enterLog number log).Nodup := by
  rw [enterLog_eq]
  split
  · exact ⟨hl, hd⟩
  · next hnew =>
    simp only [Config.sealLogCapacity] at hl ⊢
    refine ⟨?_, List.nodup_append.2 ⟨(List.drop_sublist _ log).nodup hd, List.nodup_singleton number, ?_⟩⟩
    · rw [List.length_append, List.length_drop, List.length_singleton]
      omega
    · rintro a ha b hb rfl
      exact hnew (List.mem_singleton.1 hb ▸ List.mem_of_mem_drop ha)

/-! ### Claims, grants and strokes -/

theorem abandonReused_keepsSeal {c : OwnClaim} {s : State} (h : s.meter.batch = .claiming) :
    KeepsSeal s (abandonReused c s) := by
  have hunit := (abandonReused_leaves c s).1
  exact .of_unit (by rw [hunit]) (by rw [hunit]) (by rw [hunit]) fun hp => absurd (h.symm.trans hp) (by decide)

/-- A grant activates PRESS-DRIVE with PRESSING, or refuses the claim (R139). -/
theorem grant_keepsSeal {c : OwnClaim} {s : State} (h : s.meter.batch = .claiming) : KeepsSeal s (grant c s) := by
  cases hlevel : s.pins.strokeDone with
  | false =>
    rw [grant_begins hlevel]
    exact ⟨id, id, fun _ _ => rfl⟩
  | true =>
    obtain ⟨-, hunit, -⟩ := grant_refused (c := c) hlevel
    exact .of_unit (by rw [hunit]) (by rw [hunit]) (by rw [hunit]) fun hp => absurd (h.symm.trans hp) (by decide)

theorem grantTest_keepsSeal (s : State) : KeepsSeal s (grantTest s) := by
  unfold grantTest
  split
  · next hb _ =>
    split
    · exact grant_keepsSeal hb
    · exact .refl s
  · exact .refl s

theorem examineAndGrant_keepsSeal (s : State) : KeepsSeal s (examineAndGrant s) := by
  unfold examineAndGrant
  split
  · next hb _ =>
    split
    · split
      · exact abandonReused_keepsSeal hb
      · exact grantTest_keepsSeal s
    · exact .refl s
  · exact .refl s

/-- The own sent claim leaves the press list with the line (R137). -/
theorem abandonOffLine_keepsSeal (s : State) : KeepsSeal s (abandonOffLine s) := by
  rcases abandonOffLine_cases s with ⟨heq, -⟩ | ⟨c, hb, -, heq⟩ <;> rw [heq]
  · exact .refl s
  · have hlist : (claimants s.sealUnit.pressList).Nodup →
        (claimants (claimAbandoned c s).sealUnit.pressList).Nodup := by
      unfold claimAbandoned
      dsimp only
      split
      · exact (claimants_filter _ _).nodup
      · exact id
    have habandoned : KeepsSeal s (claimAbandoned c s) := ⟨id, hlist, id⟩
    have hevaluated : KeepsSeal (claimAbandoned c s) (evaluatedAwaiting (claimAbandoned c s)) :=
      .of_batch rfl fun hp => absurd (hb.symm.trans hp) (by decide)
    exact (habandoned.trans hevaluated).trans (checkHeld_keepsSeal _)

theorem takeClaim_keepsSeal (k n : Nat) (number : Text) (s : State) : KeepsSeal s (takeClaim k n number s) := by
  unfold takeClaim
  split
  · exact .refl s
  · exact (withClaims_keepsSeal claimants_enterClaim).trans (examineAndGrant_keepsSeal _)

theorem takeRelease_keepsSeal (k n : Nat) (s : State) : KeepsSeal s (takeRelease k n s) := by
  unfold takeRelease
  split
  · exact (withClaims_keepsSeal (claimants_filter _ _).nodup).trans (grantTest_keepsSeal _)
  · exact .refl s

theorem removeClaims_keepsSeal (ks : List Nat) (s : State) : KeepsSeal s (removeClaims ks s) := by
  unfold removeClaims
  split
  · exact (withClaims_keepsSeal (claimants_filter _ _).nodup).trans (grantTest_keepsSeal _)
  · exact .refl s

theorem takeSealed_keepsSeal (number : Text) (s : State) : KeepsSeal s (takeSealed number s) := by
  have hlogged : KeepsSeal s
      { s with sealUnit := { s.sealUnit with log := enterLog number s.sealUnit.log } } :=
    ⟨fun h => enterLog_bound h.1 h.2, id, id⟩
  unfold takeSealed
  split
  · dsimp only
    split
    · split
      · split
        · next hb => exact hlogged.trans (abandonReused_keepsSeal hb)
        · exact hlogged.trans (raiseNotice_keepsSeal _ _)
        · exact hlogged
      · exact hlogged
    · exact hlogged
  · exact .refl s

theorem ownClaimSent_keepsSeal (n : Nat) (s : State) : KeepsSeal s (ownClaimSent n s) := by
  unfold ownClaimSent
  split
  · next c _ _ =>
    split
    · have hentered : KeepsSeal s { s with sealUnit := { s.sealUnit with
          pressList := withoutStation s.line.own s.sealUnit.pressList ++ [⟨s.line.own, c.number, c.sealNo⟩]
          current := some { c with sent := true }
          owed := s.sealUnit.owed.filter fun o => o.number == n } } :=
        ⟨id, claimants_entered (c := ⟨s.line.own, c.number, c.sealNo⟩), id⟩
      exact hentered.trans (examineAndGrant_keepsSeal _)
    · exact .refl s
  · exact .refl s

theorem ownReleaseSent_keepsSeal (n : Nat) (s : State) : KeepsSeal s (ownReleaseSent n s) :=
  ⟨id, (claimants_filter _ _).nodup, id⟩

/-- A completed stroke releases the press, and its number enters the log (R140, R143). -/
theorem completeStroke_keepsSeal {c : OwnClaim} {s : State} (h : s.meter.batch = .pressing) :
    KeepsSeal s (completeStroke c s) := by
  obtain ⟨-, hunit⟩ := strokeReported_of_not_claiming (c := c) (s := s) (by simp [h])
  rw [completeStroke_eq, hunit]
  exact ⟨fun hlog => enterLog_bound hlog.1 hlog.2, id, fun _ hd => absurd hd Bool.false_ne_true⟩

/-- A failed stroke releases the press, and leaves RELEASE owed (R141). -/
theorem failStroke_leaves (c : OwnClaim) (s : State) :
    (failStroke c s).meter = { s.meter with batch := .sealFault } ∧
    (failStroke c s).sealUnit = { s.sealUnit with
      pressDrive := false, strokeTimer := none, current := none, owed := some ⟨c.number, .fault⟩ } := by
  obtain ⟨hmeter, hunit⟩ := raiseNotice_leaves .pressFault (releasePress s)
  obtain ⟨hmeter', hunit'⟩ := queueRelease_leaves c.number .fault (raiseNotice .pressFault (releasePress s))
  unfold failStroke
  dsimp only
  rw [hmeter', hmeter, hunit', hunit]
  exact ⟨rfl, rfl⟩

theorem failStroke_keepsSeal (c : OwnClaim) (s : State) : KeepsSeal s (failStroke c s) := by
  have hunit := (failStroke_leaves c s).2
  refine ⟨fun h => ?_, fun h => ?_, fun _ hd => ?_⟩
  · rwa [SealLogBound, hunit]
  · rwa [OneClaimEach, hunit]
  · rw [hunit] at hd
    exact absurd hd Bool.false_ne_true

theorem deliverSeal_keepsSeal (number : Text) (s : State) : KeepsSeal s (deliverSeal number s) := by
  unfold deliverSeal
  split
  · exact .refl s
  · exact .refl s
  · next hb => exact KeepsSeal.trans (.of_same (by rfl)) (sealCheck_keepsSeal (by exact hb))
  all_goals exact .of_same (by rfl)

theorem takeSealChar_keepsSeal (code : Byte) (framingError : Bool) (s : State) :
    KeepsSeal s (takeSealChar code framingError s) := by
  have hempty : KeepsSeal s (emptySealLine s) := .of_same (by rfl)
  unfold takeSealChar endSealLine
  split
  · dsimp only
    split
    · exact hempty.trans (deliverSeal_keepsSeal _ _)
    · exact hempty.trans (raiseNotice_keepsSeal _ _)
  · exact .of_same (by rfl)

/-! ### Point runs -/

theorem queueProgress_keepsSeal (p r : Nat) (v : Progress) (s : State) : KeepsSeal s (queueProgress p r v s) :=
  enqueue_keepsSeal _ s

theorem reportProgress_keepsSeal (x : Run) (v : Progress) (s : State) : KeepsSeal s (reportProgress x v s) :=
  KeepsSeal.trans (.of_same (by rfl)) (queueProgress_keepsSeal _ _ _ _)

theorem closeRun_keepsSeal (c : CloseCause) (s : State) : KeepsSeal s (closeRun c s) := by
  cases hx : s.run.run with
  | none =>
    rw [closeRun_none hx]
    exact .refl s
  | some x =>
    have hwritten : KeepsSeal s (writeRecord (closeRecord c s.pins.present s.trk.count x) (runRemoved x s)) := by
      rw [runRemoved_eq]
      exact .of_same (by rfl)
    rw [closeRun_eq hx]
    refine KeepsSeal.trans ?_ (evaluate_keepsSeal _)
    unfold closeAnnounced
    dsimp only
    split
    · exact (hwritten.trans (enqueue_keepsSeal _ _)).trans (enqueue_keepsSeal _ _)
    · exact hwritten.trans (enqueue_keepsSeal _ _)

theorem completionTest_keepsSeal (s : State) : KeepsSeal s (completionTest s) := by
  unfold completionTest
  split
  · split
    · exact closeRun_keepsSeal _ s
    · exact .refl s
  · exact .refl s

theorem settlementTest_keepsSeal (s : State) : KeepsSeal s (settlementTest s) := by
  unfold settlementTest
  split
  · exact .refl s
  · split
    · exact (reportProgress_keepsSeal _ _ s).trans (completionTest_keepsSeal _)
    · exact reportProgress_keepsSeal _ _ s
    · exact .refl s

/-- A result that is kept is offered as a MEASUREMENT under streaming, and settlement follows (R60, R62, R63). -/
theorem keepAndSettle_keepsSeal (x : Run) (e : KeptEntry) (s : State) : KeepsSeal s
    (settlementTest (if s.cmd.setup.streaming then offerMeasurement x e s else setRun x s)) := by
  refine KeepsSeal.trans ?_ (settlementTest_keepsSeal _)
  unfold offerMeasurement
  split
  · split
    · exact .of_same (by rfl)
    · exact KeepsSeal.trans (.of_same (by rfl)) (enqueue_keepsSeal _ _)
  · exact .of_same (by rfl)

theorem takeResult_keepsSeal (q : GateResult) (s : State) : KeepsSeal s (takeResult q s) := by
  unfold takeResult
  split
  · exact .refl s
  · split
    · split
      · exact .of_same (by rfl)
      · exact keepAndSettle_keepsSeal _ _ s
      · exact keepAndSettle_keepsSeal _ _ s
      all_goals exact .refl s
    · exact .refl s

theorem evaluateGate_keepsSeal (s : State) : KeepsSeal s (evaluateGate s) := by
  unfold evaluateGate
  split
  · exact KeepsSeal.trans (.of_same (by rfl)) (takeResult_keepsSeal _ _)
  · exact .refl s

theorem takeMarker_keepsSeal (m : Marker) (void : Bool) (s : State) : KeepsSeal s (takeMarker m void s) := by
  unfold takeMarker
  split
  · exact .refl s
  · exact .of_same (by rfl)
  · split
    · exact .of_same (by rfl)
    · split
      · exact .refl s
      · dsimp only
        split
        · exact .of_same (by rfl)
        · split
          · exact .of_same (by rfl)
          · exact KeepsSeal.trans (.of_same (by rfl)) (evaluateGate_keepsSeal _)

theorem countPulse_keepsSeal (t : Stamp) (s : State) : KeepsSeal s (countPulse t s) := by
  unfold countPulse
  split
  · exact .refl s
  · split
    · dsimp only
      split
      · exact (KeepsSeal.trans (.of_same (by rfl)) (reportProgress_keepsSeal _ _ (restoreGrace s))).trans
          (completionTest_keepsSeal _)
      · exact .of_same (by rfl)
    · exact .refl s

/-- A run opens from a batch state other than PRESSING (R56, R57). -/
theorem openRun_keepsSeal {p r : Nat} {e : PlanEntry} {s : State} (h : s.meter.batch ≠ .pressing) :
    KeepsSeal s (openRun p r e s) := by
  have hbegin : KeepsSeal s (beginRun p r e s) := by
    rw [beginRun_eq]
    exact .of_batch rfl h
  have hannounce (t : State) : KeepsSeal t (announceRun e t) := by
    unfold announceRun
    split
    · exact .refl t
    · dsimp only
      split
      · exact (reportProgress_keepsSeal _ _ t).trans (reportProgress_keepsSeal _ _ _)
      · exact reportProgress_keepsSeal _ _ t
  unfold openRun
  split
  · exact hbegin.trans (hannounce _)
  · exact hbegin.trans (closeRun_keepsSeal _ _)

theorem openOrDecline_keepsSeal (p r : Nat) (s : State) : KeepsSeal s (openOrDecline p r s) := by
  have hdecline : KeepsSeal s (declineRun p r s) :=
    KeepsSeal.trans (.of_same (by rfl)) (queueProgress_keepsSeal _ _ _ _)
  by_cases hb : s.meter.batch = .pressing
  · simp only [openOrDecline, hb]
    split
    · exact hdecline
    · exact .refl s
  · rcases openOrDecline_cases p r s with heq | heq | ⟨e, heq⟩ <;> rw [heq]
    · exact .refl s
    · exact hdecline
    · exact openRun_keepsSeal hb

theorem restateStanding_keepsSeal (p r : Nat) (s : State) : KeepsSeal s (restateStanding p r s) := by
  unfold restateStanding
  split
  · exact .refl s
  · split
    · exact queueProgress_keepsSeal _ _ _ s
    · exact .refl s
  · split
    · exact .refl s
    · split
      · exact enqueue_keepsSeal _ s
      · exact .refl s
  · exact queueProgress_keepsSeal _ _ _ s

/-! ### Pulse inputs -/

theorem refEdge_keepsSeal (s : State) : KeepsSeal s (refEdge s) := by
  unfold refEdge
  split
  · exact .of_same (by rfl)
  · exact KeepsSeal.trans (.of_same (by rfl)) (raiseNotice_keepsSeal _ _)

theorem qualify_keepsSeal (x : PendingEdge) (s : State) : KeepsSeal s (qualify x s) := by
  rw [qualify_eq_takeMarker]
  exact (KeepsSeal.trans (.of_same (by rfl)) (takeMarker_keepsSeal _ _ (markerFormed x s))).trans
    (countPulse_keepsSeal _ _)

theorem mutRise_keepsSeal (s : State) : KeepsSeal s (mutRise s) := by
  unfold mutRise
  split
  · split
    · exact qualify_keepsSeal _ s
    · exact .of_same (by rfl)
  · exact .refl s

theorem mutFall_keepsSeal (s : State) : KeepsSeal s (mutFall s) := by
  unfold mutFall
  split
  · split
    · exact .of_same (by rfl)
    · exact qualify_keepsSeal _ s
  · exact .refl s

theorem widthExpiry_keepsSeal (s : State) : KeepsSeal s (widthExpiry s) := by
  unfold widthExpiry
  split
  · split
    · exact qualify_keepsSeal _ s
    · exact .refl s
  · exact .refl s

theorem graceExpires_keepsSeal (s : State) : KeepsSeal s (graceExpires s) :=
  KeepsSeal.trans (.of_same (by rfl)) (closeRun_keepsSeal _ _)

theorem presentFalls_keepsSeal (s : State) : KeepsSeal s (presentFalls s) := by
  have hscanner (t : State) : KeepsSeal t (scannerLoss t) := by
    unfold scannerLoss
    split <;> exact .of_same (by rfl)
  have hloss (fe : FrontEnd) : KeepsSeal s (scannerLoss (raiseNotice .scannerAbsent { s with fe := fe })) :=
    (KeepsSeal.trans (.of_same (by rfl)) (raiseNotice_keepsSeal _ _)).trans (hscanner _)
  unfold presentFalls
  dsimp only
  split
  · exact (hloss _).trans (graceExpires_keepsSeal _)
  · exact hloss _

/-! ### The plan and the cross-check -/

theorem copyEntries_keepsSeal (ps : List Nat) (s : State) : KeepsSeal s (copyEntries ps s) := by
  unfold copyEntries
  dsimp only
  split
  · exact .of_same (by rfl)
  · exact KeepsSeal.trans (.of_same (by rfl)) (evaluate_keepsSeal _)

theorem makeReady_keepsSeal (ps : List Nat) (s : State) : KeepsSeal s (makeReady ps s) := by
  unfold makeReady
  split
  · exact copyEntries_keepsSeal ps s
  · exact .of_same (by rfl)

theorem markChanged_keepsSeal (ps : List Nat) (s : State) : KeepsSeal s (markChanged ps s) := by
  unfold markChanged
  split
  · exact .of_same (by rfl)
  · exact makeReady_keepsSeal ps s

theorem stageEntry_keepsSeal (p : Nat) (e : PlanEntry) (s : State) : KeepsSeal s (stageEntry p e s) := by
  unfold stageEntry
  split
  · exact .refl s
  · exact KeepsSeal.trans (.of_same (by rfl)) (markChanged_keepsSeal _ _)

theorem loadSettled_keepsSeal (p r : Nat) (s : State) : KeepsSeal s (loadSettled p r s) :=
  (((closeRun_keepsSeal .forced s).trans (copyEntries_keepsSeal _ _)).trans (.of_same (by rfl))).trans
    (openOrDecline_keepsSeal p r _)

theorem loadChanging_keepsSeal (s : State) : KeepsSeal s (loadChanging s) :=
  (closeRun_keepsSeal .forced s).trans (.of_same (by rfl))

theorem loadOff_keepsSeal (s : State) : KeepsSeal s (loadOff s) :=
  ((closeRun_keepsSeal .forced s).trans (copyEntries_keepsSeal _ _)).trans (.of_same (by rfl))

/-- A judgment raises a notice at most (R126). -/
theorem judge_keepsSeal (s : State) : KeepsSeal s (judge s) := by
  have hsuspect (b : Bool) (t : State) : KeepsSeal t (setSuspect b t) := by
    unfold setSuspect
    dsimp only
    split
    · exact KeepsSeal.trans (.of_same (by rfl)) (raiseNotice_keepsSeal _ _)
    · split <;> exact .of_same (by rfl)
  unfold judge
  split
  · split
    · exact .refl s
    · exact KeepsSeal.trans (.of_same (by rfl)) (hsuspect _ _)
  · exact .refl s

theorem earlyJudgment_keepsSeal (s : State) : KeepsSeal s (earlyJudgment s) := by
  unfold earlyJudgment
  split
  · split
    · exact judge_keepsSeal s
    · exact .refl s
  · exact .refl s

theorem formTally_keepsSeal (n : BitVec 16) (l : Latch) (s : State) : KeepsSeal s (formTally n l s) :=
  (KeepsSeal.trans (.of_same (by rfl)) (enqueue_keepsSeal _ _)).trans (earlyJudgment_keepsSeal _)

theorem takeSync_keepsSeal (n : BitVec 16) (s : State) : KeepsSeal s (takeSync n s) := by
  unfold takeSync
  split
  · exact .of_same (by rfl)
  · split
    · exact .refl s
    · split
      · exact (judge_keepsSeal s).trans (formTally_keepsSeal _ _ _)
      · exact (judge_keepsSeal s).trans (.of_same (by rfl))

theorem takeTally_keepsSeal (k : Nat) (w : BitVec 16) (n : Nat) (s : State) : KeepsSeal s (takeTally k w n s) := by
  unfold takeTally
  split
  · split
    · exact .refl s
    · exact KeepsSeal.trans (.of_same (by rfl)) (earlyJudgment_keepsSeal _)
  · exact .refl s

/-! ### Console commands -/

section Commands

variable (bs : List Byte) (s : State)

theorem setupCommand_keepsSeal : KeepsSeal s (setupCommand bs s).1 := by
  unfold setupCommand
  split
  · exact .refl s
  · split <;> exact .of_same (by rfl)

/-- SET_METER moves the batch state from IDLE or LOADED alone (R90). -/
theorem setMeterCommand_keepsSeal : KeepsSeal s (setMeterCommand bs s).1 := by
  unfold setMeterCommand
  split
  · exact .refl s
  · split
    · exact .refl s
    · split
      · next hb => exact .of_batch rfl fun hp => by simp [hp] at hb
      · exact .refl s

theorem planPointCommand_keepsSeal : KeepsSeal s (planPointCommand bs s).1 := by
  unfold planPointCommand
  split
  · exact .refl s
  · split
    · exact .refl s
    · split
      · exact .refl s
      · exact stageEntry_keepsSeal _ _ s

theorem planLimitsCommand_keepsSeal : KeepsSeal s (planLimitsCommand bs s).1 := by
  unfold planLimitsCommand
  split
  · exact .refl s
  · split
    · exact .refl s
    · split
      · exact .refl s
      · split
        · exact .refl s
        · split
          · exact .refl s
          · exact stageEntry_keepsSeal _ _ s

theorem planClearCommand_keepsSeal : KeepsSeal s (planClearCommand bs s).1 := by
  unfold planClearCommand
  split
  · exact .refl s
  · split
    · split
      · exact .refl s
      · dsimp only
        split
        · exact .refl s
        · exact KeepsSeal.trans (.of_same (by rfl)) (markChanged_keepsSeal _ _)
    · exact .refl s

theorem planHoldCommand_keepsSeal : KeepsSeal s (planHoldCommand bs s).1 := by
  unfold planHoldCommand
  split <;> exact .of_same (by rfl)

theorem planReleaseCommand_keepsSeal : KeepsSeal s (planReleaseCommand bs s).1 := by
  unfold planReleaseCommand
  split
  · split
    · dsimp only
      split
      · exact .of_same (by rfl)
      · exact KeepsSeal.trans (.of_same (by rfl)) (makeReady_keepsSeal _ _)
    · exact .refl s
  · exact .refl s

theorem takeAfter_keepsSeal (p value : Nat) : KeepsSeal s (takeAfter p value s).1 := by
  unfold takeAfter
  split
  · exact .refl s
  · split
    · exact .refl s
    · exact ((KeepsSeal.trans (.of_same (by rfl)) (enqueue_keepsSeal _ _)).trans
        (restateStanding_keepsSeal _ _ _)).trans (evaluate_keepsSeal _)

theorem readingCommand_keepsSeal : KeepsSeal s (readingCommand bs s).1 := by
  unfold readingCommand
  split
  · exact .refl s
  · split
    · exact .refl s
    · split
      · exact .refl s
      · split
        · exact .refl s
        · split
          · exact takeAfter_keepsSeal s _ _
          · unfold takeBefore
            split <;> exact .of_same (by rfl)

/-- The batch ends from a state other than PRESSING, and leaves log, press list and PRESS-DRIVE (R98). -/
theorem endBatchCommand_keepsSeal : KeepsSeal s (endBatchCommand bs s).1 := by
  have hdiscarded : KeepsSeal s (clearBatch (batchDiscarded s)) ∨ s.meter.batch = .pressing := by
    refine (em (s.meter.batch = .pressing)).symm.imp_left fun hb => ?_
    have hclaim : (withdrawClaim s).sealUnit.pressDrive = s.sealUnit.pressDrive := by
      rcases withdrawClaim_cases s with ⟨heq, -⟩ | ⟨c, -, heq⟩ <;> rw [heq]
    have hdrive : (batchDiscarded s).sealUnit.pressDrive = s.sealUnit.pressDrive := by
      unfold batchDiscarded
      rcases (discardRun_leaves (withdrawClaim s)).2.1 with hunit | hunit <;> rw [hunit] <;> exact hclaim
    obtain ⟨hlog, hlist⟩ := (batchDiscarded_leaves s).sealUnit
    exact .of_unit hlog hlist hdrive fun hp => absurd hp hb
  unfold endBatchCommand
  split
  · exact .refl s
  · split
    · exact .refl s
    · next hb => exact hdiscarded.resolve_right hb

theorem retrySealCommand_keepsSeal : KeepsSeal s (retrySealCommand bs s).1 := by
  unfold retrySealCommand
  split
  · exact .refl s
  · split
    · next hb => exact returnToAwaitSeal_keepsSeal fun hp => absurd (hb.symm.trans hp) (by decide)
    · exact .refl s

theorem clearNoticesCommand_keepsSeal : KeepsSeal s (clearNoticesCommand bs s).1 := by
  unfold clearNoticesCommand
  split <;> exact .of_same (by rfl)

theorem noticeMaskCommand_keepsSeal : KeepsSeal s (noticeMaskCommand bs s).1 := by
  unfold noticeMaskCommand
  split <;> exact .of_same (by rfl)

theorem reply_keepsSeal (k : FrameKind) (code : ReplyCode) : KeepsSeal s (reply k code s) := enqueue_keepsSeal _ s

/-- The answer of a command adds a queuing to the command (R163). -/
theorem command_keepsSeal {k : FrameKind} {dest : Nat} {f : State → State × ReplyCode} {s : State}
    (h : KeepsSeal s (f s).1) : KeepsSeal s (command k dest f s) := by
  unfold command groupAnswer
  split
  · exact h.trans (reply_keepsSeal _ _ _)
  · split
    · exact h.trans (raiseNotice_keepsSeal _ _)
    · exact h
  · exact .refl s

theorem takeQuery_keepsSeal (dest : Nat) : KeepsSeal s (takeQuery dest bs s) := by
  unfold takeQuery
  split
  · split
    · have hended : KeepsSeal s (endSeries s) := .of_same (by rfl)
      dsimp only
      split
      · exact (hended.trans (.of_same (by rfl))).trans (enqueue_keepsSeal _ _)
      · exact hended.trans (reply_keepsSeal _ _ _)
    · exact reply_keepsSeal s _ _
  all_goals exact .refl s

end Commands

/-- A reset that takes hold releases the press (R131). -/
theorem holdReset_keepsSeal (p : Phase) (s : State) : KeepsSeal s (holdReset p s) :=
  ⟨id, id, fun _ hd => absurd hd Bool.false_ne_true⟩

theorem takeRestart_keepsSeal (dest : Nat) (bs : List Byte) (s : State) : KeepsSeal s (takeRestart dest bs s) := by
  unfold takeRestart
  split
  · split
    · exact holdReset_keepsSeal _ s
    · exact reply_keepsSeal s _ _
  all_goals exact .refl s

/-! ### The bench line -/

theorem emptyQueue_keepsSeal (st : LineState) (s : State) : KeepsSeal s (emptyQueue st s) := by
  rcases emptyQueue_cases st s with ⟨heq, -⟩ | heq <;> rw [heq]
  · exact .of_same (by rfl)
  · exact KeepsSeal.trans (.of_same (by rfl)) (raiseTxDropped_keepsSeal _)

theorem enterLineOff_keepsSeal (s : State) : KeepsSeal s (enterLineOff s) :=
  (KeepsSeal.trans (.of_same (by rfl)) (emptyQueue_keepsSeal _ _)).trans (abandonOffLine_keepsSeal _)

theorem enterMuted_keepsSeal (s : State) : KeepsSeal s (enterMuted s) := by
  unfold enterMuted
  split
  · exact .refl s
  · exact ((KeepsSeal.trans (.of_same (by rfl)) (emptyQueue_keepsSeal _ _)).trans (raiseNotice_keepsSeal _ _)).trans
      (abandonOffLine_keepsSeal _)

theorem returnOnLine_keepsSeal (s : State) : KeepsSeal s (returnOnLine s) :=
  ((KeepsSeal.trans (.of_same (by rfl)) (queueJoin_keepsSeal .lineReturn (lineReturned s))).trans
    (.of_same (by rfl))).trans (requeueOwed_keepsSeal (joined s))

theorem countGood_keepsSeal (s : State) : KeepsSeal s (countGood s) := by
  unfold countGood
  split
  · split
    · exact returnOnLine_keepsSeal s
    · exact .of_same (by rfl)
  · exact .refl s

theorem beginAttempt_keepsSeal (s : State) : KeepsSeal s (beginAttempt s) := by
  unfold beginAttempt
  split
  · split <;> exact .of_same (by rfl)
  · exact .refl s

theorem partSent_keepsSeal (s : State) : KeepsSeal s (partSent s) := by
  unfold partSent
  split
  · exact .refl s
  · split
    · split <;> exact KeepsSeal.trans (.of_same (by rfl)) (enqueue_keepsSeal _ _)
    · exact .of_same (by rfl)

theorem tellSent_keepsSeal (m : TxMsg) (s : State) : KeepsSeal s (tellSent m s) := by
  unfold tellSent
  split
  · exact ownClaimSent_keepsSeal _ s
  · exact ownReleaseSent_keepsSeal _ s
  · split
    · exact partSent_keepsSeal s
    · exact .refl s
  · exact .refl s

theorem succeed_keepsSeal (f : TxFrame) (s : State) : KeepsSeal s (succeed f s) := by
  rw [succeed_eq]
  exact ((KeepsSeal.trans (.of_same (by rfl)) (tellSent_keepsSeal f.msg (frameSent s))).trans
    (releaseWaiting_keepsSeal _)).trans (requeueOwed_keepsSeal _)

theorem fail_keepsSeal (f : TxFrame) (s : State) : KeepsSeal s (fail f s) := by
  have hoff (t : State) (h : KeepsSeal s t) : KeepsSeal s
      (if Config.lineOffTally ≤ t.line.faultTally && t.line.state = .onLine then enterLineOff t else t) := by
    split
    · exact h.trans (enterLineOff_keepsSeal t)
    · exact h
  unfold fail
  dsimp only
  refine hoff _ ?_
  split
  · exact (KeepsSeal.trans (.of_same (by rfl)) (releaseWaiting_keepsSeal _)).trans (frameLost_keepsSeal _ _)
  · exact KeepsSeal.trans (.of_same (by rfl)) (releaseWaiting_keepsSeal _)

/-! ### Accepted frames -/

theorem rosterTakes_keepsSeal (k : Nat) (f : RosterEntry → RosterEntry) (s : State) :
    KeepsSeal s (rosterTakes k f s) := by
  unfold rosterTakes
  split <;> exact .of_same (by rfl)

/-- A report updates the sender's entry, and the completion test follows (R107 to R109). -/
theorem report_keepsSeal (k : Nat) (f : RosterEntry → RosterEntry) (s : State) :
    KeepsSeal s (completionTest (rosterTakes k f s)) :=
  (rosterTakes_keepsSeal k f s).trans (completionTest_keepsSeal _)

theorem takeJoin_keepsSeal (k : Nat) (c : JoinCause) (b : BatchState) (s : State) :
    KeepsSeal s (takeJoin k c b s) := by
  have hstatus (t : State) : KeepsSeal t (if t.line.state = .onLine then enqueue (.status none) t else t) := by
    split
    · exact enqueue_keepsSeal _ t
    · exact .refl t
  have hclaim (t : State) : KeepsSeal t (if c = .lineReturn then t else removeClaims [k] t) := by
    split
    · exact .refl t
    · exact removeClaims_keepsSeal _ t
  exact (((rosterTakes_keepsSeal k _ s).trans (hstatus _)).trans (hclaim _)).trans (completionTest_keepsSeal _)

theorem takeStatus_keepsSeal (k : Nat) (b : BatchState) (x : Option (Nat × Nat × Progress)) (s : State) :
    KeepsSeal s (takeStatus k b x s) := by
  unfold takeStatus
  split
  · exact report_keepsSeal _ _ s
  · split
    · exact report_keepsSeal _ _ s
    · exact rosterTakes_keepsSeal _ _ s

theorem takeProgress_keepsSeal (k p r : Nat) (v : Progress) (b : BatchState) (s : State) :
    KeepsSeal s (takeProgress k p r v b s) := by
  unfold takeProgress
  split
  · exact report_keepsSeal _ _ s
  · exact rosterTakes_keepsSeal _ _ s

theorem takePointResult_keepsSeal (k p r : Nat) (s : State) : KeepsSeal s (takePointResult k p r s) := by
  unfold takePointResult
  split
  · exact report_keepsSeal _ _ s
  · exact rosterTakes_keepsSeal _ _ s

theorem deliver_keepsSeal (k : FrameKind) (h : Hdr) (bs : List Byte) (s : State) : KeepsSeal s (deliver k h bs s) := by
  have hmarks : KeepsSeal s (rosterMarks h.sender.toNat s) := rosterTakes_keepsSeal _ _ s
  cases k
  case loadSettled => dsimp only [deliver]; split; exacts [loadSettled_keepsSeal _ _ s, .refl s]
  case loadChanging => exact loadChanging_keepsSeal s
  case loadOff => exact loadOff_keepsSeal s
  case sync => dsimp only [deliver]; split; exacts [takeSync_keepsSeal _ s, .refl s]
  case setup => exact command_keepsSeal (setupCommand_keepsSeal bs s)
  case setMeter => exact command_keepsSeal (setMeterCommand_keepsSeal bs s)
  case planPoint => exact command_keepsSeal (planPointCommand_keepsSeal bs s)
  case planLimits => exact command_keepsSeal (planLimitsCommand_keepsSeal bs s)
  case planClear => exact command_keepsSeal (planClearCommand_keepsSeal bs s)
  case planHold => exact command_keepsSeal (planHoldCommand_keepsSeal bs s)
  case planRelease => exact command_keepsSeal (planReleaseCommand_keepsSeal bs s)
  case reading => exact command_keepsSeal (readingCommand_keepsSeal bs s)
  case query => exact takeQuery_keepsSeal bs s _
  case endBatch => exact command_keepsSeal (endBatchCommand_keepsSeal bs s)
  case retrySeal => exact command_keepsSeal (retrySealCommand_keepsSeal bs s)
  case clearNotices => exact command_keepsSeal (clearNoticesCommand_keepsSeal bs s)
  case noticeMask => exact command_keepsSeal (noticeMaskCommand_keepsSeal bs s)
  case restart => exact takeRestart_keepsSeal _ bs s
  case join => dsimp only [deliver]; split; exacts [takeJoin_keepsSeal _ _ _ s, .refl s]
  case status => dsimp only [deliver]; split; exacts [takeStatus_keepsSeal _ _ _ s, .refl s]
  case progress => dsimp only [deliver]; split; exacts [takeProgress_keepsSeal _ _ _ _ _ s, .refl s]
  case pointResult => dsimp only [deliver]; split; exacts [takePointResult_keepsSeal _ _ _ s, .refl s]
  case tally => dsimp only [deliver]; split; exacts [hmarks.trans (takeTally_keepsSeal _ _ _ _), .refl s]
  case claim => dsimp only [deliver]; split; exacts [hmarks.trans (takeClaim_keepsSeal _ _ _ _), .refl s]
  case release => dsimp only [deliver]; split; exacts [hmarks.trans (takeRelease_keepsSeal _ _ _), .refl s]
  case sealed => exact hmarks.trans (takeSealed_keepsSeal bs _)
  case measurement | notice | reply | detail => exact hmarks

theorem receive_keepsSeal (f : RxFrame) (s : State) : KeepsSeal s (receive f s) := by
  have hfilter (t : State) : KeepsSeal t (filtered f t) := by
    unfold filtered
    split
    · exact .refl t
    · exact .refl t
    · exact enterMuted_keepsSeal t
    · exact rosterTakes_keepsSeal _ _ t
    · exact deliver_keepsSeal _ _ _ t
  unfold receive
  split
  · exact .refl s
  · exact (KeepsSeal.trans (.of_same (by rfl)) (countGood_keepsSeal (driveAs .acknowledgeSlot s))).trans (hfilter _)

theorem receiveKind_keepsSeal (k : FrameKind) (h : Hdr) (bs : List Byte) (s : State) :
    KeepsSeal s (receiveKind k h bs s) := whenRunning_keepsSeal (receive_keepsSeal _ s)

theorem ageRoster_keepsSeal (s : State) : KeepsSeal s (ageRoster s) := by
  have hlost (b : Bool) (t : State) : KeepsSeal t (if b then raiseNotice .peerLost t else t) := by
    cases b
    · exact .refl t
    · exact raiseNotice_keepsSeal _ t
  unfold ageRoster
  dsimp only
  split
  · exact .of_same (by rfl)
  · exact (((KeepsSeal.trans (.of_same (by rfl)) (hlost _ _)).trans (removeClaims_keepsSeal _ _)).trans
      (earlyJudgment_keepsSeal _)).trans (completionTest_keepsSeal _)

/-! ### Resets, the tick, and every command -/

/-- A reset empties the press list, and a command reset keeps the log (R131, R143). -/
theorem resetBlocks_keepsSeal (p : Phase) (straps : BitVec 6) (present midFrame : Bool) (s : State) :
    KeepsSeal s (resetBlocks p straps present midFrame s) where
  log h := by
    unfold SealLogBound resetBlocks SealUnit.reset
    dsimp only
    split
    · exact h
    · exact ⟨Nat.zero_le _, List.nodup_nil⟩
  claims _ := List.nodup_nil
  drive _ hd := absurd hd Bool.false_ne_true

theorem tick_keepsSeal (s : State) : KeepsSeal s (tick s) := by
  unfold tick
  split <;> exact .of_same (by rfl)

theorem next_keepsSeal {s t u : State} (h : (.next u : Host.Outcome State Fault Refusal) = .next t)
    (hs : KeepsSeal s u) : KeepsSeal s t := by
  cases h; exact hs

/-- Every command keeps the seal log, the press list and PRESS-DRIVE sound. -/
theorem exec_keepsSeal {i : Instr} {s t : State} (h : exec i s = .next t) : KeepsSeal s t := by
  have hpins (pins : Pins) : KeepsSeal s { s with pins := pins } := .of_same (by rfl)
  cases i
  case powerOnReset => exact next_keepsSeal h (holdReset_keepsSeal _ s)
  case pinReset =>
    refine next_keepsSeal h ?_
    split
    · exact .refl s
    · exact holdReset_keepsSeal _ s
  case resetEnd =>
    refine next_keepsSeal h ?_
    split
    · exact .refl s
    · split
      · exact resetBlocks_keepsSeal _ _ _ _ s
      · exact (resetBlocks_keepsSeal _ _ _ _ s).trans (raiseNotice_keepsSeal _ _)
  case refRisingEdge => exact next_keepsSeal h (whenRunning_keepsSeal (refEdge_keepsSeal s))
  case mutRisingEdge => exact next_keepsSeal h ((hpins _).trans (whenRunning_keepsSeal (mutRise_keepsSeal _)))
  case mutFallingEdge => exact next_keepsSeal h ((hpins _).trans (whenRunning_keepsSeal (mutFall_keepsSeal _)))
  case widthTimerExpiry => exact next_keepsSeal h (whenDue_keepsSeal (widthExpiry_keepsSeal s))
  case delayedGateEvaluation => exact next_keepsSeal h (whenDue_keepsSeal (evaluateGate_keepsSeal s))
  case intervalTimerExpiry | batchClockTick | lampClockTick =>
    exact next_keepsSeal h (whenDue_keepsSeal (.of_same (by rfl)))
  case frameDiscard | stuffingViolation | lineIdle =>
    exact next_keepsSeal h (whenRunning_keepsSeal (.of_same (by rfl)))
  case presentFall =>
    refine next_keepsSeal h ?_
    split
    · exact (hpins _).trans (whenRunning_keepsSeal (presentFalls_keepsSeal _))
    · exact .refl s
  case presentRise =>
    refine next_keepsSeal h ?_
    split
    · exact .refl s
    · exact (hpins _).trans (whenRunning_keepsSeal (.of_same (by rfl)))
  case graceExpiry =>
    exact next_keepsSeal h
      ((whenRunning_keepsSeal (.of_same (by rfl))).trans (whenDue_keepsSeal (graceExpires_keepsSeal _)))
  case pointTimerExpiry => exact next_keepsSeal h (whenDue_keepsSeal (closeRun_keepsSeal _ s))
  case joinReceived | claimReceived | releaseReceived =>
    exact next_keepsSeal h ((hpins _).trans (receiveKind_keepsSeal _ _ _ (withStrokeDone _ s)))
  case duplicateNumberFrame | frameFiltered => exact next_keepsSeal h (whenRunning_keepsSeal (receive_keepsSeal _ s))
  case agingExpiry =>
    exact next_keepsSeal h ((hpins _).trans (whenDue_keepsSeal (ageRoster_keepsSeal (withStrokeDone _ s))))
  case heartbeatExpiry =>
    refine next_keepsSeal h (whenDue_keepsSeal ?_)
    split
    · exact (enqueue_keepsSeal _ s).trans (.of_same (by rfl))
    · exact .refl s
  case listenTimerExpiry =>
    refine next_keepsSeal h (whenDue_keepsSeal ?_)
    split
    · exact (queueJoin_keepsSeal s.line.resetCause s).trans (.of_same (by rfl))
    · exact .refl s
  case transmissionAttempt => exact next_keepsSeal h (whenRunning_keepsSeal (beginAttempt_keepsSeal s))
  case lostArbitration =>
    refine next_keepsSeal h (whenRunning_keepsSeal ?_)
    split
    · exact KeepsSeal.trans (.of_same (by rfl)) (releaseWaiting_keepsSeal _)
    · exact .refl s
  case attemptSuccess level =>
    refine next_keepsSeal h ((hpins _).trans (whenRunning_keepsSeal (s := withStrokeDone level s) ?_))
    split
    · exact succeed_keepsSeal _ _
    · exact .refl _
  case attemptFailure =>
    refine next_keepsSeal h (whenRunning_keepsSeal ?_)
    split
    · exact fail_keepsSeal _ s
    · exact .refl s
  case lineOffEntry =>
    refine next_keepsSeal h (whenRunning_keepsSeal ?_)
    split
    · exact enterLineOff_keepsSeal s
    · exact .refl s
  case lineReturn =>
    refine next_keepsSeal h (whenRunning_keepsSeal ?_)
    split
    · exact returnOnLine_keepsSeal s
    · exact .refl s
  case sealInCharacter =>
    refine next_keepsSeal h (whenRunning_keepsSeal ?_)
    split
    · exact KeepsSeal.trans (.of_same (by rfl)) (takeSealChar_keepsSeal _ _ _)
    · exact .refl s
  case sealInTimeout =>
    refine next_keepsSeal h (whenDue_keepsSeal ?_)
    split
    · exact .refl s
    · exact KeepsSeal.trans (.of_same (by rfl)) (raiseNotice_keepsSeal _ _)
  case strokeDoneRise =>
    refine next_keepsSeal h ((hpins _).trans (whenRunning_keepsSeal ?_))
    split
    · next hb _ => exact completeStroke_keepsSeal hb
    · exact .refl _
  case strokeTimerExpiry =>
    refine next_keepsSeal h (whenDue_keepsSeal ?_)
    split
    · exact failStroke_keepsSeal _ s
    · exact .refl s
  all_goals exact next_keepsSeal h (receiveKind_keepsSeal _ _ _ s)

theorem step_keepsSeal {s t : State} (h : step s = .next t) : KeepsSeal s t := by
  unfold step at h
  split at h
  · exact next_keepsSeal h (tick_keepsSeal s)
  · exact KeepsSeal.trans (.of_same (by rfl)) (exec_keepsSeal h)

/-- Settles O58: each operation of a step keeps the seal unit sound, and so does their composition. -/
theorem sealUnitStaysSound : Obligations.SealUnitStaysSound :=
  ⟨fun _ _ hs h => (step_keepsSeal h).log hs, fun _ _ hs h => (step_keepsSeal h).claims hs,
    fun _ _ hs h => (step_keepsSeal h).drive hs⟩

end Sys2Proof.Machine
end

section
/-! SUPPORT. Why O41 fails: a failure drops every frame under attempt, and tells the owner of one (R153, R167). -/

namespace Sys2Proof.Machine

/-- Two frames under attempt, which no run reaches and the statement allows: a TALLY at its fourth attempt, and behind
it a part of the series in progress, on a line with 31 faults. -/
def twoUnderAttempt : State := { State.reset with
  line := { State.reset.line with
    state := .onLine
    faultTally := 31
    queue := [⟨.tally 1 2, 0, 3, true⟩, ⟨.detail 0 5 [] true, 0, 0, true⟩] }
  cmd := { State.reset.cmd with series := some ⟨.meter, 1, 5, false⟩ } }

/-- Refutes O41: of two frames under attempt the failure of the first takes both out of the queue, and the series whose
part is the second goes on, where the last clause has it end. -/
theorem not_attemptFails : ¬ Obligations.AttemptFails := by
  intro h
  obtain ⟨-, hfails⟩ := h .bitError twoUnderAttempt rfl
  obtain ⟨-, -, -, -, -, -, hlineOff⟩ := hfails ⟨.tally 1 2, 0, 3, true⟩ rfl
  obtain ⟨t, hexec, -, -, -, -, -, -, -, hseries, -⟩ := hlineOff rfl rfl
  have hgoesOn : exec (.attemptFailure .bitError) twoUnderAttempt = .next t →
      t.cmd.series = some ⟨.meter, 1, 5, false⟩ := by
    rintro ⟨⟩
    decide
  have hends : ∃ g ∈ twoUnderAttempt.line.queue, LivePart g.msg := ⟨_, .tail _ (.head _), rfl⟩
  rw [hgoesOn hexec, if_pos hends] at hseries
  cases hseries

end Sys2Proof.Machine
end

section
/-! SUPPORT. O36: the stroke timer, in PRESSING at its stamp and elsewhere (R138, R141). -/

namespace Sys2Proof.Machine

/-- A frame of a kind that does not coalesce is in the queue after its queuing, unless a frame was lost, and TX_DROPPED
is pending (R162). -/
theorem enqueue_queued_or_dropped {m : TxMsg} (s : State) (hm : coalesces m.kind = false) :
    (∃ f ∈ (enqueue m s).line.queue, f.msg = m) ∨ hasNotice (enqueue m s).cmd.notices .txDropped = true := by
  rcases hq : queueFrame s.fe.now m s.line with ⟨l, lost⟩
  cases lost with
  | some lost =>
    refine .inr ?_
    simp only [enqueue, hq]
    exact frameLost_raises _ _
  | none =>
    refine .inl ⟨newFrame s.fe.now m, ?_, rfl⟩
    rw [enqueue_of_kept hq]
    rw [queueFrame_new _ (by simp [hm]), admitFrame] at hq
    split at hq
    · cases hq
      exact List.mem_append_right _ (List.mem_singleton_self _)
    · split at hq
      · obtain ⟨rfl, -⟩ := Prod.mk.inj hq
        exact List.mem_append_right _ (List.mem_singleton_self _)
      · cases hq

/-- The failed stroke's notice, and its RELEASE (R141). -/
theorem failStroke_reports (c : OwnClaim) (s : State) :
    hasNotice (failStroke c s).cmd.notices .pressFault = true ∧
    ((∃ f ∈ (failStroke c s).line.queue, f.msg = .release c.number .fault) ∨
      hasNotice (failStroke c s).cmd.notices .txDropped = true) :=
  ⟨(queueRelease_remembers _ _ _).notices _ (raiseNotice_raises _ _), enqueue_queued_or_dropped _ rfl⟩

/-- The stroke timer in any other batch state finds no stroke (log 2). -/
theorem exec_strokeTimerExpiry_not_pressing {s : State} (hb : s.meter.batch ≠ .pressing) :
    exec .strokeTimerExpiry s = .next s := by
  refine congrArg Host.Outcome.next ?_
  unfold whenDue whenRunning
  split
  · dsimp only
    split
    · split
      · next h _ => exact absurd h hb
      · rfl
    · rfl
  · rfl

theorem exec_strokeTimerExpiry_due {c : OwnClaim} {s : State} (hp : s.phase = .running)
    (hb : s.meter.batch = .pressing) (hdue : s.sealUnit.strokeTimer = some s.fe.now)
    (hc : s.sealUnit.current = some c) : exec .strokeTimerExpiry s = .next (failStroke c s) := by
  refine congrArg Host.Outcome.next ((whenDue_due hp hdue).trans ?_)
  simp only [hb, hc]

/-- Settles O36: the stroke timer in PRESSING fails the stroke, with RELEASE owed; elsewhere it changes nothing. -/
theorem strokeTimeoutFails : Obligations.StrokeTimeoutFails := by
  intro s hp
  refine ⟨fun h => ?_, fun c hb hdue hc => ?_⟩
  · rcases h with hb | hdue
    · exact exec_strokeTimerExpiry_not_pressing hb
    · exact congrArg Host.Outcome.next (whenDue_not_due hdue)
  · obtain ⟨hmeter, hunit⟩ := failStroke_leaves c s
    obtain ⟨hfault, hrelease⟩ := failStroke_reports c s
    have hkeeps := (failStroke_keeps c s).blocks
    have hrise := exec_strokeDoneRise_not_pressing (s := failStroke c s) (by simp [hmeter])
    exact ⟨_, exec_strokeTimerExpiry_due hp hb hdue hc, hmeter, hunit, hfault, hrelease, by rw [hkeeps], by rw [hkeeps],
      by rw [hkeeps], by rw [hkeeps], hrise⟩

end Sys2Proof.Machine
end

section
/-! SUPPORT. O34, O33 and O32: what a SEALED, a RELEASE and a CLAIM of a peer bring to the seal unit (R133 to R137,
R139, R143, R144). -/

namespace Sys2Proof.Machine

/-- A seal number of 1 to 14 printable characters, in the words of the statements (R129). -/
theorem validSeal_iff (text : Text) : validSeal text = true ↔
    1 ≤ text.length ∧ text.length ≤ 14 ∧ ∀ c ∈ text, 32 ≤ c.toNat ∧ c.toNat ≤ 126 := by
  simp only [validSeal, printable, Bool.and_eq_true, decide_eq_true_eq, List.all_eq_true, and_assoc]
  rfl

/-! ### A SEALED of a peer -/

theorem exec_sealedReceived {h : Hdr} {text : Text} {s : State} (hh : Hears s) (hs : FromPeer h s)
    (hl : text.length ≤ 16) : exec (.sealedReceived h text) s = .next (takeSealed text (reported h id s)) := by
  refine congrArg Host.Outcome.next ((receiveKind_fits hh hs rfl (by simpa [fits] using hl)).trans ?_)
  simp only [deliver]
  rw [rosterMarks, rosterTakes_acked hs]

/-- The seal log with a number entered (R143). -/
def withLog (number : Text) (s : State) : State :=
  { s with sealUnit := { s.sealUnit with log := enterLog number s.sealUnit.log } }

theorem takeSealed_invalid {text : Text} (h : ¬ validSeal text = true) (s : State) : takeSealed text s = s := if_neg h

section Valid

variable {text : Text} (hok : validSeal text = true) {s : State}

include hok

/-- A number that is not the one claimed or pressed enters the log, and nothing else happens (R143). -/
theorem takeSealed_other (h : ∀ c, s.sealUnit.current = some c → c.sealNo = text →
    s.meter.batch ≠ .claiming ∧ s.meter.batch ≠ .pressing) : takeSealed text s = withLog text s := by
  rw [takeSealed, if_pos hok]
  dsimp only
  split
  · next c hc =>
    split
    · next hsame =>
      obtain ⟨hclaiming, hpressing⟩ := h c hc hsame
      split
      · next hb => exact absurd hb hclaiming
      · next hb => exact absurd hb hpressing
      · rfl
    · rfl
  · rfl

theorem takeSealed_claiming {c : OwnClaim} (hc : s.sealUnit.current = some c) (hsame : c.sealNo = text)
    (hb : s.meter.batch = .claiming) : takeSealed text s = abandonReused c (withLog text s) := by
  simp only [takeSealed, hok, hc, hsame, hb, if_true, withLog]

theorem takeSealed_pressing {c : OwnClaim} (hc : s.sealUnit.current = some c) (hsame : c.sealNo = text)
    (hb : s.meter.batch = .pressing) : takeSealed text s = raiseNotice .sealReused (withLog text s) := by
  simp only [takeSealed, hok, hc, hsame, hb, if_true, withLog]

end Valid

theorem stateOfVerdict_mem (v : Option Overall) :
    stateOfVerdict v = .awaitSeal ∨ stateOfVerdict v = .rejected ∨ stateOfVerdict v = .running := by
  rcases v with _ | v
  · exact .inr (.inr rfl)
  · cases v
    · exact .inl rfl
    · exact .inr (.inl rfl)

/-- Settles O34: the number enters the log first, and the branches of R144 follow by the own claim and batch state. -/
theorem sealedEntersLog : Obligations.SealedEntersLog := by
  intro h text s hh hs hl
  dsimp only
  rw [exec_sealedReceived hh hs hl, ← validSeal_iff, ← enterLog_eq]
  refine ⟨fun hbad => ?_, fun hok hother => ?_, fun c hok hc hsame hb => ?_, fun c hok hc hsame hb => ?_⟩
  · rw [takeSealed_invalid hbad]
    rfl
  · rw [takeSealed_other hok (s := reported h id s) hother]
    rfl
  · refine ⟨_, rfl, ?_⟩
    rw [takeSealed_claiming hok (s := reported h id s) hc hsame hb]
    obtain ⟨hunit, hheld, -, hbatch, hnotice, -⟩ := abandonReused_leaves c (withLog text (reported h id s))
    rw [hunit, hheld, hbatch]
    exact ⟨rfl, rfl, rfl, rfl, hnotice, rfl, stateOfVerdict_mem _⟩
  · refine ⟨_, rfl, ?_⟩
    rw [takeSealed_pressing hok (s := reported h id s) hc hsame hb]
    obtain ⟨hmeter, hunit⟩ := raiseNotice_leaves .sealReused (withLog text (reported h id s))
    exact ⟨hunit, hmeter, raiseNotice_raises _ _⟩

/-! ### A RELEASE of a peer -/

/-- The grant test of a sent own claim, by its place in the press list and the level of STROKE-DONE (R136, R139). -/
theorem grantTest_outcome {c : OwnClaim} {place : Nat} {s : State} (hb : s.meter.batch = .claiming)
    (hc : s.sealUnit.current = some c) (hsent : c.sent = true)
    (hplace : placeOf s.line.own s.sealUnit.pressList = some place) :
    (s.cmd.setup.pressBudget ≤ place → grantTest s = s) ∧
    (place < s.cmd.setup.pressBudget → s.pins.strokeDone = false → grantTest s = { s with
      sealUnit := { s.sealUnit with
        pressDrive := true
        strokeTimer := some (later s.fe.now (s.cmd.setup.strokeTimeout * Config.second)) }
      meter := { s.meter with batch := .pressing } }) ∧
    (place < s.cmd.setup.pressBudget → s.pins.strokeDone = true →
      (grantTest s).meter = { s.meter with batch := .sealFault } ∧
      (grantTest s).sealUnit = { s.sealUnit with current := none, owed := some ⟨c.number, .fault⟩ } ∧
      hasNotice (grantTest s).cmd.notices .pressFault = true) := by
  refine ⟨grantTest_waits hb hc hplace, fun hamong hlow => ?_, fun hamong hhigh => ?_⟩ <;>
    rw [grantTest_grants hb hc hsent hplace hamong]
  · exact grant_begins hlow
  · exact grant_refused hhigh

theorem exec_releaseReceived {h : Hdr} (n : Byte) (reason : ReleaseReason) (level : Bool) {s : State} (hh : Hears s)
    (hs : FromPeer h s) : exec (.releaseReceived h [n, BitVec.ofNat 8 reason.code] level) s =
      .next (takeRelease h.sender.toNat n.toNat (reported h id (withStrokeDone level s))) := by
  have hread : readRelease [n, BitVec.ofNat 8 reason.code] = some n.toNat := by cases reason <;> rfl
  refine congrArg Host.Outcome.next
    ((receiveKind_fits (s := withStrokeDone level s) hh hs rfl (by simp [fits, hread])).trans ?_)
  simp only [deliver, hread]
  rw [rosterMarks, rosterTakes_acked (s := withStrokeDone level s) hs]

theorem claims_any_iff (claims : List Claim) (k n : Nat) :
    (claims.any fun c => c.station == k && c.number == n) = true ↔ ∃ c ∈ claims, c.station = k ∧ c.number = n := by
  simp

/-- A RELEASE that names a claim of the list removes it, and the grant test follows (R134). -/
theorem takeRelease_removes {k n : Nat} {s : State} (h : ∃ c ∈ s.sealUnit.pressList, c.station = k ∧ c.number = n) :
    takeRelease k n s = grantTest (withClaims (withoutStation k s.sealUnit.pressList) s) :=
  if_pos ((claims_any_iff _ _ _).2 h)

/-- One that names no claim of the list is ignored (R134). -/
theorem takeRelease_ignored {k n : Nat} {s : State} (h : ∀ c ∈ s.sealUnit.pressList, c.station = k → c.number ≠ n) :
    takeRelease k n s = s :=
  if_neg fun hany => by
    obtain ⟨c, hc, hk, hn⟩ := (claims_any_iff _ _ _).1 hany
    exact h c hc hk hn

/-- The state in which a peer's claim has entered or left the list, before the examination and the grant test. -/
def claimsChanged (h : Hdr) (level : Bool) (claims : List Claim) (s : State) : State :=
  withClaims claims (reported h id (withStrokeDone level s))

/-- Settles O33: the removal of a claim that is in the list, and the outcomes of the grant test that follows. -/
theorem releaseMayGrant : Obligations.ReleaseMayGrant := by
  intro h n reason level s hh hs
  refine ⟨fun hnone => ?_, fun hany => ?_⟩
  · rw [exec_releaseReceived n reason level hh hs, takeRelease_ignored (by exact hnone)]
    rfl
  · have hexec : exec (.releaseReceived h [n, BitVec.ofNat 8 reason.code] level) s = .next
        (grantTest (claimsChanged h level (withoutStation h.sender.toNat s.sealUnit.pressList) s)) := by
      rw [exec_releaseReceived n reason level hh hs, takeRelease_removes (by exact hany)]
      rfl
    dsimp only
    rw [hexec]
    refine ⟨fun hb => congrArg Host.Outcome.next (grantTest_not_claiming (by exact hb)),
      fun c place hb hc hsent hplace => ?_⟩
    obtain ⟨hwaits, hbegins, hfaults⟩ := grantTest_outcome
      (s := claimsChanged h level (withoutStation h.sender.toNat s.sealUnit.pressList) s) hb hc hsent hplace
    refine ⟨fun hbehind => congrArg Host.Outcome.next (hwaits hbehind),
      fun hamong hlow => congrArg Host.Outcome.next (hbegins hamong hlow), fun hamong hhigh => ⟨_, rfl, ?_⟩⟩
    obtain ⟨hmeter, hunit, hnotice⟩ := hfaults hamong hhigh
    rw [hmeter, hunit]
    exact ⟨rfl, rfl, rfl, rfl, rfl, hnotice⟩

/-! ### A CLAIM of a peer -/

theorem exec_claimReceived {h : Hdr} (n : Byte) {text : Text} (level : Bool) {s : State} (hh : Hears s)
    (hs : FromPeer h s) (hl : text.length ≤ 15) : exec (.claimReceived h (n :: text) level) s =
      .next (takeClaim h.sender.toNat n.toNat text (reported h id (withStrokeDone level s))) := by
  have hread : readClaim (n :: text) = some (n.toNat, text) := if_pos hl
  refine congrArg Host.Outcome.next
    ((receiveKind_fits (s := withStrokeDone level s) hh hs rfl (by simp [fits, hread])).trans ?_)
  simp only [deliver, hread]
  rw [rosterMarks, rosterTakes_acked (s := withStrokeDone level s) hs]

theorem toNat_eq_zero_iff (n : Byte) : n.toNat = 0 ↔ n = 0 := by
  rw [← BitVec.toNat_inj]
  rfl

/-- Without a claim number or a valid seal number a CLAIM is ignored (R133). -/
theorem takeClaim_ignored {k : Nat} {n : Byte} {text : Text} (h : ¬ (n ≠ 0 ∧ validSeal text = true)) (s : State) :
    takeClaim k n.toNat text s = s := by
  refine if_pos ?_
  rw [Bool.or_eq_true, decide_eq_true_eq, toNat_eq_zero_iff, Bool.not_eq_true']
  by_cases hn : n = 0
  · exact .inl hn
  · exact .inr (Bool.eq_false_iff.2 fun hv => h ⟨hn, hv⟩)

/-- With both it enters the list, and the own claim is examined (R133). -/
theorem takeClaim_enters {k : Nat} {n : Byte} {text : Text} (h : n ≠ 0 ∧ validSeal text = true) (s : State) :
    takeClaim k n.toNat text s =
      examineAndGrant (withClaims (enterClaim ⟨k, n.toNat, text⟩ s.sealUnit.pressList) s) := by
  obtain ⟨hn, hv⟩ := h
  refine if_neg ?_
  rw [Bool.or_eq_true, decide_eq_true_eq, toNat_eq_zero_iff, hv]
  exact fun h => h.elim hn Bool.false_ne_true

/-- The claim of the same number is replaced in its place; any other of the sender gives way at the end (R133). -/
theorem enterClaim_eq (k n : Nat) (text : Text) (claims : List Claim) : enterClaim ⟨k, n, text⟩ claims =
    if claims.any fun c => c.station == k && c.number == n then
      claims.map fun c => if c.station = k ∧ c.number = n then ⟨k, n, text⟩ else c
    else (claims.filter fun c => c.station != k) ++ [⟨k, n, text⟩] := by
  have hreplace (c : Claim) : (if c.station = k ∧ c.number = n then { c with sealNo := text } else c) =
      if c.station = k ∧ c.number = n then ⟨k, n, text⟩ else c := by
    split
    · next h => rw [h.1, h.2]
    · rfl
  simp only [enterClaim, withoutStation, hreplace]

/-- Outside CLAIMING, or before the own claim is sent, there is no examination (R135). -/
theorem examineAndGrant_idle {s : State}
    (h : s.meter.batch ≠ .claiming ∨ ∀ c, s.sealUnit.current = some c → c.sent = false) : examineAndGrant s = s := by
  unfold examineAndGrant
  split
  · next c hb hc =>
    rcases h with h | h
    · exact absurd hb h
    · exact if_neg (by simp [h c hc])
  · rfl

/-- The claims ahead of a station's own are those before its place (R133). -/
theorem takeWhile_eq_take_place {own place : Nat} {claims : List Claim} (h : placeOf own claims = some place) :
    (claims.takeWhile fun c => c.station != own) = claims.take place := by
  have hidx : claims.findIdx (fun c => c.station == own) = place := (List.findIdx?_eq_some_iff_findIdx_eq.1 h).2
  simp only [List.takeWhile_eq_take_findIdx_not, ← hidx, bne, Bool.not_not]

theorem claimedAhead_iff {number : Text} {place : Nat} {s : State}
    (h : placeOf s.line.own s.sealUnit.pressList = some place) :
    claimedAhead number s = true ↔ ∃ x ∈ s.sealUnit.pressList.take place, x.sealNo = number := by
  rw [claimedAhead, takeWhile_eq_take_place h, List.any_eq_true]
  simp only [beq_iff_eq]

/-- The examination of a sent own claim that stands in the list (R133, R135). -/
theorem examineAndGrant_examines {c : OwnClaim} {place : Nat} {s : State} (hb : s.meter.batch = .claiming)
    (hc : s.sealUnit.current = some c) (hsent : c.sent = true)
    (hplace : placeOf s.line.own s.sealUnit.pressList = some place) :
    ((∃ x ∈ s.sealUnit.pressList.take place, x.sealNo = c.sealNo) → examineAndGrant s = abandonReused c s) ∧
    ((∀ x ∈ s.sealUnit.pressList.take place, x.sealNo ≠ c.sealNo) → examineAndGrant s = grantTest s) := by
  have hexamine : examineAndGrant s = if claimedAhead c.sealNo s then abandonReused c s else grantTest s := by
    simp only [examineAndGrant, hb, hc, hsent, hplace, Option.isSome_some, Bool.and_self, if_true]
  rw [hexamine]
  refine ⟨fun h => if_pos ((claimedAhead_iff hplace).2 h), fun h => if_neg fun hahead => ?_⟩
  obtain ⟨x, hx, hsame⟩ := (claimedAhead_iff hplace).1 hahead
  exact h x hx hsame

/-- Settles O32: the entry of the claim, and by the claims ahead of the own one its abandonment or the grant test. -/
theorem claimEntersPressList : Obligations.ClaimEntersPressList := by
  intro h n text level s hh hs hl
  dsimp only
  rw [← validSeal_iff, ← enterClaim_eq]
  refine ⟨fun hbad => ?_, fun hok hidle => ?_, fun c place hok hb hc hsent hplace => ?_⟩
  · rw [exec_claimReceived n level hh hs hl, takeClaim_ignored hbad]
    rfl
  · rw [exec_claimReceived n level hh hs hl, takeClaim_enters hok, examineAndGrant_idle (by exact hidle)]
    rfl
  · have hexec : exec (.claimReceived h (n :: text) level) s = .next (examineAndGrant
        (claimsChanged h level (enterClaim ⟨h.sender.toNat, n.toNat, text⟩ s.sealUnit.pressList) s)) := by
      rw [exec_claimReceived n level hh hs hl, takeClaim_enters hok]
      rfl
    obtain ⟨hreused, hfree⟩ := examineAndGrant_examines
      (s := claimsChanged h level (enterClaim ⟨h.sender.toNat, n.toNat, text⟩ s.sealUnit.pressList) s)
      hb hc hsent hplace
    rw [hexec]
    refine ⟨fun hahead => ⟨_, rfl, ?_⟩, fun hnone => ?_⟩
    · rw [hreused hahead]
      obtain ⟨hunit, hheld, hverdict, hbatch, hnotice, hrelease⟩ := abandonReused_leaves c
        (claimsChanged h level (enterClaim ⟨h.sender.toNat, n.toNat, text⟩ s.sealUnit.pressList) s)
      exact ⟨hunit, hheld, evaluated_of_eq hverdict hbatch, hnotice,
        fun hroom => hrelease (Nat.lt_of_le_of_lt hroom (by decide))⟩
    · rw [hfree hnone]
      obtain ⟨hwaits, hbegins, hfaults⟩ := grantTest_outcome
        (s := claimsChanged h level (enterClaim ⟨h.sender.toNat, n.toNat, text⟩ s.sealUnit.pressList) s)
        hb hc hsent hplace
      refine ⟨fun hbehind => congrArg Host.Outcome.next (hwaits hbehind),
        fun hamong hlow => congrArg Host.Outcome.next (hbegins hamong hlow), fun hamong hhigh => ⟨_, rfl, ?_⟩⟩
      obtain ⟨hmeter, hunit, hnotice⟩ := hfaults hamong hhigh
      rw [hmeter, hunit]
      exact ⟨rfl, rfl, rfl, rfl, hnotice⟩

end Sys2Proof.Machine
end

section
/-! SUPPORT. O37: the characters of SEAL-IN, one by one, and the end of its timer (R129, R161, R169). -/

namespace Sys2Proof.Machine

/-! ### Characters -/

theorem exec_sealInCharacter_refused {levels : BitVec 9} {stop rested : Bool} {s : State}
    (h : levels.getLsbD 0 = true ∨ (s.sealRx.ready = false ∧ rested = false)) :
    exec (.sealInCharacter levels stop rested) s = .next s := by
  refine congrArg Host.Outcome.next ?_
  unfold whenRunning
  split
  · refine if_neg ?_
    rcases h with h | ⟨hready, hrested⟩
    · simp [h]
    · simp [hready, hrested]
  · rfl

theorem exec_sealInCharacter_taken {levels : BitVec 9} {rested : Bool} {s : State} (hp : s.phase = .running)
    (hstart : levels.getLsbD 0 = false) (hready : s.sealRx.ready = true ∨ rested = true) (stop : Bool) :
    exec (.sealInCharacter levels stop rested) s = .next
      (takeSealChar (serialCode levels) (!stop) { s with sealRx := { s.sealRx with ready := true } }) := by
  refine congrArg Host.Outcome.next ((whenRunning_running hp).trans (if_pos ?_))
  rw [hstart]
  rcases hready with h | h <;> simp [h]

theorem printable_iff (code : Byte) : printable code = true ↔ 32 ≤ code.toNat ∧ code.toNat ≤ 126 := by
  simp [printable]

section Append

variable {code : Byte} {r : SealReceiver}

/-- A framing error marks the line bad (R129). -/
theorem appendSealChar_framing (code : Byte) (r : SealReceiver) :
    appendSealChar code true r = { r with bad := true } := rfl

/-- A line feed before a line is skipped (R129). -/
theorem appendSealChar_lineFeed (hb : r.buffer = []) (hbad : r.bad = false) : appendSealChar 10 false r = r := by
  simp [appendSealChar, hb, hbad]

/-- Any other code that is not printable marks the line bad (R129). -/
theorem appendSealChar_other (h : ¬ (32 ≤ code.toNat ∧ code.toNat ≤ 126))
    (hlf : ¬ (code = 10 ∧ r.buffer = [] ∧ r.bad = false)) : appendSealChar code false r = { r with bad := true } := by
  have hskip : ¬ (code = 10 && r.buffer.isEmpty && !r.bad) = true := by simpa [and_assoc] using hlf
  rw [appendSealChar, if_neg Bool.false_ne_true, if_neg hskip, if_neg (by rwa [printable_iff])]

/-- A printable character enters the buffer while it holds fewer than 14 (R129). -/
theorem appendSealChar_printable (h : 32 ≤ code.toNat ∧ code.toNat ≤ 126) : appendSealChar code false r =
    if r.buffer.length < 14 then { r with buffer := r.buffer ++ [code] } else { r with bad := true } := by
  have hskip : ¬ (code = 10 && r.buffer.isEmpty && !r.bad) = true := by
    intro hlf
    simp only [Bool.and_eq_true, decide_eq_true_eq] at hlf
    rw [hlf.1.1] at h
    exact absurd h (by decide)
  rw [appendSealChar, if_neg Bool.false_ne_true, if_neg hskip, if_pos ((printable_iff code).2 h)]
  rfl

end Append

/-- While a partial line is held, its timer runs from the last character (R129). -/
theorem armSealTimer_partial {now : Stamp} {r : SealReceiver} (h : r.buffer ≠ [] ∨ r.bad = true) :
    armSealTimer now r = { r with timer := some (now + 5000000#48) } := by
  have hpartial : ¬ (r.buffer.isEmpty && !r.bad) = true := by
    rcases h with h | h <;> simp [h]
  rw [armSealTimer, if_neg hpartial]
  rfl

theorem takeSealChar_append {code : Byte} {framing : Bool} (h : framing = true ∨ code ≠ 13) (s : State) :
    takeSealChar code framing s =
      { s with sealRx := armSealTimer s.fe.now (appendSealChar code framing s.sealRx) } := by
  refine if_neg ?_
  rw [Bool.and_eq_true, decide_eq_true_eq, Bool.not_eq_true']
  rintro ⟨hcr, hstop⟩
  rcases h with h | h
  · exact Bool.false_ne_true (hstop.symm.trans h)
  · exact h hcr

/-- CR ends an empty or bad line, which is discarded with SEAL_READ_BAD (R129). -/
theorem takeSealChar_bad {s : State} (h : s.sealRx.buffer = [] ∨ s.sealRx.bad = true) :
    takeSealChar 13 false s = raiseNotice .sealReadBad (emptySealLine s) := by
  refine (if_pos rfl).trans (if_neg ?_)
  rcases h with h | h <;> simp [h]

/-! ### The end of the timer -/

theorem exec_sealInTimeout_due {s : State} (hp : s.phase = .running) (hdue : s.sealRx.timer = some s.fe.now)
    (h : s.sealRx.buffer ≠ [] ∨ s.sealRx.bad = true) :
    exec .sealInTimeout s = .next (raiseNotice .sealReadBad (emptySealLine s)) := by
  refine congrArg Host.Outcome.next ((whenDue_due hp hdue).trans (if_neg ?_))
  rcases h with h | h <;> simp [h]

theorem exec_sealInTimeout_idle {s : State} (hp : s.phase = .running)
    (h : s.sealRx.timer ≠ some s.fe.now ∨ (s.sealRx.buffer = [] ∧ s.sealRx.bad = false)) :
    exec .sealInTimeout s = .next s := by
  refine congrArg Host.Outcome.next ?_
  by_cases hdue : s.sealRx.timer = some s.fe.now
  · obtain ⟨hbuffer, hbad⟩ := h.resolve_left fun hn => hn hdue
    exact (whenDue_due hp hdue).trans (if_pos (by simp [hbuffer, hbad]))
  · exact whenDue_not_due hdue

/-- A state with a notice made pending. -/
def pendingNotice (n : Notice) (s : State) : State :=
  { s with cmd := { s.cmd with notices := withNotice s.cmd.notices n } }

theorem single_getLsbD (n : Notice) : ∀ i < 10, n.single.getLsbD i = true → i = n.bit := by
  cases n <;> decide

theorem withNotice_of_pending {set : BitVec 10} {n : Notice} (h : hasNotice set n = true) : withNotice set n = set := by
  refine BitVec.eq_of_getLsbD_eq fun i hi => ?_
  rw [withNotice, BitVec.getLsbD_or, Bool.or_eq_left_iff_imp]
  intro hbit
  rwa [single_getLsbD n i hi hbit]

/-- A notice that is pending already, or whose mask bit is off, queues nothing (R169). -/
theorem raiseNotice_quiet {n : Notice} {s : State}
    (h : hasNotice s.cmd.notices n = true ∨ hasNotice s.cmd.mask n = false) :
    raiseNotice n s = pendingNotice n s := by
  unfold raiseNotice
  split
  · next hset =>
    rw [pendingNotice, withNotice_of_pending hset]
  · next hset =>
    have hmask := h.resolve_left hset
    simp only [hmask, Bool.false_eq_true, if_false, pendingNotice]

/-- A clear notice whose mask bit is on queues a NOTICE with the whole set (R169). -/
theorem raiseNotice_queues {n : Notice} {s : State} (hclear : hasNotice s.cmd.notices n = false)
    (hmask : hasNotice s.cmd.mask n = true) :
    raiseNotice n s = enqueue (.notice (withNotice s.cmd.notices n)) (pendingNotice n s) := by
  simp only [raiseNotice, hclear, hmask, Bool.false_eq_true, if_false, if_true, pendingNotice]

/-- The NOTICE of SEAL_READ_BAD, whichever NOTICE there is already (R161). -/
theorem exec_sealInTimeout_queues {s : State} (hp : s.phase = .running) (hdue : s.sealRx.timer = some s.fe.now)
    (h : s.sealRx.buffer ≠ [] ∨ s.sealRx.bad = true) (hclear : hasNotice s.cmd.notices .sealReadBad = false)
    (hmask : hasNotice s.cmd.mask .sealReadBad = true) :
    exec .sealInTimeout s = .next (enqueue (.notice (s.cmd.notices ||| 32#10))
      (pendingNotice .sealReadBad (emptySealLine s))) := by
  rw [exec_sealInTimeout_due hp hdue h, raiseNotice_queues (by exact hclear) (by exact hmask)]
  rfl

/-- A character that does not end the line (R129). -/
theorem exec_sealInCharacter_append {levels : BitVec 9} {stop rested : Bool} {s : State} (hp : s.phase = .running)
    (hstart : levels.getLsbD 0 = false) (hready : s.sealRx.ready = true ∨ rested = true)
    (h : stop = false ∨ serialCode levels ≠ 13) :
    exec (.sealInCharacter levels stop rested) s = .next { s with
      sealRx := armSealTimer s.fe.now
        (appendSealChar (serialCode levels) (!stop) { s.sealRx with ready := true }) } := by
  rw [exec_sealInCharacter_taken hp hstart hready stop, takeSealChar_append (by simpa using h)]

/-- A printable code is not CR. -/
theorem ne_cr_of_printable {code : Byte} (h : 32 ≤ code.toNat) : code ≠ 13 := by
  rintro rfl
  exact absurd h (by decide)

/-- Settles O37: the classes of a character, its effect on the line, and the NOTICE at the end of the timer. -/
theorem sealCharactersGather : Obligations.SealCharactersGather := by
  intro levels stop rested s hp
  refine ⟨exec_sealInCharacter_refused, fun hstart hready => ?_, fun hdue hpartial => ?_, exec_sealInTimeout_idle hp⟩
  · dsimp only
    refine ⟨fun h => ?_, fun hstop hlow hhigh hroom => ?_, fun hstop hlow hhigh hfull => ?_,
      fun hstop hlf hb hbad => ?_, fun hstop hcr hline => ?_⟩
    · rw [exec_sealInCharacter_append hp hstart hready (h.imp_right fun h => h.1)]
      have hmark : appendSealChar (serialCode levels) (!stop) { s.sealRx with ready := true } =
          { s.sealRx with ready := true, bad := true } := by
        cases stop with
        | false => exact appendSealChar_framing _ _
        | true =>
          obtain ⟨-, hcode, hlf⟩ := h.resolve_left Bool.noConfusion
          exact appendSealChar_other hcode hlf
      rw [hmark, armSealTimer_partial (.inr rfl)]
    · obtain rfl := Bool.eq_true_of_not_eq_false hstop
      rw [exec_sealInCharacter_append hp hstart hready (.inr (ne_cr_of_printable hlow)), Bool.not_true,
        appendSealChar_printable (code := serialCode levels) ⟨hlow, hhigh⟩, if_pos hroom,
        armSealTimer_partial (.inl (by simp))]
      rfl
    · obtain rfl := Bool.eq_true_of_not_eq_false hstop
      rw [exec_sealInCharacter_append hp hstart hready (.inr (ne_cr_of_printable hlow)), Bool.not_true,
        appendSealChar_printable (code := serialCode levels) ⟨hlow, hhigh⟩, if_neg (Nat.not_lt.2 hfull),
        armSealTimer_partial (.inr rfl)]
    · obtain rfl := Bool.eq_true_of_not_eq_false hstop
      have hcode : serialCode levels = 10 := hlf
      rw [exec_sealInCharacter_append hp hstart hready (.inr (by rw [hcode]; decide)), hcode, Bool.not_true,
        appendSealChar_lineFeed (r := { s.sealRx with ready := true }) hb hbad]
      simp [armSealTimer, hb, hbad]
    · obtain rfl := Bool.eq_true_of_not_eq_false hstop
      have hcode : serialCode levels = 13 := hcr
      rw [exec_sealInCharacter_taken hp hstart hready, hcode, Bool.not_true, takeSealChar_bad (by exact hline)]
      exact ⟨_, rfl, raiseNotice_sealRx _ _, fun _ => (raiseNotice_leaves _ _).1, raiseNotice_raises _ _⟩
  · dsimp only
    refine ⟨?_, fun hquiet => ?_, fun hclear hmask => ?_⟩
    · rw [exec_sealInTimeout_due hp hdue hpartial]
      exact ⟨_, rfl, raiseNotice_sealRx _ _, raiseNotice_raises _ _⟩
    · rw [exec_sealInTimeout_due hp hdue hpartial, raiseNotice_quiet (by exact hquiet)]
      rfl
    · rw [exec_sealInTimeout_queues hp hdue hpartial hclear hmask]
      refine ⟨fun hnew hroom => ?_, fun hold hidle => ?_, fun hsend => ?_⟩
      · rw [enqueue_enters (.notice (s.cmd.notices ||| 32#10)) (pendingNotice .sealReadBad (emptySealLine s))
          (fun _ => hnew) hroom]
        rfl
      · rw [enqueue_of_kept (m := .notice (s.cmd.notices ||| 32#10))
          (s := pendingNotice .sealReadBad (emptySealLine s)) (queueFrame_replaces _ rfl hold hidle)]
        rfl
      · rw [enqueue_of_kept (m := .notice (s.cmd.notices ||| 32#10))
          (s := pendingNotice .sealReadBad (emptySealLine s)) (queueFrame_waits _ rfl hsend)]
        rfl

end Sys2Proof.Machine
end

section
/-! SUPPORT. O38: the frame that a CLAIM displaces from a full queue (R162), and a good line at CR, by the batch state
(R130, R132, R135). -/

namespace Sys2Proof.Machine

/-! ### The displaced frame -/

/-- The class and place that `victim` carries along the queue (R162). -/
def leastUrgent (c : Nat) (q : List TxFrame) : Option (Nat × Nat) :=
  q.zipIdx.foldl
    (fun (best : Option (Nat × Nat)) (x : TxFrame × Nat) =>
      if !x.1.sending && decide (c < x.1.msg.cls) && best.all (fun b => decide (b.1 ≤ x.1.msg.cls)) then
        some (x.1.msg.cls, x.2)
      else best)
    none

theorem victim_eq (c : Nat) (q : List TxFrame) : victim c q = (leastUrgent c q).map Prod.snd := rfl

theorem leastUrgent_append (c : Nat) (q : List TxFrame) (f : TxFrame) : leastUrgent c (q ++ [f]) =
    if !f.sending && decide (c < f.msg.cls) && (leastUrgent c q).all (fun b => decide (b.1 ≤ f.msg.cls)) then
      some (f.msg.cls, q.length)
    else leastUrgent c q := by
  unfold leastUrgent
  rw [List.zipIdx_append, List.foldl_append, Nat.zero_add]
  rfl

/-- The index names, of the frames not under attempt, the last of the least urgent class. -/
structure LastOfGreatest (q : List TxFrame) (k i : Nat) : Prop where
  found : ∃ f, q[i]? = some f ∧ f.sending = false ∧ f.msg.cls = k
  last : ∀ l f, q[l]? = some f → f.sending = false → f.msg.cls ≤ k ∧ (f.msg.cls = k → l ≤ i)

theorem LastOfGreatest.lt {q : List TxFrame} {k i : Nat} (h : LastOfGreatest q k i) : i < q.length := by
  obtain ⟨f, hf, -⟩ := h.found
  exact (List.getElem?_eq_some_iff.1 hf).1

/-- The frames of a queue with one more are those before it, and that one at the end. -/
theorem getElem?_append_singleton {q : List TxFrame} {f g : TxFrame} {l : Nat} (h : (q ++ [f])[l]? = some g) :
    q[l]? = some g ∨ (l = q.length ∧ g = f) := by
  rcases Nat.lt_or_ge l q.length with hl | hl
  · exact .inl (by rwa [List.getElem?_append_left hl] at h)
  · rw [List.getElem?_append_right hl, List.getElem?_singleton] at h
    split at h
    · exact .inr ⟨by omega, (Option.some.inj h).symm⟩
    · cases h

theorem LastOfGreatest.append_stays {q : List TxFrame} {k i : Nat} {f : TxFrame} (h : LastOfGreatest q k i)
    (hf : f.sending = false → f.msg.cls < k) : LastOfGreatest (q ++ [f]) k i := by
  refine ⟨?_, fun l g hg hidle => ?_⟩
  · rw [List.getElem?_append_left h.lt]
    exact h.found
  · rcases getElem?_append_singleton hg with hg | ⟨-, rfl⟩
    · exact h.last l g hg hidle
    · exact ⟨(hf hidle).le, fun hk => absurd (hf hidle) hk.not_lt⟩

theorem lastOfGreatest_append_new {q : List TxFrame} {f : TxFrame} (hidle : f.sending = false)
    (h : ∀ g ∈ q, g.sending = false → g.msg.cls ≤ f.msg.cls) : LastOfGreatest (q ++ [f]) f.msg.cls q.length := by
  refine ⟨⟨f, by simp, hidle, rfl⟩, fun l g hg hgidle => ?_⟩
  rcases getElem?_append_singleton hg with hg | ⟨rfl, rfl⟩
  · exact ⟨h g (List.mem_of_getElem? hg) hgidle, fun _ => (List.getElem?_eq_some_iff.1 hg).1.le⟩
  · exact ⟨le_rfl, fun _ => le_rfl⟩

/-- A queue has no frame to displace, or the last of the least urgent class among those not under attempt (R162). -/
theorem leastUrgent_spec (c : Nat) (q : List TxFrame) :
    (leastUrgent c q = none ∧ ∀ f ∈ q, f.sending = false → f.msg.cls ≤ c) ∨
    ∃ k i, leastUrgent c q = some (k, i) ∧ c < k ∧ LastOfGreatest q k i := by
  induction q using List.reverseRecOn with
  | nil => exact .inl ⟨rfl, by simp⟩
  | append_singleton q f ih =>
    rw [leastUrgent_append]
    rcases ih with ⟨hnone, hall⟩ | ⟨k, i, hsome, hck, hlast⟩
    · rw [hnone, Option.all_none, Bool.and_true]
      split
      · next h =>
        simp only [Bool.and_eq_true, Bool.not_eq_true', decide_eq_true_eq] at h
        obtain ⟨hidle, hcls⟩ := h
        exact .inr ⟨_, _, rfl, hcls,
          lastOfGreatest_append_new hidle fun g hg hgidle => (hall g hg hgidle).trans hcls.le⟩
      · next h =>
        simp only [Bool.and_eq_true, Bool.not_eq_true', decide_eq_true_eq, not_and, Nat.not_lt] at h
        refine .inl ⟨rfl, fun g hg hgidle => ?_⟩
        rcases List.mem_append.1 hg with hg | hg
        · exact hall g hg hgidle
        · obtain rfl := List.mem_singleton.1 hg
          exact h hgidle
    · rw [hsome, Option.all_some]
      split
      · next h =>
        simp only [Bool.and_eq_true, Bool.not_eq_true', decide_eq_true_eq] at h
        obtain ⟨⟨hidle, hcls⟩, hk⟩ := h
        refine .inr ⟨_, _, rfl, hcls, lastOfGreatest_append_new hidle fun g hg hgidle => ?_⟩
        obtain ⟨l, hl⟩ := List.mem_iff_getElem?.1 hg
        exact (hlast.last l g hl hgidle).1.trans hk
      · next h =>
        simp only [Bool.and_eq_true, Bool.not_eq_true', decide_eq_true_eq, not_and, Nat.not_le] at h
        refine .inr ⟨k, i, rfl, hck, hlast.append_stays fun hidle => ?_⟩
        by_cases hcls : c < f.msg.cls
        · exact h ⟨hidle, hcls⟩
        · omega

/-- The last frame of the least urgent class is the one displaced (R162). -/
theorem victim_of_last {c j : Nat} {q : List TxFrame} {g : TxFrame} (hg : q[j]? = some g) (hidle : g.sending = false)
    (hcls : c < g.msg.cls)
    (hlast : ∀ l f, q[l]? = some f → f.sending = false → f.msg.cls ≤ g.msg.cls ∧ (f.msg.cls = g.msg.cls → l ≤ j)) :
    victim c q = some j := by
  rw [victim_eq]
  rcases leastUrgent_spec c q with ⟨-, hall⟩ | ⟨k, i, hsome, -, hgreatest⟩
  · exact absurd (hall g (List.mem_of_getElem? hg) hidle) (Nat.not_le_of_lt hcls)
  · obtain ⟨f, hf, hfidle, hfk⟩ := hgreatest.found
    have hgk : g.msg.cls = k := Nat.le_antisymm (hgreatest.last j g hg hidle).1 (hfk ▸ (hlast i f hf hfidle).1)
    have hij : i = j :=
      Nat.le_antisymm ((hlast i f hf hfidle).2 (hfk.trans hgk.symm)) ((hgreatest.last j g hg hidle).2 hgk)
    rw [hsome, hij]
    rfl

theorem victim_none_of_idle {c : Nat} {q : List TxFrame} (h : ∀ f ∈ q, f.sending = true ∨ f.msg.cls ≤ c) :
    victim c q = none := by
  rw [victim_eq]
  rcases leastUrgent_spec c q with ⟨hnone, -⟩ | ⟨k, i, -, hck, hgreatest⟩
  · rw [hnone]
    rfl
  · obtain ⟨f, hf, hidle, rfl⟩ := hgreatest.found
    rcases h f (List.mem_of_getElem? hf) with hsend | hle
    · exact absurd (hsend.symm.trans hidle) (by decide)
    · exact absurd hle (Nat.not_le_of_lt hck)

/-! ### A CLAIM in a full queue -/

section Full

variable {m : TxMsg} {s : State}

/-- A frame that does not coalesce displaces the one that gives way in a full queue (R162, log 36). -/
theorem enqueue_displaces {j : Nat} {g : TxFrame} (hm : coalesces m.kind = false)
    (hfull : Config.queueCapacity ≤ s.line.queue.length) (hv : victim m.cls s.line.queue = some j)
    (hg : s.line.queue[j]? = some g) : enqueue m s = frameLost g.msg { s with
      line := { s.line with queue := s.line.queue.eraseIdx j ++ [newFrame s.fe.now m] } } := by
  simp only [enqueue, queueFrame_new s.fe.now (m := m) (by simp [hm]), admitFrame, if_neg (Nat.not_lt.2 hfull), hv, hg,
    Option.map_some]

/-- Where no frame gives way it is dropped itself (R162). -/
theorem enqueue_dropped (hm : coalesces m.kind = false) (hfull : Config.queueCapacity ≤ s.line.queue.length)
    (hv : victim m.cls s.line.queue = none) : enqueue m s = frameLost m s := by
  simp only [enqueue, queueFrame_new s.fe.now (m := m) (by simp [hm]), admitFrame, if_neg (Nat.not_lt.2 hfull), hv]

/-- TX_DROPPED that is pending already, or whose mask bit is off, queues nothing (R162, R169). -/
theorem raiseTxDropped_quiet
    (h : hasNotice s.cmd.notices .txDropped = true ∨ hasNotice s.cmd.mask .txDropped = false) :
    raiseTxDropped s = pendingNotice .txDropped s := by
  by_cases hset : hasNotice s.cmd.notices .txDropped = true
  · rw [raiseTxDropped_of_pending hset, pendingNotice, withNotice_of_pending hset]
  · rw [raiseTxDropped, if_neg hset]
    exact if_neg (by simpa using h.resolve_left hset)

/-- The loss of a frame that is no CLAIM ends the series whose part it is, and nothing else (R162, R167). -/
theorem tellOwner_series (h : m.kind ≠ .claim) (s : State) : tellOwner m s = { s with
    cmd := { s.cmd with series := if LivePart m then none else s.cmd.series } } := by
  cases m with
  | claim => exact absurd rfl h
  | detail i n chunk live =>
    cases live with
    | false => rfl
    | true => rfl
  | _ => rfl

/-- The loss of the current CLAIM in CLAIMING abandons the claim and its number, and evaluates (R135). -/
theorem frameLost_claim {n : Nat} {number : Text} {c : OwnClaim} (hb : s.meter.batch = .claiming)
    (hc : s.sealUnit.current = some c) (hn : c.number = n) :
    (frameLost (.claim n number) s).sealUnit = { s.sealUnit with current := none } ∧
    (frameLost (.claim n number) s).meter.held = none ∧ Evaluated (frameLost (.claim n number) s) := by
  have htold : frameLost (.claim n number) s = abandonDropped (raiseTxDropped s) := by
    refine if_pos ?_
    rw [raiseTxDropped_meter, raiseTxDropped_sealUnit, hb, hc, Option.any_some, hn]
    simp
  rw [htold, abandonDropped, evaluateRecord_active rfl, raiseTxDropped_sealUnit]
  exact ⟨rfl, rfl, evaluated_of_eq rfl rfl⟩

end Full

/-! ### The line at CR -/

/-- The state in which a line has been taken from SEAL-IN (R129). -/
def lineTaken (s : State) : State := { s with sealRx := ⟨[], false, none, true⟩ }

/-- A good line ended by CR is delivered (R129, R130). -/
theorem exec_sealInCharacter_cr {rested : Bool} {s : State} (hp : s.phase = .running)
    (hready : s.sealRx.ready = true ∨ rested = true) (hbuffer : s.sealRx.buffer ≠ []) (hbad : s.sealRx.bad = false) :
    exec (.sealInCharacter (serialLevels 13) true rested) s = .next (deliverSeal s.sealRx.buffer (lineTaken s)) := by
  obtain ⟨hstart, hcode⟩ := serial_read 13
  rw [exec_sealInCharacter_taken hp hstart hready, hcode]
  refine congrArg Host.Outcome.next ((if_pos rfl).trans (if_pos ?_))
  have hlength : 1 ≤ s.sealRx.buffer.length := List.length_pos_iff.2 hbuffer
  simp [hbad, hlength]

/-- The state with a seal number held (R130). -/
def holding (number : Text) (s : State) : State := { s with meter := { s.meter with held := some number } }

section Delivered

variable {number : Text} {s : State}

theorem deliverSeal_discards (h : s.meter.batch = .claiming ∨ s.meter.batch = .pressing) :
    deliverSeal number s = s := by
  rcases h with h | h <;> simp only [deliverSeal, h]

theorem deliverSeal_awaiting (h : s.meter.batch = .awaitSeal) :
    deliverSeal number s = sealCheck number (holding number s) := by
  unfold deliverSeal
  rw [h]
  rfl

theorem deliverSeal_holds (hclaiming : s.meter.batch ≠ .claiming) (hpressing : s.meter.batch ≠ .pressing)
    (hawaiting : s.meter.batch ≠ .awaitSeal) : deliverSeal number s = holding number s := by
  unfold deliverSeal
  split
  · next h => exact absurd h hclaiming
  · next h => exact absurd h hpressing
  · next h => exact absurd h hawaiting
  all_goals rfl

end Delivered

/-- A number that is taken is not kept, and SEAL_REUSED is raised (R132). -/
theorem sealCheck_taken {number : Text} {s : State} (h : sealTaken number s = true) :
    (sealCheck number s).meter = { s.meter with held := none } ∧ (sealCheck number s).sealUnit = s.sealUnit ∧
    (sealCheck number s).sealRx = s.sealRx ∧ hasNotice (sealCheck number s).cmd.notices .sealReused = true := by
  have hcheck : sealCheck number s = { raiseNotice .sealReused s with
      meter := { (raiseNotice .sealReused s).meter with held := none } } := if_pos h
  obtain ⟨hmeter, hunit⟩ := raiseNotice_leaves .sealReused s
  rw [hcheck, hmeter]
  exact ⟨rfl, hunit, raiseNotice_sealRx _ _, raiseNotice_raises _ _⟩

/-- The state that claims the number of the line at CR, before its CLAIM is queued (R132). -/
def claimedAtCr (s : State) : State := numberClaimed s.sealRx.buffer (holding s.sealRx.buffer (lineTaken s))

/-- A number that is free is claimed, and its CLAIM queued (R132). -/
theorem deliverSeal_claims {s : State} (hb : s.meter.batch = .awaitSeal) (hfree : ¬ SealTaken s.sealRx.buffer s) :
    deliverSeal s.sealRx.buffer (lineTaken s) =
      enqueue (.claim (nextClaim s.sealUnit.claimNumber) s.sealRx.buffer) (claimedAtCr s) := by
  rw [deliverSeal_awaiting (by exact hb)]
  exact sealCheck_free fun htaken => hfree ((sealTaken_iff _ _).1 htaken)

/-- Settles O38: the line by the batch state, and in AWAIT_SEAL the entry of the CLAIM by the room in the queue. -/
theorem sealNumberIsTaken : Obligations.SealNumberIsTaken := by
  intro rested s hp hready hbuffer hbad
  dsimp only
  rw [exec_sealInCharacter_cr hp hready hbuffer hbad]
  refine ⟨fun hb => congrArg Host.Outcome.next (deliverSeal_discards (by exact hb)),
    fun hclaiming hpressing hawaiting => congrArg Host.Outcome.next
      (deliverSeal_holds (by exact hclaiming) (by exact hpressing) (by exact hawaiting)),
    fun hb htaken => ?_, fun hb hfree => ?_⟩
  · rw [deliverSeal_awaiting (by exact hb)]
    exact ⟨_, rfl, sealCheck_taken (s := holding s.sealRx.buffer (lineTaken s)) ((sealTaken_iff _ _).2 htaken)⟩
  · rw [deliverSeal_claims hb hfree]
    refine ⟨fun hroom => ?_, fun j g hfull hg hidle hcls hlast => ⟨_, rfl, ?_⟩, fun hfull hnone => ⟨_, rfl, ?_⟩⟩
    · rw [enqueue_room _ (claimedAtCr s) rfl hroom]
      rfl
    · rw [enqueue_displaces (m := .claim (nextClaim s.sealUnit.claimNumber) s.sealRx.buffer) (s := claimedAtCr s) rfl
        hfull (victim_of_last hg hidle hcls hlast) hg]
      refine ⟨frameLost_raises _ _, fun hquiet => ?_⟩
      have hkind : g.msg.kind ≠ .claim := fun hk => by simp [TxMsg.cls, hk, FrameKind.cls] at hcls
      rw [frameLost, raiseTxDropped_quiet (by exact hquiet), tellOwner_series hkind]
      rfl
    · rw [enqueue_dropped (m := .claim (nextClaim s.sealUnit.claimNumber) s.sealRx.buffer) (s := claimedAtCr s) rfl
        hfull (victim_none_of_idle fun f hf => (hnone f hf).imp_right Nat.le_of_eq)]
      obtain ⟨hunit, hheld, hevaluated⟩ := frameLost_claim (number := s.sealRx.buffer) (s := claimedAtCr s) rfl rfl rfl
      exact ⟨hunit, hheld, hevaluated, frameLost_raises _ _, fun _ hf => mem_frameLost (s := claimedAtCr s) hf⟩

end Sys2Proof.Machine
end

section
/-! SUPPORT. The transmit queue stays within 8 frames, one STATUS and one NOTICE: queuing keeps it so, making room for a
JOIN does, and every other operation leaves the queue or takes frames out of it (R160 to R162). -/

namespace Sys2Proof.Machine

/-! ### Queues by the kinds they hold -/

/-- The kinds of the queued frames, in order. -/
def kindsOf (q : List TxFrame) : List FrameKind := q.map fun f => f.msg.kind

/-- What O57 says of a queue. -/
def QueueWithin (q : List TxFrame) : Prop :=
  q.length ≤ Config.queueCapacity ∧ queuedOf .status q ≤ 1 ∧ queuedOf .notice q ≤ 1

theorem queuedOf_eq_count (k : FrameKind) (q : List TxFrame) : queuedOf k q = (kindsOf q).count k := by
  unfold queuedOf kindsOf List.count
  rw [List.countP_map]
  rfl

/-- The bound speaks of the kinds alone. -/
theorem queueWithin_iff (q : List TxFrame) : QueueWithin q ↔
    (kindsOf q).length ≤ 8 ∧ (kindsOf q).count .status ≤ 1 ∧ (kindsOf q).count .notice ≤ 1 := by
  unfold QueueWithin
  rw [queuedOf_eq_count, queuedOf_eq_count, kindsOf, List.length_map]
  rfl

/-- Frames that leave, and updates that keep the kinds, keep the bound. -/
theorem QueueWithin.of_sublist {q r : List TxFrame} (h : QueueWithin q) (hs : (kindsOf r).Sublist (kindsOf q)) :
    QueueWithin r := by
  rw [queueWithin_iff] at h ⊢
  obtain ⟨hlength, hstatus, hnotice⟩ := h
  exact ⟨hs.length_le.trans hlength, (hs.count_le _).trans hstatus, (hs.count_le _).trans hnotice⟩

theorem kindsOf_map {g : TxFrame → TxFrame} (h : ∀ f, (g f).msg.kind = f.msg.kind) (q : List TxFrame) :
    kindsOf (q.map g) = kindsOf q := by
  unfold kindsOf
  rw [List.map_map]
  exact List.map_congr_left fun f _ => h f

theorem QueueWithin.map {q : List TxFrame} {g : TxFrame → TxFrame} (h : QueueWithin q)
    (hg : ∀ f, (g f).msg.kind = f.msg.kind) : QueueWithin (q.map g) :=
  h.of_sublist (by rw [kindsOf_map hg q])

/-- Frames that leave, where the others keep their kinds. -/
theorem kindsOf_filterMap {g : TxFrame → Option TxFrame} (h : ∀ f f', g f = some f' → f'.msg.kind = f.msg.kind)
    (q : List TxFrame) : (kindsOf (q.filterMap g)).Sublist (kindsOf q) := by
  induction q with
  | nil => exact .slnil
  | cons f q ih =>
    rw [List.filterMap_cons]
    split
    · exact ih.cons _
    · next f' hf =>
      have hcons : kindsOf (f' :: q.filterMap g) = f.msg.kind :: kindsOf (q.filterMap g) :=
        congrArg (· :: _) (h f f' hf)
      rw [hcons]
      exact ih.cons_cons _

/-- A frame enters where there is room and, if its kind coalesces, none of its kind is queued. -/
theorem QueueWithin.append {q : List TxFrame} {f : TxFrame} (h : QueueWithin q) (hroom : q.length < 8)
    (hnew : coalesces f.msg.kind = true → f.msg.kind ∉ kindsOf q) : QueueWithin (q ++ [f]) := by
  rw [queueWithin_iff] at h ⊢
  obtain ⟨-, hstatus, hnotice⟩ := h
  have hcount {k : FrameKind} (hk : coalesces k = true) (hle : (kindsOf q).count k ≤ 1) :
      (kindsOf q ++ [f.msg.kind]).count k ≤ 1 := by
    rw [List.count_append, List.count_singleton]
    split
    · next heq =>
      obtain rfl := beq_iff_eq.1 heq
      rw [List.count_eq_zero.2 (hnew hk)]
    · exact hle
  have happend : kindsOf (q ++ [f]) = kindsOf q ++ [f.msg.kind] := List.map_append
  rw [happend, List.length_append, kindsOf, List.length_map]
  exact ⟨hroom, hcount rfl hstatus, hcount rfl hnotice⟩

/-! ### Queuing -/

/-- A frame admitted into a full queue displaces one, so that the bound is kept (R162). -/
theorem admitFrame_within {now : Stamp} {m : TxMsg} {l : LineController} (h : QueueWithin l.queue)
    (hnew : coalesces m.kind = true → m.kind ∉ kindsOf l.queue) : QueueWithin (admitFrame now m l).1.queue := by
  unfold admitFrame
  split
  · next hroom => exact h.append hroom hnew
  · split
    · next i hvictim =>
      obtain ⟨f, hf, -⟩ := victim_cls hvictim
      have hsub : (kindsOf (l.queue.eraseIdx i)).Sublist (kindsOf l.queue) := (List.eraseIdx_sublist _ _).map _
      refine (h.of_sublist hsub).append ?_ fun hc hmem => hnew hc (hsub.subset hmem)
      have hlength : l.queue.length ≤ 8 := h.1
      rw [List.length_eraseIdx, if_pos (List.getElem?_eq_some_iff.1 hf).1]
      have := (List.getElem?_eq_some_iff.1 hf).1
      omega
    · exact h

/-- Queuing keeps the bound: a frame of a kind that coalesces takes the place of the queued one (R161). -/
theorem queueFrame_within {now : Stamp} {m : TxMsg} {l : LineController} (h : QueueWithin l.queue) :
    QueueWithin (queueFrame now m l).1.queue := by
  by_cases hold : coalesces m.kind = true ∧ m.kind ∈ kindsOf l.queue
  · obtain ⟨hc, hmem⟩ := hold
    have hqueued : ∃ f ∈ l.queue, f.msg.kind = m.kind := List.mem_map.1 hmem
    by_cases hsend : ∃ f ∈ l.queue, f.msg.kind = m.kind ∧ f.sending = true
    · rw [queueFrame_waits now hc hsend]
      cases m <;> exact h
    · have hidle : ∀ f ∈ l.queue, f.msg.kind = m.kind → f.sending = false := fun f hf hk =>
        Bool.eq_false_iff.2 fun hs => hsend ⟨f, hf, hk, hs⟩
      rw [queueFrame_replaces now hc hqueued hidle]
      refine h.map fun f => ?_
      split
      · next hk => exact hk.symm
      · rfl
  · have hnew : coalesces m.kind = true → m.kind ∉ kindsOf l.queue := fun hc hmem => hold ⟨hc, hmem⟩
    rw [queueFrame_new now fun hc f hf hk => hnew hc (List.mem_map.2 ⟨f, hf, hk⟩)]
    exact admitFrame_within h hnew

/-! ### What the blocks do to the line controller -/

/-- Line state, good-frame count and fault tally. -/
def lineStanding (l : LineController) : LineState × Nat × Nat := (l.state, l.goodFrames, l.faultTally)

/-- What O57 says of a step, of the queue after it and the queue before. -/
def QueueKept (q' q : List TxFrame) : Prop := QueueWithin q → QueueWithin q'

namespace QueueKept

theorem refl (q : List TxFrame) : QueueKept q q := id

theorem trans {q₂ q₁ q : List TxFrame} (h : QueueKept q₂ q₁) (k : QueueKept q₁ q) : QueueKept q₂ q := h ∘ k

end QueueKept

/-- What the blocks other than the line controller do to it: they queue frames and take them out, so that its queue stays
within its bound, and leave the line state with its counts. -/
structure LineFollows (l' l : LineController) : Prop where
  within : QueueKept l'.queue l.queue
  standing : lineStanding l' = lineStanding l

namespace LineFollows

theorem refl (l : LineController) : LineFollows l l := ⟨id, rfl⟩

theorem trans {l₂ l₁ l : LineController} (h : LineFollows l₂ l₁) (k : LineFollows l₁ l) : LineFollows l₂ l :=
  ⟨h.within.trans k.within, h.standing.trans k.standing⟩

end LineFollows

theorem queueFrame_follows (now : Stamp) (m : TxMsg) (l : LineController) : LineFollows (queueFrame now m l).1 l :=
  ⟨queueFrame_within, by rw [queueFrame_line]; rfl⟩

theorem raiseTxDropped_follows (s : State) : LineFollows (raiseTxDropped s).line s.line := by
  rcases raiseTxDropped_line s with heq | ⟨set, heq⟩ <;> rw [heq]
  · exact .refl _
  · exact queueFrame_follows _ _ _

theorem frameLost_follows (m : TxMsg) (s : State) : LineFollows (frameLost m s).line s.line := by
  rw [frameLost, tellOwner_line]
  exact raiseTxDropped_follows s

theorem enqueue_follows (m : TxMsg) (s : State) : LineFollows (enqueue m s).line s.line := by
  rcases enqueue_cases m s with heq | ⟨lost, -, heq⟩ <;> rw [heq]
  · exact queueFrame_follows _ _ _
  · exact (frameLost_follows lost _).trans (queueFrame_follows _ _ _)

theorem raiseNotice_follows (n : Notice) (s : State) : LineFollows (raiseNotice n s).line s.line := by
  rcases raiseNotice_cases n s with heq | ⟨set, heq | heq⟩ <;> rw [heq]
  · exact .refl _
  · exact .refl _
  · exact enqueue_follows _ _

theorem makeRoom_follows (s : State) : LineFollows (makeRoom s).line s.line := by
  have hlast : LineFollows { s.line with queue := s.line.queue.dropLast } s.line :=
    ⟨fun h => h.of_sublist ((List.dropLast_sublist _).map _), rfl⟩
  unfold makeRoom
  split
  · split
    · exact .refl _
    · exact (frameLost_follows _ _).trans hlast
  · exact .refl _

/-- Room is made for a JOIN before it enters (R160). -/
theorem queueJoin_follows (c : JoinCause) (s : State) : LineFollows (queueJoin c s).line s.line := by
  have hkeeps := queueJoin_keeps c s
  refine ⟨fun h => ?_, by simp only [lineStanding, hkeeps.state, hkeeps.goodFrames, hkeeps.faultTally]⟩
  have hroomy : QueueWithin (makeRoom (makeRoom s)).line.queue :=
    ((makeRoom_follows _).trans (makeRoom_follows s)).within h
  have hroom : (makeRoom (makeRoom s)).line.queue.length < 8 := by
    rcases Nat.lt_or_ge s.line.queue.length Config.queueCapacity with hlt | hge
    · rw [makeRoom_of_room hlt, makeRoom_of_room hlt]
      exact hlt
    · exact (makeRoom_twice (Nat.le_antisymm h.1 hge)).2.1
  exact hroomy.append hroom fun hc => Bool.noConfusion hc

theorem releaseWaiting_follows (s : State) : LineFollows (releaseWaiting s).line s.line := by
  have hnotice : LineFollows (noticeEntered s).line s.line := by
    unfold noticeEntered
    split
    · exact (enqueue_follows _ _).trans ⟨id, rfl⟩
    · exact ⟨id, rfl⟩
  rw [releaseWaiting_eq]
  split
  · exact (enqueue_follows _ _).trans hnotice
  · exact hnotice

theorem requeueOwed_follows (s : State) : LineFollows (requeueOwed s).line s.line := by
  rcases requeueOwed_cases s with heq | ⟨n, r, heq⟩ <;> rw [heq]
  · exact .refl _
  · exact enqueue_follows _ _

/-! ### The meter record and the seal unit -/

theorem evaluateRecord_follows (s : State) : LineFollows (evaluateRecord s).line s.line := by
  rw [evaluateRecord_eq]
  exact .refl _

theorem checkHeld_follows (s : State) : LineFollows (checkHeld s).line s.line := by
  rcases checkHeld_cases s with heq | heq | ⟨n, number, heq⟩ <;> rw [heq]
  · exact .refl _
  · exact raiseNotice_follows .sealReused s
  · exact enqueue_follows _ (numberClaimed number s)

theorem evaluate_follows (s : State) : LineFollows (evaluate s).line s.line := by
  unfold evaluate
  dsimp only
  split
  · exact (checkHeld_follows _).trans (evaluateRecord_follows s)
  · exact evaluateRecord_follows s

theorem returnToAwaitSeal_follows (s : State) : LineFollows (returnToAwaitSeal s).line s.line :=
  (checkHeld_follows _).trans (evaluateRecord_follows _)

theorem queueRelease_follows (n : Nat) (r : ReleaseReason) (s : State) :
    LineFollows (queueRelease n r s).line s.line := enqueue_follows _ _

theorem sealCheck_follows (number : Text) (s : State) : LineFollows (sealCheck number s).line s.line := by
  unfold sealCheck
  split
  · exact raiseNotice_follows .sealReused s
  · exact enqueue_follows _ _

theorem abandonReused_follows (c : OwnClaim) (s : State) : LineFollows (abandonReused c s).line s.line :=
  (returnToAwaitSeal_follows _).trans
    ((raiseNotice_follows .sealReused _).trans (queueRelease_follows c.number .abandoned s))

theorem abandonOffLine_follows (s : State) : LineFollows (abandonOffLine s).line s.line := by
  unfold abandonOffLine
  split
  · exact returnToAwaitSeal_follows _
  · exact .refl _

theorem withdrawClaim_follows (s : State) : LineFollows (withdrawClaim s).line s.line := by
  unfold withdrawClaim
  split
  · next c _ _ => exact queueRelease_follows c.number .abandoned s
  · exact .refl _

theorem grantTest_follows (s : State) : LineFollows (grantTest s).line s.line := by
  have hgrant (c : OwnClaim) : LineFollows (grant c s).line s.line := by
    unfold grant
    split
    · exact (queueRelease_follows c.number .fault _).trans (raiseNotice_follows .pressFault s)
    · exact .refl _
  unfold grantTest
  split
  · split
    · exact hgrant _
    · exact .refl _
  · exact .refl _

theorem examineAndGrant_follows (s : State) : LineFollows (examineAndGrant s).line s.line := by
  unfold examineAndGrant
  split
  · split
    · split
      · exact abandonReused_follows _ s
      · exact grantTest_follows s
    · exact .refl _
  · exact .refl _

theorem takeClaim_follows (k n : Nat) (number : Text) (s : State) :
    LineFollows (takeClaim k n number s).line s.line := by
  unfold takeClaim
  split
  · exact .refl _
  · exact examineAndGrant_follows _

theorem takeRelease_follows (k n : Nat) (s : State) : LineFollows (takeRelease k n s).line s.line := by
  unfold takeRelease
  split
  · exact grantTest_follows _
  · exact .refl _

theorem removeClaims_follows (ks : List Nat) (s : State) : LineFollows (removeClaims ks s).line s.line := by
  unfold removeClaims
  split
  · exact grantTest_follows _
  · exact .refl _

theorem takeSealed_follows (number : Text) (s : State) : LineFollows (takeSealed number s).line s.line := by
  unfold takeSealed
  split
  · dsimp only
    split
    · split
      · split
        · exact abandonReused_follows _ _
        · exact raiseNotice_follows .sealReused _
        · exact .refl _
      · exact .refl _
    · exact .refl _
  · exact .refl _

theorem ownClaimSent_follows (n : Nat) (s : State) : LineFollows (ownClaimSent n s).line s.line := by
  unfold ownClaimSent
  split
  · split
    · exact examineAndGrant_follows _
    · exact .refl _
  · exact .refl _

theorem completeStroke_follows (c : OwnClaim) (s : State) : LineFollows (completeStroke c s).line s.line :=
  (enqueue_follows (.sealed c.sealNo) _).trans (queueRelease_follows c.number .done _)

theorem failStroke_follows (c : OwnClaim) (s : State) : LineFollows (failStroke c s).line s.line :=
  (queueRelease_follows c.number .fault _).trans (raiseNotice_follows .pressFault (releasePress s))

theorem deliverSeal_follows (number : Text) (s : State) : LineFollows (deliverSeal number s).line s.line := by
  unfold deliverSeal
  split
  case h_3 => exact sealCheck_follows _ _
  all_goals exact .refl _

theorem takeSealChar_follows (code : Byte) (framingError : Bool) (s : State) :
    LineFollows (takeSealChar code framingError s).line s.line := by
  unfold takeSealChar endSealLine
  split
  · dsimp only
    split
    · exact deliverSeal_follows _ (emptySealLine s)
    · exact raiseNotice_follows .sealReadBad (emptySealLine s)
  · exact .refl _

/-! ### Point runs -/

theorem queueProgress_follows (p r : Nat) (v : Progress) (s : State) :
    LineFollows (queueProgress p r v s).line s.line := enqueue_follows _ s

theorem reportProgress_follows (x : Run) (v : Progress) (s : State) :
    LineFollows (reportProgress x v s).line s.line := queueProgress_follows _ _ _ _

theorem closeRun_follows (c : CloseCause) (s : State) : LineFollows (closeRun c s).line s.line := by
  cases hx : s.run.run with
  | none =>
    rw [closeRun_none hx]
    exact .refl _
  | some x =>
    rw [closeRun_eq hx]
    refine (evaluate_follows _).trans ?_
    unfold closeAnnounced
    rw [runRemoved_eq]
    dsimp only
    split
    · exact (enqueue_follows _ _).trans (enqueue_follows _ _)
    · exact enqueue_follows _ _

theorem completionTest_follows (s : State) : LineFollows (completionTest s).line s.line := by
  unfold completionTest
  split
  · split
    · exact closeRun_follows _ s
    · exact .refl _
  · exact .refl _

theorem discardRun_follows (s : State) : LineFollows (discardRun s).line s.line := by
  have hdisarm (t : State) : (disarm t).line = t.line := by
    unfold disarm
    split <;> rfl
  unfold discardRun
  split
  · exact .refl _
  · dsimp only
    refine (queueProgress_follows _ _ _ _).trans ?_
    split
    · rw [hdisarm]
      exact .refl _
    · exact .refl _

theorem settlementTest_follows (s : State) : LineFollows (settlementTest s).line s.line := by
  unfold settlementTest
  split
  · exact .refl _
  · split
    · exact (completionTest_follows _).trans (reportProgress_follows _ _ s)
    · exact reportProgress_follows _ _ s
    · exact .refl _

/-- A result that is kept is offered as a MEASUREMENT under streaming, and settlement follows (R60, R62, R63). -/
theorem keepAndSettle_follows (x : Run) (e : KeptEntry) (s : State) : LineFollows
    (settlementTest (if s.cmd.setup.streaming then offerMeasurement x e s else setRun x s)).line s.line := by
  refine (settlementTest_follows _).trans ?_
  unfold offerMeasurement
  split
  · split
    · exact .refl _
    · exact enqueue_follows _ (setRun x s)
  · exact .refl _

theorem takeResult_follows (q : GateResult) (s : State) : LineFollows (takeResult q s).line s.line := by
  unfold takeResult
  split
  · exact .refl _
  · split
    · split
      · exact .refl _
      · exact keepAndSettle_follows _ _ s
      · exact keepAndSettle_follows _ _ s
      all_goals exact .refl _
    · exact .refl _

theorem evaluateGate_follows (s : State) : LineFollows (evaluateGate s).line s.line := by
  unfold evaluateGate
  split
  · exact takeResult_follows _ _
  · exact .refl _

theorem takeMarker_follows (m : Marker) (void : Bool) (s : State) : LineFollows (takeMarker m void s).line s.line := by
  unfold takeMarker
  split
  · exact .refl _
  · exact .refl _
  · split
    · exact .refl _
    · split
      · exact .refl _
      · dsimp only
        split
        · exact .refl _
        · split
          · exact .refl _
          · exact evaluateGate_follows _

theorem countPulse_follows (t : Stamp) (s : State) : LineFollows (countPulse t s).line s.line := by
  unfold countPulse
  split
  · exact .refl _
  · split
    · dsimp only
      split
      · exact (completionTest_follows _).trans (reportProgress_follows _ _ (restoreGrace s))
      · exact .refl _
    · exact .refl _

theorem openRun_follows (p r : Nat) (e : PlanEntry) (s : State) : LineFollows (openRun p r e s).line s.line := by
  have hbegin : (beginRun p r e s).line = s.line := by rw [beginRun_eq]
  have hannounce (t : State) : LineFollows (announceRun e t).line t.line := by
    unfold announceRun
    split
    · exact .refl _
    · dsimp only
      split
      · exact (reportProgress_follows _ _ _).trans (reportProgress_follows _ _ t)
      · exact reportProgress_follows _ _ t
  unfold openRun
  rw [← hbegin]
  split
  · exact hannounce _
  · exact closeRun_follows _ _

theorem openOrDecline_follows (p r : Nat) (s : State) : LineFollows (openOrDecline p r s).line s.line := by
  rcases openOrDecline_cases p r s with heq | heq | ⟨e, heq⟩ <;> rw [heq]
  · exact .refl _
  · exact queueProgress_follows _ _ _ _
  · exact openRun_follows p r e s

theorem restateStanding_follows (p r : Nat) (s : State) : LineFollows (restateStanding p r s).line s.line := by
  unfold restateStanding
  split
  · exact .refl _
  · split
    · exact queueProgress_follows _ _ _ s
    · exact .refl _
  · split
    · exact .refl _
    · split
      · exact enqueue_follows _ s
      · exact .refl _
  · exact queueProgress_follows _ _ _ s

/-! ### Pulse inputs -/

theorem refEdge_follows (s : State) : LineFollows (refEdge s).line s.line := by
  unfold refEdge
  split
  · exact .refl _
  · exact raiseNotice_follows _ _

theorem qualify_follows (x : PendingEdge) (s : State) : LineFollows (qualify x s).line s.line := by
  rw [qualify_eq_takeMarker]
  exact (countPulse_follows _ _).trans (takeMarker_follows _ _ (markerFormed x s))

theorem mutRise_follows (s : State) : LineFollows (mutRise s).line s.line := by
  unfold mutRise
  split
  · split
    · exact qualify_follows _ s
    · exact .refl _
  · exact .refl _

theorem mutFall_follows (s : State) : LineFollows (mutFall s).line s.line := by
  unfold mutFall
  split
  · split
    · exact .refl _
    · exact qualify_follows _ s
  · exact .refl _

theorem widthExpiry_follows (s : State) : LineFollows (widthExpiry s).line s.line := by
  unfold widthExpiry
  split
  · split
    · exact qualify_follows _ s
    · exact .refl _
  · exact .refl _

theorem graceExpires_follows (s : State) : LineFollows (graceExpires s).line s.line := closeRun_follows _ _

theorem presentFalls_follows (s : State) : LineFollows (presentFalls s).line s.line := by
  have hscanner (t : State) : (scannerLoss t).line = t.line := by
    unfold scannerLoss
    split <;> rfl
  have hloss (fe : FrontEnd) :
      LineFollows (scannerLoss (raiseNotice .scannerAbsent { s with fe := fe })).line s.line := by
    rw [hscanner]
    exact raiseNotice_follows _ _
  unfold presentFalls
  dsimp only
  split
  · exact (graceExpires_follows _).trans (hloss _)
  · exact hloss _

/-! ### The plan and the cross-check -/

theorem copyEntries_follows (ps : List Nat) (s : State) : LineFollows (copyEntries ps s).line s.line := by
  unfold copyEntries
  dsimp only
  split
  · exact .refl _
  · exact evaluate_follows _

theorem makeReady_follows (ps : List Nat) (s : State) : LineFollows (makeReady ps s).line s.line := by
  unfold makeReady
  split
  · exact copyEntries_follows ps s
  · exact .refl _

theorem markChanged_follows (ps : List Nat) (s : State) : LineFollows (markChanged ps s).line s.line := by
  unfold markChanged
  split
  · exact .refl _
  · exact makeReady_follows ps s

theorem stageEntry_follows (p : Nat) (e : PlanEntry) (s : State) : LineFollows (stageEntry p e s).line s.line := by
  unfold stageEntry
  split
  · exact .refl _
  · exact markChanged_follows _ _

theorem loadSettled_follows (p r : Nat) (s : State) : LineFollows (loadSettled p r s).line s.line :=
  (openOrDecline_follows p r _).trans ((copyEntries_follows _ _).trans (closeRun_follows .forced s))

theorem loadOff_follows (s : State) : LineFollows (loadOff s).line s.line :=
  (copyEntries_follows _ _).trans (closeRun_follows .forced s)

/-- A judgment raises a notice at most (R126). -/
theorem judge_follows (s : State) : LineFollows (judge s).line s.line := by
  have hsuspect (b : Bool) (t : State) : LineFollows (setSuspect b t).line t.line := by
    unfold setSuspect
    dsimp only
    split
    · exact raiseNotice_follows _ _
    · split <;> exact .refl _
  unfold judge
  split
  · split
    · exact .refl _
    · exact hsuspect _ _
  · exact .refl _

theorem earlyJudgment_follows (s : State) : LineFollows (earlyJudgment s).line s.line := by
  unfold earlyJudgment
  split
  · split
    · exact judge_follows s
    · exact .refl _
  · exact .refl _

theorem formTally_follows (n : BitVec 16) (l : Latch) (s : State) : LineFollows (formTally n l s).line s.line :=
  (earlyJudgment_follows _).trans (enqueue_follows _ _)

theorem takeSync_follows (n : BitVec 16) (s : State) : LineFollows (takeSync n s).line s.line := by
  unfold takeSync
  split
  · exact .refl _
  · split
    · exact .refl _
    · split
      · exact (formTally_follows _ _ _).trans (judge_follows s)
      · exact judge_follows s

theorem takeTally_follows (k : Nat) (w : BitVec 16) (n : Nat) (s : State) :
    LineFollows (takeTally k w n s).line s.line := by
  unfold takeTally
  split
  · split
    · exact .refl _
    · exact earlyJudgment_follows _
  · exact .refl _

/-! ### Console commands -/

section Commands

variable (bs : List Byte) (s : State)

theorem setupCommand_follows : LineFollows (setupCommand bs s).1.line s.line := by
  unfold setupCommand
  split
  · exact .refl _
  · split <;> exact .refl _

theorem setMeterCommand_follows : LineFollows (setMeterCommand bs s).1.line s.line := by
  unfold setMeterCommand
  split
  · exact .refl _
  · split
    · exact .refl _
    · split <;> exact .refl _

theorem planPointCommand_follows : LineFollows (planPointCommand bs s).1.line s.line := by
  unfold planPointCommand
  split
  · exact .refl _
  · split
    · exact .refl _
    · split
      · exact .refl _
      · exact stageEntry_follows _ _ s

theorem planLimitsCommand_follows : LineFollows (planLimitsCommand bs s).1.line s.line := by
  unfold planLimitsCommand
  split
  · exact .refl _
  · split
    · exact .refl _
    · split
      · exact .refl _
      · split
        · exact .refl _
        · split
          · exact .refl _
          · exact stageEntry_follows _ _ s

theorem planClearCommand_follows : LineFollows (planClearCommand bs s).1.line s.line := by
  unfold planClearCommand
  split
  · exact .refl _
  · split
    · split
      · exact .refl _
      · dsimp only
        split
        · exact .refl _
        · exact markChanged_follows _ _
    · exact .refl _

theorem planHoldCommand_follows : LineFollows (planHoldCommand bs s).1.line s.line := by
  unfold planHoldCommand
  split <;> exact .refl _

theorem planReleaseCommand_follows : LineFollows (planReleaseCommand bs s).1.line s.line := by
  unfold planReleaseCommand
  split
  · split
    · dsimp only
      split
      · exact .refl _
      · exact makeReady_follows _ _
    · exact .refl _
  · exact .refl _

theorem takeAfter_follows (p value : Nat) : LineFollows (takeAfter p value s).1.line s.line := by
  unfold takeAfter
  split
  · exact .refl _
  · split
    · exact .refl _
    · exact (evaluate_follows _).trans ((restateStanding_follows _ _ _).trans (enqueue_follows _ _))

theorem readingCommand_follows : LineFollows (readingCommand bs s).1.line s.line := by
  unfold readingCommand
  split
  · exact .refl _
  · split
    · exact .refl _
    · split
      · exact .refl _
      · split
        · exact .refl _
        · split
          · exact takeAfter_follows s _ _
          · unfold takeBefore
            split <;> exact .refl _

theorem endBatchCommand_follows : LineFollows (endBatchCommand bs s).1.line s.line := by
  unfold endBatchCommand
  split
  · exact .refl _
  · split
    · exact .refl _
    · exact (discardRun_follows _).trans (withdrawClaim_follows s)

theorem retrySealCommand_follows : LineFollows (retrySealCommand bs s).1.line s.line := by
  unfold retrySealCommand
  split
  · exact .refl _
  · split
    · exact returnToAwaitSeal_follows s
    · exact .refl _

theorem clearNoticesCommand_follows : LineFollows (clearNoticesCommand bs s).1.line s.line := by
  unfold clearNoticesCommand
  split <;> exact .refl _

theorem noticeMaskCommand_follows : LineFollows (noticeMaskCommand bs s).1.line s.line := by
  unfold noticeMaskCommand
  split <;> exact .refl _

theorem reply_follows (k : FrameKind) (code : ReplyCode) : LineFollows (reply k code s).line s.line :=
  enqueue_follows _ s

/-- The answer of a command adds a queuing to the command (R163). -/
theorem command_follows {k : FrameKind} {dest : Nat} {f : State → State × ReplyCode} {s : State}
    (h : LineFollows (f s).1.line s.line) : LineFollows (command k dest f s).line s.line := by
  unfold command groupAnswer
  split
  · exact (reply_follows _ _ _).trans h
  · split
    · exact (raiseNotice_follows _ _).trans h
    · exact h
  · exact .refl _

/-- The part of a series that ends leaves the queue, or stays as a part that nothing follows (R168). -/
theorem endSeries_follows : LineFollows (endSeries s).line s.line := by
  refine ⟨fun h => h.of_sublist (kindsOf_filterMap (fun f f' hf => ?_) s.line.queue), rfl⟩
  split at hf
  · next part total content hmsg =>
    split at hf
    · rw [← Option.some.inj hf, hmsg]
      rfl
    · cases hf
  · rw [← Option.some.inj hf]

theorem takeQuery_follows (dest : Nat) : LineFollows (takeQuery dest bs s).line s.line := by
  unfold takeQuery
  split
  · split
    · dsimp only
      split
      · exact (enqueue_follows _ _).trans (endSeries_follows s)
      · exact (reply_follows _ _ _).trans (endSeries_follows s)
    · exact reply_follows s _ _
  all_goals exact .refl _

theorem takeRestart_follows (dest : Nat) : LineFollows (takeRestart dest bs s).line s.line := by
  unfold takeRestart
  split
  · split
    · exact ⟨id, rfl⟩
    · exact reply_follows s _ _
  all_goals exact .refl _

end Commands

/-! ### Frames of peers and aging -/

theorem rosterTakes_line (k : Nat) (f : RosterEntry → RosterEntry) (s : State) :
    (rosterTakes k f s).line = s.line := by
  unfold rosterTakes
  split <;> rfl

theorem rosterMarks_line (k : Nat) (s : State) : (rosterMarks k s).line = s.line := rosterTakes_line k id s

/-- A report updates the sender's entry, and the completion test follows (R107 to R109). -/
theorem report_follows (k : Nat) (f : RosterEntry → RosterEntry) (s : State) :
    LineFollows (completionTest (rosterTakes k f s)).line s.line := by
  conv => arg 2; rw [← rosterTakes_line k f s]
  exact completionTest_follows _

theorem rosterMarks_follows (k : Nat) (s : State) : LineFollows (rosterMarks k s).line s.line := by
  rw [rosterMarks_line]
  exact .refl _

theorem takeJoin_follows (k : Nat) (c : JoinCause) (b : BatchState) (s : State) :
    LineFollows (takeJoin k c b s).line s.line := by
  have hstatus (t : State) :
      LineFollows (if t.line.state = .onLine then enqueue (.status none) t else t).line t.line := by
    split
    · exact enqueue_follows _ t
    · exact .refl _
  have hclaim (t : State) : LineFollows (if c = .lineReturn then t else removeClaims [k] t).line t.line := by
    split
    · exact .refl _
    · exact removeClaims_follows _ t
  conv => arg 2; rw [← rosterTakes_line k (fun e => { e with batch := some b, progress := none }) s]
  exact (completionTest_follows _).trans ((hclaim _).trans (hstatus _))

theorem takeStatus_follows (k : Nat) (b : BatchState) (x : Option (Nat × Nat × Progress)) (s : State) :
    LineFollows (takeStatus k b x s).line s.line := by
  unfold takeStatus
  split
  · exact report_follows _ _ s
  · split
    · exact report_follows _ _ s
    · exact rosterMarks_follows _ s

theorem takeProgress_follows (k p r : Nat) (v : Progress) (b : BatchState) (s : State) :
    LineFollows (takeProgress k p r v b s).line s.line := by
  unfold takeProgress
  split
  · exact report_follows _ _ s
  · exact rosterMarks_follows _ s

theorem takePointResult_follows (k p r : Nat) (s : State) : LineFollows (takePointResult k p r s).line s.line := by
  unfold takePointResult
  split
  · exact report_follows _ _ s
  · exact rosterMarks_follows _ s

theorem ageRoster_follows (s : State) : LineFollows (ageRoster s).line s.line := by
  have hlost (b : Bool) (t : State) : LineFollows (if b then raiseNotice .peerLost t else t).line t.line := by
    cases b
    · exact .refl _
    · exact raiseNotice_follows _ t
  unfold ageRoster
  dsimp only
  split
  · exact .refl _
  · exact (completionTest_follows _).trans ((earlyJudgment_follows _).trans
      ((removeClaims_follows _ _).trans (hlost _ _)))

/-! ### Accepted frames -/

/-- What a frame delivered to its block does to the line controller (R155). -/
theorem deliver_follows (k : FrameKind) (h : Hdr) (bs : List Byte) (s : State) :
    LineFollows (deliver k h bs s).line s.line := by
  have hmarks := rosterMarks_follows h.sender.toNat s
  cases k
  case loadSettled => dsimp only [deliver]; split; exacts [loadSettled_follows _ _ s, .refl _]
  case loadChanging => exact closeRun_follows .forced s
  case loadOff => exact loadOff_follows s
  case sync => dsimp only [deliver]; split; exacts [takeSync_follows _ s, .refl _]
  case setup => exact command_follows (setupCommand_follows bs s)
  case setMeter => exact command_follows (setMeterCommand_follows bs s)
  case planPoint => exact command_follows (planPointCommand_follows bs s)
  case planLimits => exact command_follows (planLimitsCommand_follows bs s)
  case planClear => exact command_follows (planClearCommand_follows bs s)
  case planHold => exact command_follows (planHoldCommand_follows bs s)
  case planRelease => exact command_follows (planReleaseCommand_follows bs s)
  case reading => exact command_follows (readingCommand_follows bs s)
  case query => exact takeQuery_follows bs s _
  case endBatch => exact command_follows (endBatchCommand_follows bs s)
  case retrySeal => exact command_follows (retrySealCommand_follows bs s)
  case clearNotices => exact command_follows (clearNoticesCommand_follows bs s)
  case noticeMask => exact command_follows (noticeMaskCommand_follows bs s)
  case restart => exact takeRestart_follows bs s _
  case join => dsimp only [deliver]; split; exacts [takeJoin_follows _ _ _ s, .refl _]
  case status => dsimp only [deliver]; split; exacts [takeStatus_follows _ _ _ s, .refl _]
  case progress => dsimp only [deliver]; split; exacts [takeProgress_follows _ _ _ _ _ s, .refl _]
  case pointResult => dsimp only [deliver]; split; exacts [takePointResult_follows _ _ _ s, .refl _]
  case tally => dsimp only [deliver]; split; exacts [(takeTally_follows _ _ _ _).trans hmarks, .refl _]
  case claim => dsimp only [deliver]; split; exacts [(takeClaim_follows _ _ _ _).trans hmarks, .refl _]
  case release => dsimp only [deliver]; split; exacts [(takeRelease_follows _ _ _).trans hmarks, .refl _]
  case sealed => exact (takeSealed_follows bs _).trans hmarks
  case measurement | notice | reply | detail => exact hmarks

/-! ### The bench line -/

theorem emptied_kept (st : LineState) (s : State) : QueueKept (emptied st s).line.queue s.line.queue := fun h =>
  (h.of_sublist (List.filter_sublist.map _)).map fun _ => rfl

theorem emptyQueue_kept (st : LineState) (s : State) : QueueKept (emptyQueue st s).line.queue s.line.queue := by
  rcases emptyQueue_cases st s with ⟨heq, -⟩ | heq <;> rw [heq]
  · exact emptied_kept st s
  · exact (raiseTxDropped_follows _).within.trans (emptied_kept st s)

theorem enterLineOff_kept (s : State) : QueueKept (enterLineOff s).line.queue s.line.queue :=
  (abandonOffLine_follows _).within.trans (emptyQueue_kept _ _)

theorem enterMuted_kept (s : State) : QueueKept (enterMuted s).line.queue s.line.queue := by
  unfold enterMuted
  split
  · exact .refl _
  · exact ((abandonOffLine_follows _).trans (raiseNotice_follows _ _)).within.trans (emptyQueue_kept _ _)

theorem lineReturned_kept (s : State) : QueueKept (lineReturned s).line.queue s.line.queue := fun h => h.map fun _ => rfl

theorem returnOnLine_kept (s : State) : QueueKept (returnOnLine s).line.queue s.line.queue :=
  (requeueOwed_follows (joined s)).within.trans
    ((queueJoin_follows .lineReturn (lineReturned s)).within.trans (lineReturned_kept s))

theorem countGood_kept (s : State) : QueueKept (countGood s).line.queue s.line.queue := by
  unfold countGood
  split
  · split
    · exact returnOnLine_kept s
    · exact .refl _
  · exact .refl _

theorem filtered_kept (f : RxFrame) (s : State) : QueueKept (filtered f s).line.queue s.line.queue := by
  unfold filtered
  split
  · exact .refl _
  · exact .refl _
  · exact enterMuted_kept s
  · exact (rosterMarks_follows _ s).within
  · exact (deliver_follows _ _ _ s).within

theorem receive_kept (f : RxFrame) (s : State) : QueueKept (receive f s).line.queue s.line.queue := by
  unfold receive
  split
  · exact .refl _
  · exact (filtered_kept _ _).trans (countGood_kept (driveAs .acknowledgeSlot s))

/-- A STATUS or JOIN that is filled keeps its kind (R152). -/
theorem fillMsg_kind (s : State) (m : TxMsg) : (fillMsg s m).kind = m.kind := by
  cases m <;> rfl

theorem kindsOf_modify {g : TxFrame → TxFrame} (h : ∀ f, (g f).msg.kind = f.msg.kind) (i : Nat) (q : List TxFrame) :
    kindsOf (q.modify i g) = kindsOf q := by
  refine List.ext_getElem? fun j => ?_
  unfold kindsOf
  rw [List.getElem?_map, List.getElem?_map, List.getElem?_modify]
  cases q[j]? with
  | none => rfl
  | some f =>
    refine congrArg some ?_
    split
    · exact h f
    · rfl

theorem beginAttempt_kept (s : State) : QueueKept (beginAttempt s).line.queue s.line.queue := by
  unfold beginAttempt
  split
  · split
    · exact fun h => h.of_sublist (by rw [kindsOf_modify fun f => fillMsg_kind s f.msg])
    · exact .refl _
  · exact .refl _

theorem dropSending_within {q : List TxFrame} (h : QueueWithin q) : QueueWithin (dropSending q) :=
  h.of_sublist (List.filter_sublist.map _)

theorem endAttempt_within (n : Nat) {q : List TxFrame} (h : QueueWithin q) : QueueWithin (endAttempt n q) :=
  h.map fun f => by split <;> rfl

theorem tellSent_follows (m : TxMsg) (s : State) : LineFollows (tellSent m s).line s.line := by
  have hpart : LineFollows (partSent s).line s.line := by
    unfold partSent
    split
    · exact .refl _
    · split
      · split <;> exact enqueue_follows _ _
      · exact .refl _
  unfold tellSent
  split
  · exact ownClaimSent_follows _ s
  · exact .refl _
  · split
    · exact hpart
    · exact .refl _
  · exact .refl _

theorem succeed_kept (f : TxFrame) (s : State) : QueueKept (succeed f s).line.queue s.line.queue := by
  rw [succeed_eq]
  exact ((requeueOwed_follows _).trans ((releaseWaiting_follows _).trans
    (tellSent_follows f.msg (frameSent s)))).within.trans dropSending_within

theorem fail_kept (f : TxFrame) (s : State) : QueueKept (fail f s).line.queue s.line.queue := by
  have hoff (t : State) (h : QueueKept t.line.queue s.line.queue) : QueueKept
      (if Config.lineOffTally ≤ t.line.faultTally && t.line.state = .onLine then enterLineOff t else t).line.queue
      s.line.queue := by
    split
    · exact (enterLineOff_kept t).trans h
    · exact h
  unfold fail
  dsimp only
  refine hoff _ ?_
  split
  · exact ((frameLost_follows _ _).trans (releaseWaiting_follows _)).within.trans dropSending_within
  · exact (releaseWaiting_follows _).within.trans (endAttempt_within 1)

/-! ### Every command -/

theorem whenRunning_kept {f : State → State} {s : State} (h : QueueKept (f s).line.queue s.line.queue) :
    QueueKept (whenRunning f s).line.queue s.line.queue := by
  unfold whenRunning
  split
  · exact h
  · exact .refl _

theorem whenDue_kept {timer : State → Option Stamp} {f : State → State} {s : State}
    (h : QueueKept (f s).line.queue s.line.queue) : QueueKept (whenDue timer f s).line.queue s.line.queue := by
  refine whenRunning_kept ?_
  split
  · exact h
  · exact .refl _

theorem receiveKind_kept (k : FrameKind) (h : Hdr) (bs : List Byte) (s : State) :
    QueueKept (receiveKind k h bs s).line.queue s.line.queue := whenRunning_kept (receive_kept _ s)

/-- After a reset the queue is empty (Table 10.5). -/
theorem resetBlocks_kept (p : Phase) (straps : BitVec 6) (present midFrame : Bool) (s : State) :
    QueueKept (resetBlocks p straps present midFrame s).line.queue s.line.queue :=
  fun _ => ⟨Nat.zero_le _, Nat.zero_le _, Nat.zero_le _⟩

theorem next_kept {s t u : State} (h : (.next u : Host.Outcome State Fault Refusal) = .next t)
    (hs : QueueKept u.line.queue s.line.queue) : QueueKept t.line.queue s.line.queue := by
  cases h; exact hs

/-- Every command keeps the queue within its bound. -/
theorem exec_kept {i : Instr} {s t : State} (h : exec i s = .next t) : QueueKept t.line.queue s.line.queue := by
  cases i
  case powerOnReset => exact next_kept h (.refl _)
  case pinReset =>
    refine next_kept h ?_
    split <;> exact .refl _
  case resetEnd =>
    refine next_kept h ?_
    split
    · exact .refl _
    · split
      · exact resetBlocks_kept _ _ _ _ s
      · exact (raiseNotice_follows _ _).within.trans (resetBlocks_kept _ _ _ _ s)
  case refRisingEdge => exact next_kept h (whenRunning_kept (refEdge_follows s).within)
  case mutRisingEdge => exact next_kept h (whenRunning_kept (mutRise_follows _).within)
  case mutFallingEdge => exact next_kept h (whenRunning_kept (mutFall_follows _).within)
  case widthTimerExpiry => exact next_kept h (whenDue_kept (widthExpiry_follows s).within)
  case delayedGateEvaluation => exact next_kept h (whenDue_kept (evaluateGate_follows s).within)
  case intervalTimerExpiry | batchClockTick | lampClockTick => exact next_kept h (whenDue_kept (.refl _))
  case frameDiscard | stuffingViolation | lineIdle => exact next_kept h (whenRunning_kept (.refl _))
  case presentFall =>
    refine next_kept h ?_
    split
    · exact whenRunning_kept (presentFalls_follows _).within
    · exact .refl _
  case presentRise =>
    refine next_kept h ?_
    split
    · exact .refl _
    · exact whenRunning_kept (.refl _)
  case graceExpiry =>
    exact next_kept h ((whenDue_kept (graceExpires_follows _).within).trans (whenRunning_kept (.refl _)))
  case pointTimerExpiry => exact next_kept h (whenDue_kept (closeRun_follows _ s).within)
  case joinReceived | claimReceived | releaseReceived =>
    exact next_kept h (receiveKind_kept _ _ _ (withStrokeDone _ s))
  case duplicateNumberFrame | frameFiltered => exact next_kept h (whenRunning_kept (receive_kept _ s))
  case agingExpiry => exact next_kept h (whenDue_kept (ageRoster_follows (withStrokeDone _ s)).within)
  case heartbeatExpiry =>
    refine next_kept h (whenDue_kept ?_)
    split
    · exact (enqueue_follows _ s).within
    · exact .refl _
  case listenTimerExpiry =>
    refine next_kept h (whenDue_kept ?_)
    split
    · exact (queueJoin_follows s.line.resetCause s).within
    · exact .refl _
  case transmissionAttempt => exact next_kept h (whenRunning_kept (beginAttempt_kept s))
  case lostArbitration =>
    refine next_kept h (whenRunning_kept ?_)
    split
    · exact (releaseWaiting_follows _).within.trans (endAttempt_within 0)
    · exact .refl _
  case attemptSuccess level =>
    refine next_kept h (whenRunning_kept (s := withStrokeDone level s) ?_)
    split
    · exact succeed_kept _ _
    · exact .refl _
  case attemptFailure =>
    refine next_kept h (whenRunning_kept ?_)
    split
    · exact fail_kept _ s
    · exact .refl _
  case lineOffEntry =>
    refine next_kept h (whenRunning_kept ?_)
    split
    · exact enterLineOff_kept s
    · exact .refl _
  case lineReturn =>
    refine next_kept h (whenRunning_kept ?_)
    split
    · exact returnOnLine_kept s
    · exact .refl _
  case sealInCharacter =>
    refine next_kept h (whenRunning_kept ?_)
    split
    · exact (takeSealChar_follows _ _ _).within
    · exact .refl _
  case sealInTimeout =>
    refine next_kept h (whenDue_kept ?_)
    split
    · exact .refl _
    · exact (raiseNotice_follows _ _).within
  case strokeDoneRise =>
    refine next_kept h (whenRunning_kept ?_)
    split
    · exact (completeStroke_follows _ _).within
    · exact .refl _
  case strokeTimerExpiry =>
    refine next_kept h (whenDue_kept ?_)
    split
    · exact (failStroke_follows _ s).within
    · exact .refl _
  all_goals exact next_kept h (receiveKind_kept _ _ _ s)

theorem tick_line (s : State) : (tick s).line = s.line := by
  unfold tick
  split <;> rfl

/-- Settles O57: queuing keeps the bound, room is made for a JOIN, and nothing else adds a frame to the queue. -/
theorem queueStaysBounded : Obligations.QueueStaysBounded := by
  intro s t hbound hstep
  unfold step at hstep
  split at hstep
  · refine next_kept (s := s) hstep ?_ hbound
    rw [tick_line]
    exact .refl _
  · next c rest _ => exact exec_kept (s := { s with pending := rest }) hstep hbound

end Sys2Proof.Machine
end

section
/-! SUPPORT. O42: lost arbitration, and what a discarded frame and a stuffing violation drive (R149, R152, R154, R156,
R161). -/

namespace Sys2Proof.Machine

/-! ### Lost arbitration -/

/-- A frame back in the queue, its attempt not counted (R152). -/
def backInQueue (f : TxFrame) : TxFrame := { f with sending := false }

theorem backInQueue_of_idle {f : TxFrame} (h : f.sending = false) : backInQueue f = f := by
  unfold backInQueue
  rw [← h]

theorem endAttempt_zero (q : List TxFrame) : endAttempt 0 q = q.map backInQueue := by
  refine List.map_congr_left fun f _ => ?_
  split
  · rfl
  · next hidle => exact (backInQueue_of_idle (Bool.eq_false_iff.2 hidle)).symm

/-- The state after lost arbitration, before a frame beside the queue enters (R152). -/
def arbitrationLost (s : State) : State := { s with line := { s.line with queue := s.line.queue.map backInQueue } }

theorem exec_lostArbitration {s : State} (hp : s.phase = .running) (h : attempting s.line.queue = true) :
    exec .lostArbitration s = .next (releaseWaiting (arbitrationLost s)) := by
  refine congrArg Host.Outcome.next ((whenRunning_running hp).trans ((if_pos h).trans ?_))
  rw [endAttempt_zero]
  rfl

/-- With no frame under attempt nothing is lost, and the queue is as it was. -/
theorem exec_lostArbitration_none {s : State} (hp : s.phase = .running) (h : ¬ attempting s.line.queue = true) :
    exec .lostArbitration s = .next (arbitrationLost s) := by
  have hidle : s.line.queue.map backInQueue = s.line.queue :=
    (List.map_congr_left fun f hf => backInQueue_of_idle
      (Bool.eq_false_iff.2 fun hs => h (attempting_iff.2 ⟨f, hf, hs⟩))).trans (List.map_id _)
  refine congrArg Host.Outcome.next ((whenRunning_running hp).trans ((if_neg h).trans ?_))
  unfold arbitrationLost
  rw [hidle]

/-- A frame beside the queue takes the place of the frame of its kind, which stayed queued (R161, log 14). -/
theorem enqueue_replaces_back {m : TxMsg} {f : TxFrame} {s : State} (hc : coalesces m.kind = true)
    (hf : f ∈ s.line.queue) (hk : f.msg.kind = m.kind) :
    enqueue m (besideTaken (arbitrationLost s)) = { s with line := { s.line with
      waitingStatus := false
      waitingNotice := none
      queue := s.line.queue.map fun g =>
        if g.msg.kind = m.kind then { backInQueue g with msg := m } else backInQueue g } } := by
  have hidle : ∀ g ∈ s.line.queue.map backInQueue, g.msg.kind = m.kind → g.sending = false := by
    intro g hg _
    obtain ⟨g', -, rfl⟩ := List.mem_map.1 hg
    rfl
  rw [enqueue_of_kept (queueFrame_replaces s.fe.now (l := (besideTaken (arbitrationLost s)).line) hc
    ⟨backInQueue f, List.mem_map_of_mem hf, hk⟩ hidle)]
  simp only [besideTaken, arbitrationLost, List.map_map]
  rfl

/-- Settles O42: the rows' meanings, and the place that a frame beside the queue takes. -/
theorem arbitrationAndDiscards : Obligations.ArbitrationAndDiscards := by
  intro s hp
  have hsending {f : TxFrame} (hf : s.line.queue.find? TxFrame.sending = some f) :
      f ∈ s.line.queue ∧ attempting s.line.queue = true :=
    ⟨List.mem_of_find?_eq_some hf,
      attempting_iff.2 ⟨f, List.mem_of_find?_eq_some hf, List.find?_some hf⟩⟩
  refine ⟨fun hstatus hnotice => ?_, fun f hf => ⟨fun hk hstatus hnotice => ?_, fun set hk hnotice hstatus => ?_⟩,
    fun cause => ?_, ?_⟩
  · have hbeside : arbitrationLost s = besideTaken (arbitrationLost s) := by
      simp only [besideTaken, arbitrationLost, ← hstatus, ← hnotice]
    by_cases h : attempting s.line.queue = true
    · rw [exec_lostArbitration hp h, releaseWaiting_eq, if_neg (by simp [arbitrationLost, hstatus])]
      simp only [noticeEntered, arbitrationLost, hnotice]
      rfl
    · rw [exec_lostArbitration_none hp h, hbeside]
      rfl
  · obtain ⟨hmem, hattempt⟩ := hsending hf
    have hentered : noticeEntered (arbitrationLost s) = besideTaken (arbitrationLost s) := by
      simp only [noticeEntered, arbitrationLost, hnotice]
    rw [exec_lostArbitration hp hattempt, releaseWaiting_eq, if_pos (by exact hstatus), hentered,
      enqueue_replaces_back (m := .status none) rfl hmem hk]
    rfl
  · obtain ⟨hmem, hattempt⟩ := hsending hf
    have hentered : noticeEntered (arbitrationLost s) = enqueue (.notice set) (besideTaken (arbitrationLost s)) := by
      simp only [noticeEntered, arbitrationLost, hnotice]
    rw [exec_lostArbitration hp hattempt, releaseWaiting_eq, if_neg (by simp [arbitrationLost, hstatus]), hentered,
      enqueue_replaces_back (m := .notice set) rfl hmem hk]
    rfl
  · have hdrives : receiverDrives (if cause = .ownCheck then .objectionSlot else .acknowledgeSlot) s.line.own =
        if validNumber s.line.own = false then .nothing
        else if cause = .ownCheck then .objectionSlot else .acknowledgeSlot := by
      cases hv : validNumber s.line.own <;> cases cause <;> simp [receiverDrives, hv]
    refine congrArg Host.Outcome.next ((whenRunning_running hp).trans ?_)
    simp only [driveAs, hdrives]
  · exact congrArg Host.Outcome.next (whenRunning_running hp)

end Sys2Proof.Machine
end

section
/-! SUPPORT. O45: the receive filter row by row, and the 64th good frame, which finds the line returned (R151, R154 to
R156, R158). -/

namespace Sys2Proof.Machine

/-! ### What a receiver drives does not reach the return of the line -/

/-- The line with another drive, in the middle of a frame or not. -/
def withDrive (d : ReceiverDrive) (idle : Bool) (s : State) : State :=
  { s with line := { s.line with drive := d, idle := idle } }

section Drive

variable (d : ReceiverDrive) (idle : Bool)

/-- An operation that neither reads nor writes what the station drives. -/
def IgnoresDrive (f : State → State) : Prop := ∀ s, f (withDrive d idle s) = withDrive d idle (f s)

variable {d idle}

theorem IgnoresDrive.comp {f g : State → State} (hf : IgnoresDrive d idle f) (hg : IgnoresDrive d idle g) :
    IgnoresDrive d idle (f ∘ g) := fun s => (congrArg f (hg s)).trans (hf (g s))

theorem queueFrame_withDrive (now : Stamp) (m : TxMsg) (l : LineController) :
    queueFrame now m { l with drive := d, idle := idle } =
      ({ (queueFrame now m l).1 with drive := d, idle := idle }, (queueFrame now m l).2) := by
  unfold queueFrame admitFrame
  dsimp only
  split
  · split
    · cases m <;> rfl
    · rfl
  · split
    · rfl
    · split <;> rfl

theorem raiseTxDropped_ignoresDrive : IgnoresDrive d idle raiseTxDropped := by
  intro s
  unfold raiseTxDropped withDrive
  dsimp only
  split
  · rfl
  · split
    · rw [queueFrame_withDrive]
    · rfl

theorem evaluateRecord_ignoresDrive : IgnoresDrive d idle evaluateRecord := by
  intro s
  have hverdict : overallVerdict (withDrive d idle s) = overallVerdict s := rfl
  unfold evaluateRecord
  rw [hverdict]
  show (if evaluates s.meter.batch = true then _ else _) = _
  split <;> rfl

theorem tellOwner_ignoresDrive (m : TxMsg) : IgnoresDrive d idle (tellOwner m) := by
  intro s
  unfold tellOwner
  split
  · show (if s.meter.batch = .claiming && s.sealUnit.current.any _ then _ else _) = _
    split
    · exact evaluateRecord_ignoresDrive { s with
        sealUnit := { s.sealUnit with current := none }
        meter := { s.meter with held := none, batch := .awaitSeal } }
    · rfl
  · split <;> rfl
  · rfl

theorem frameLost_ignoresDrive (m : TxMsg) : IgnoresDrive d idle (frameLost m) :=
  (tellOwner_ignoresDrive m).comp raiseTxDropped_ignoresDrive

theorem enqueue_ignoresDrive (m : TxMsg) : IgnoresDrive d idle (enqueue m) := by
  intro s
  have hqueue : queueFrame s.fe.now m (withDrive d idle s).line =
      ({ (queueFrame s.fe.now m s.line).1 with drive := d, idle := idle }, (queueFrame s.fe.now m s.line).2) :=
    queueFrame_withDrive _ _ _
  have hnow : (withDrive d idle s).fe.now = s.fe.now := rfl
  unfold enqueue
  rw [hnow, hqueue]
  dsimp only
  split
  · exact frameLost_ignoresDrive _ { s with line := (queueFrame s.fe.now m s.line).1 }
  · rfl

theorem makeRoom_ignoresDrive : IgnoresDrive d idle makeRoom := by
  intro s
  have hqueue : (withDrive d idle s).line.queue = s.line.queue := rfl
  unfold makeRoom
  rw [hqueue]
  split
  · split
    · rfl
    · exact frameLost_ignoresDrive _ { s with line := { s.line with queue := s.line.queue.dropLast } }
  · rfl

theorem queueJoin_ignoresDrive (c : JoinCause) : IgnoresDrive d idle (queueJoin c) := by
  intro s
  unfold queueJoin
  rw [makeRoom_ignoresDrive, makeRoom_ignoresDrive]
  rfl

theorem requeueOwed_ignoresDrive : IgnoresDrive d idle requeueOwed := by
  intro s
  have howed : (withDrive d idle s).sealUnit.owed = s.sealUnit.owed := rfl
  have hqueue : (withDrive d idle s).line.queue = s.line.queue := rfl
  unfold requeueOwed
  rw [howed, hqueue]
  split
  · split
    · rfl
    · exact enqueue_ignoresDrive _ s
  · rfl

/-- The return of the line and a frame that is acknowledged may change places. -/
theorem returnOnLine_ignoresDrive : IgnoresDrive d idle returnOnLine := by
  intro s
  have hjoined : joined (withDrive d idle s) = withDrive d idle (joined s) := by
    have hreturned : lineReturned (withDrive d idle s) = withDrive d idle (lineReturned s) := rfl
    unfold joined
    rw [hreturned, queueJoin_ignoresDrive]
    rfl
  show requeueOwed (joined (withDrive d idle s)) = withDrive d idle (requeueOwed (joined s))
  rw [hjoined, requeueOwed_ignoresDrive]

end Drive

/-! ### The return of the line -/

/-- What the return leaves of the station and its line (R158). -/
theorem returnOnLine_leaves (s : State) : (returnOnLine s).phase = s.phase ∧ (returnOnLine s).line.own = s.line.own ∧
    (returnOnLine s).line.awaitingIdle = s.line.awaitingIdle ∧
    lineStanding (returnOnLine s).line = (.onLine, 0, 0) := by
  have hjoin := queueJoin_keeps .lineReturn (lineReturned s)
  have howed : QueuingKeeps (joined s) (returnOnLine s) := requeueOwed_keeps _
  have hphase : (queueJoin .lineReturn (lineReturned s)).phase = s.phase := by rw [hjoin.blocks]; rfl
  refine ⟨?_, howed.own.trans hjoin.own, howed.awaitingIdle.trans hjoin.awaitingIdle, ?_⟩
  · rw [howed.blocks]
    exact hphase
  · rw [lineStanding, howed.state.trans hjoin.state, howed.goodFrames.trans hjoin.goodFrames,
      howed.faultTally.trans hjoin.faultTally]
    rfl

theorem enqueue_owed (m : TxMsg) (s : State) : (enqueue m s).sealUnit.owed = s.sealUnit.owed := by
  rcases enqueue_cases m s with heq | ⟨lost, -, heq⟩ <;> rw [heq]
  exact frameLost_owed _ _

/-- Where no RELEASE is owed the JOIN stands in the queue (R158). -/
theorem returnOnLine_join {s : State} (h : (returnOnLine s).sealUnit.owed = none) :
    ∃ g ∈ (returnOnLine s).line.queue, g.msg = .join .lineReturn none := by
  have hnone : (joined s).sealUnit.owed = none := by
    have hsame : (requeueOwed (joined s)).sealUnit.owed = (joined s).sealUnit.owed := by
      rcases requeueOwed_cases (joined s) with heq | ⟨n, r, heq⟩ <;> rw [heq]
      exact enqueue_owed _ _
    exact hsame.symm.trans h
  have hreturn : returnOnLine s = joined s := requeueOwed_unowed hnone
  rw [hreturn]
  exact ⟨_, List.mem_append_right _ (List.mem_singleton_self _), rfl⟩

/-! ### The rows of the filter -/

section Filter

variable {f : RxFrame} {s : State}

/-- The kinds of frame that are discarded (Table 10.3). -/
theorem receiveFilter_discarded (hv : validNumber s.line.own = true)
    (h : 62 ≤ f.sender.toNat ∨ 17 ≤ f.length.toNat ∨ FrameKind.ofNumber f.kind.toNat = none ∨
      ∃ k, FrameKind.ofNumber f.kind.toNat = some k ∧ f.cls.toNat ≠ k.cls) : receiveFilter f s = .discarded := by
  have hvalid : ¬ (!validNumber s.line.own) = true := by simp [hv]
  unfold receiveFilter
  rw [if_neg hvalid]
  by_cases hsender : 62 ≤ f.sender.toNat
  · exact if_pos hsender
  by_cases hlong : 17 ≤ f.length.toNat
  · exact (if_neg hsender).trans (if_pos hlong)
  rw [if_neg hsender, if_neg hlong]
  rcases (h.resolve_left hsender).resolve_left hlong with hkind | ⟨k, hkind, hcls⟩
  · rw [hkind]
  · rw [hkind]
    exact if_pos hcls

/-- Past these rows a frame of another sender, whose role its kind does not have or whose payload does not fit, is taken
for its sender's marks alone (Table 10.3). -/
theorem receiveFilter_marksOnly {k : FrameKind} (hv : validNumber s.line.own = true)
    (hkind : FrameKind.ofNumber f.kind.toNat = some k) (hcls : f.cls.toNat = k.cls) (hlong : f.length.toNat ≤ 16)
    (hsender : f.sender.toNat ≤ 61) (hown : f.sender.toNat ≠ s.line.own)
    (h : k.role ≠ roleOf f.sender.toNat ∨ fits k f.payload = false) : receiveFilter f s = .marksOnly := by
  have hvalid : ¬ (!validNumber s.line.own) = true := by simp [hv]
  unfold receiveFilter
  rw [if_neg hvalid, if_neg (by omega), if_neg (by omega), hkind]
  dsimp only
  rw [if_neg (not_not_intro hcls), if_neg hown]
  split
  · rfl
  · next hrole => exact if_neg (by rw [h.resolve_left hrole]; exact Bool.false_ne_true)

theorem receiveFilter_invalid (hv : validNumber s.line.own = false) : receiveFilter f s = .nowhere := by
  simp [receiveFilter, hv]

/-- The row of the own number takes frames with the own number alone (R159). -/
theorem sender_of_ownNumber (h : receiveFilter f s = .ownNumber) : f.sender.toNat = s.line.own := by
  by_contra hne
  simp only [receiveFilter, hne, if_false] at h
  repeat' split at h
  all_goals cases h

end Filter

/-! ### What becomes of the frame -/

section Taken

variable {f : RxFrame} {s : State}

theorem filtered_invalid (hv : validNumber s.line.own = false) : filtered f s = s := by
  rw [filtered, receiveFilter_invalid hv]

/-- A frame of another sender leaves the line state and its counts (R155). -/
theorem filtered_standing (h : f.sender.toNat ≠ s.line.own) :
    lineStanding (filtered f s).line = lineStanding s.line := by
  unfold filtered
  split
  · rfl
  · rfl
  · next hown => exact absurd (sender_of_ownNumber hown) h
  · rw [rosterMarks_line]
  · exact (deliver_follows _ _ _ s).standing

theorem exec_frameFiltered (hp : s.phase = .running) (hawait : s.line.awaitingIdle = false) :
    exec (.frameFiltered f) s = .next (filtered f (countGood (driveAs .acknowledgeSlot s))) :=
  congrArg Host.Outcome.next
    ((whenRunning_running hp).trans (if_neg (by rw [hawait]; exact Bool.false_ne_true)))

/-- Below the 64th a good frame in LINE-OFF leaves the line there, with one more counted (R158). -/
theorem exec_frameFiltered_lineOff (hp : s.phase = .running) (hawait : s.line.awaitingIdle = false)
    (hoff : s.line.state = .lineOff) (hgood : s.line.goodFrames < 63) (hother : f.sender.toNat ≠ s.line.own) :
    ∃ t, exec (.frameFiltered f) s = .next t ∧ t.line.state = .lineOff ∧
      t.line.goodFrames = s.line.goodFrames + 1 := by
  have hcount : countGood (driveAs .acknowledgeSlot s) = { driveAs .acknowledgeSlot s with
      line := { (driveAs .acknowledgeSlot s).line with goodFrames := s.line.goodFrames + 1 } } :=
    (countGood_lineOff (s := driveAs .acknowledgeSlot s) hoff).trans (if_neg (show ¬ 64 ≤ s.line.goodFrames + 1 by omega))
  rw [exec_frameFiltered hp hawait, hcount]
  have hstanding := filtered_standing (f := f) (s := { driveAs .acknowledgeSlot s with
    line := { (driveAs .acknowledgeSlot s).line with goodFrames := s.line.goodFrames + 1 } }) hother
  obtain ⟨hstate, hframes, -⟩ : _ ∧ _ ∧ _ := by simpa only [lineStanding, Prod.mk.injEq] using hstanding
  exact ⟨_, rfl, hstate.trans hoff, hframes⟩

/-- On line a good frame is not counted, and the returned line takes it as any other (R158). -/
theorem exec_frameFiltered_returned (hp : s.phase = .running) (hawait : s.line.awaitingIdle = false) :
    exec (.frameFiltered f) (returnOnLine s) = .next (filtered f (driveAs .acknowledgeSlot (returnOnLine s))) := by
  obtain ⟨hphase, -, hidle, hstanding⟩ := returnOnLine_leaves s
  have hstate : (returnOnLine s).line.state = .onLine := congrArg Prod.fst hstanding
  have hon : (driveAs .acknowledgeSlot (returnOnLine s)).line.state ≠ .lineOff := fun hoff =>
    LineState.noConfusion (hstate.symm.trans hoff)
  rw [exec_frameFiltered (hphase.trans hp) (hidle.trans hawait), countGood_of_ne hon]

/-- The 64th good frame finds the line returned (R158, log 7). -/
theorem exec_frameFiltered_64th (hp : s.phase = .running) (hawait : s.line.awaitingIdle = false)
    (hoff : s.line.state = .lineOff) (hgood : 63 ≤ s.line.goodFrames) :
    exec (.frameFiltered f) s = exec (.frameFiltered f) (returnOnLine s) := by
  have hown : (returnOnLine s).line.own = s.line.own := (returnOnLine_leaves s).2.1
  have hplaces : returnOnLine (driveAs .acknowledgeSlot s) = driveAs .acknowledgeSlot (returnOnLine s) := by
    unfold driveAs
    rw [hown]
    exact returnOnLine_ignoresDrive s
  have hcount : countGood (driveAs .acknowledgeSlot s) = returnOnLine (driveAs .acknowledgeSlot s) :=
    (countGood_lineOff (s := driveAs .acknowledgeSlot s) hoff).trans (if_pos (show 64 ≤ s.line.goodFrames + 1 by omega))
  rw [exec_frameFiltered hp hawait, exec_frameFiltered_returned hp hawait, hcount, hplaces]

/-- With valid straps, below the 64th, the frame is acknowledged, counted and filtered (R154, R155, R158). -/
theorem exec_frameFiltered_counted (hp : s.phase = .running) (hv : validNumber s.line.own = true)
    (hawait : s.line.awaitingIdle = false) (hgood : s.line.goodFrames < 63) :
    exec (.frameFiltered f) s = .next (filtered f (frameCounted s)) := by
  rw [exec_frameFiltered hp hawait, countGood_acked hv fun _ => hgood]

/-- The 64th good frame is taken on line, with the counts of the return (R158). -/
theorem exec_frameFiltered_onLine (hp : s.phase = .running) (hawait : s.line.awaitingIdle = false)
    (hother : f.sender.toNat ≠ s.line.own) : ∃ t, exec (.frameFiltered f) (returnOnLine s) = .next t ∧
      t.line.state = .onLine ∧ t.line.goodFrames = 0 ∧ t.line.faultTally = 0 := by
  obtain ⟨-, hown, -, hstanding⟩ := returnOnLine_leaves s
  have htaken := (filtered_standing (f := f) (s := driveAs .acknowledgeSlot (returnOnLine s))
    (show f.sender.toNat ≠ (returnOnLine s).line.own by rw [hown]; exact hother)).trans hstanding
  obtain ⟨hstate, hframes, htally⟩ : _ ∧ _ ∧ _ := by simpa only [lineStanding, Prod.mk.injEq] using htaken
  exact ⟨_, exec_frameFiltered_returned hp hawait, hstate, hframes, htally⟩

/-- A frame of a kind and class that go together sets its sender's marks, if it is a position peer (R105, R155). -/
theorem exec_frameFiltered_marks {k : FrameKind} (hp : s.phase = .running) (hv : validNumber s.line.own = true)
    (hawait : s.line.awaitingIdle = false) (hgood : s.line.goodFrames < 63)
    (hkind : FrameKind.ofNumber f.kind.toNat = some k) (hcls : f.cls.toNat = k.cls) (hlong : f.length.toNat ≤ 16)
    (hsender : f.sender.toNat ≤ 61) (hown : f.sender.toNat ≠ s.line.own)
    (h : k.role ≠ roleOf f.sender.toNat ∨ fits k f.payload = false) :
    exec (.frameFiltered f) s = .next (rosterMarks f.sender.toNat (frameCounted s)) := by
  rw [exec_frameFiltered_counted hp hv hawait hgood, filtered,
    receiveFilter_marksOnly (s := frameCounted s) hv hkind hcls hlong hsender hown h]

/-- A frame of the source node or the console makes no entry (R105). -/
theorem rosterMarks_of_no_peer {k : Nat} (h : k = 0 ∨ k = 61) (s : State) : rosterMarks k s = s := by
  refine if_neg ?_
  rw [Bool.and_eq_true, decide_eq_true_eq, roleOf_position_iff]
  omega

end Taken

/-- A frame of the source node that does not fit its kind (Table 10.7). -/
theorem fits_source_false {k : FrameKind} {bs : List Byte} (h : (k = .loadSettled ∧ bs.length ≠ 2) ∨
    (k = .loadChanging ∧ bs.length ≠ 1) ∨ (k = .loadOff ∧ bs.length ≠ 0) ∨ (k = .sync ∧ bs.length ≠ 2)) :
    fits k bs = false := by
  rcases h with ⟨rfl, h⟩ | ⟨rfl, h⟩ | ⟨rfl, h⟩ | ⟨rfl, h⟩
  · have hread : readLoadSettled bs = none := by
      unfold readLoadSettled
      split
      · exact absurd rfl h
      · rfl
    simp [fits, hread]
  · simp [fits, h]
  · simpa [fits] using h
  · simp [fits, readSync, h]

/-- Settles O45: the first row of the filter that applies, after the good frame is counted; the rows that are frames of a
kind run the filter on the frame of their kind. -/
theorem filterDiscards : Obligations.FilterDiscards := by
  refine ⟨fun f s hp => ⟨fun hawait => ?_, fun hv hawait hon => ?_, fun hawait hoff => ⟨fun hgood hother => ?_,
    fun hgood => ⟨returnOnLine s, ?_⟩⟩, fun hv hawait hgood => ⟨fun h => ?_, fun k hkind hcls hlong => ⟨?_, ?_⟩⟩⟩, ?_⟩
  · exact congrArg Host.Outcome.next ((whenRunning_running hp).trans (if_pos hawait))
  · rw [exec_frameFiltered hp hawait, countGood_of_ne (by exact hon), filtered_invalid (by exact hv)]
    simp only [driveAs, receiverDrives, hv, Bool.false_eq_true, if_false]
  · exact exec_frameFiltered_lineOff hp hawait hoff hgood hother
  · have h64th := exec_frameFiltered_64th (f := f) hp hawait hoff hgood
    obtain ⟨hstate, hframes, htally⟩ : _ ∧ _ ∧ _ := by
      simpa only [lineStanding, Prod.mk.injEq] using (returnOnLine_leaves s).2.2.2
    exact ⟨exec_lineReturn hp hoff, hstate, hframes, htally, returnOnLine_join, h64th,
      fun hother => h64th ▸ exec_frameFiltered_onLine hp hawait hother⟩
  · rw [exec_frameFiltered_counted hp hv hawait hgood, filtered, receiveFilter_discarded (s := frameCounted s) hv h]
    rfl
  · intro hlow hhigh hown hrole
    have hposition : roleOf f.sender.toNat = .position := (roleOf_position_iff _).2 ⟨hlow, hhigh⟩
    rw [exec_frameFiltered_marks hp hv hawait hgood hkind hcls hlong (by omega) hown (.inl (hposition ▸ hrole))]
    exact congrArg Host.Outcome.next
      (rosterTakes_peer (h := ⟨f.sender, f.dest⟩) (s := frameCounted s) ⟨hlow, hhigh, hown⟩ id)
  · intro h
    obtain ⟨hlow, hhigh⟩ := own_bounds hv
    obtain ⟨hsender, hrole⟩ : (f.sender.toNat = 0 ∨ f.sender.toNat = 61) ∧
        (k.role ≠ roleOf f.sender.toNat ∨ fits k f.payload = false) := by
      rcases h with ⟨h, hk⟩ | ⟨h, hk⟩ | ⟨h, hk⟩
      · exact ⟨.inl h, .inl (by rw [h]; exact hk)⟩
      · exact ⟨.inr h, .inl (by rw [h]; exact hk)⟩
      · exact ⟨.inl h, .inr (fits_source_false hk)⟩
    rw [exec_frameFiltered_marks hp hv hawait hgood hkind hcls hlong (by omega) (by omega) hrole,
      rosterMarks_of_no_peer hsender]
    rfl
  · intro h bs s
    refine ⟨rfl, rfl, rfl, rfl, rfl, rfl, rfl, rfl, rfl, rfl, rfl, rfl, rfl, rfl, rfl, rfl, rfl, rfl, rfl,
      fun b => ⟨rfl, rfl, rfl⟩, rfl, rfl, rfl, rfl, rfl, rfl, rfl, rfl, rfl⟩

end Sys2Proof.Machine
end

section
/-! SUPPORT. O55 and O54: stuffing and its removal, the bits of a frame and the frame of its bits, and the levels of the
line (R147 to R150, R152, R154). -/

namespace Sys2Proof.Machine

/-! ### Stuffing -/

/-- The count of equal bits once one more has come (R149). -/
def runAfter (lvl : Bool) (n : Nat) (b : Bool) : Nat := if b = lvl then n + 1 else 1

theorem runAfter_le {lvl b : Bool} {n : Nat} (h : n < 6) : 1 ≤ runAfter lvl n b ∧ runAfter lvl n b ≤ 6 := by
  unfold runAfter
  split <;> omega

theorem destuffFrom_cons {lvl : Bool} {n : Nat} (h : n < 6) (b : Bool) (bs : List Bool) :
    destuffFrom lvl n (b :: bs) = (destuffFrom b (runAfter lvl n b) bs).map (b :: ·) :=
  if_neg (Nat.ne_of_lt h)

theorem destuffFrom_six (lvl b : Bool) (bs : List Bool) :
    destuffFrom lvl 6 (b :: bs) = if b = lvl then none else destuffFrom b 1 bs := rfl

/-- The bits that were stuffed come back (R149). -/
theorem destuffFrom_stuffFrom (bits : List Bool) {lvl : Bool} {n : Nat} (h : n < 6) :
    destuffFrom lvl n (stuffFrom lvl n bits) = some bits := by
  induction bits generalizing lvl n with
  | nil => rfl
  | cons b bs ih =>
    have hstuff : stuffFrom lvl n (b :: bs) = if runAfter lvl n b = 6 then b :: (!b) :: stuffFrom (!b) 1 bs
      else b :: stuffFrom b (runAfter lvl n b) bs := rfl
    rw [hstuff]
    split
    · next hsix =>
      rw [destuffFrom_cons h, hsix, destuffFrom_six, if_neg (Bool.not_ne_self b), ih (by decide)]
      rfl
    · next hsix =>
      rw [destuffFrom_cons h, ih (Nat.lt_of_le_of_ne (runAfter_le h).2 hsix)]
      rfl

/-- A run that reaches seven equal bits is a stuffing violation (R149). -/
theorem destuffFrom_run (b : Bool) (q : List Bool) (k : Nat) {n : Nat} (h : n ≤ 6) (hk : 7 ≤ n + k) :
    destuffFrom b n (List.replicate k b ++ q) = none := by
  induction k generalizing n with
  | zero => omega
  | succ k ih =>
    rw [List.replicate_succ, List.cons_append]
    rcases Nat.eq_or_lt_of_le h with rfl | hlt
    · exact (destuffFrom_six _ _ _).trans (if_pos rfl)
    · rw [destuffFrom_cons hlt, runAfter, if_pos rfl, ih hlt (by omega)]
      rfl

/-- So is a run of seven equal bits wherever it begins. -/
theorem destuffFrom_seven (b : Bool) (q : List Bool) {lvl : Bool} {n : Nat} (h : n ≤ 6) :
    destuffFrom lvl n (List.replicate 7 b ++ q) = none := by
  rw [List.replicate_succ, List.cons_append]
  rcases Nat.eq_or_lt_of_le h with rfl | hlt
  · rw [destuffFrom_six]
    split
    · rfl
    · exact destuffFrom_run b q 6 (by decide) (by decide)
  · obtain ⟨hlow, hhigh⟩ := runAfter_le (lvl := lvl) (b := b) hlt
    rw [destuffFrom_cons hlt, destuffFrom_run b q 6 hhigh (by omega)]
    rfl

/-- A stuffing violation later in the span is one of the whole span. -/
theorem destuffFrom_append_none (p : List Bool) {q : List Bool} {lvl : Bool} {n : Nat} (h : n ≤ 6)
    (hq : ∀ (l : Bool) (m : Nat), m ≤ 6 → destuffFrom l m q = none) : destuffFrom lvl n (p ++ q) = none := by
  induction p generalizing lvl n with
  | nil => exact hq lvl n h
  | cons b p ih =>
    rw [List.cons_append]
    rcases Nat.eq_or_lt_of_le h with rfl | hlt
    · rw [destuffFrom_six]
      split
      · rfl
      · exact ih (by decide)
    · rw [destuffFrom_cons hlt, ih (runAfter_le hlt).2]
      rfl

theorem destuff_stuff (bits : List Bool) : destuff (stuff bits) = some bits := destuffFrom_stuffFrom bits (by decide)

/-- Settles O55: the stuffed bits come back, which a run of seven equal bits among them would prevent. -/
theorem stuffingBoundsRuns : Obligations.StuffingBoundsRuns := by
  refine fun bits => ⟨destuff_stuff bits, fun b ⟨p, q, hrun⟩ => ?_⟩
  have hviolation : destuff (stuff bits) = none := by
    rw [← hrun, List.append_assoc]
    exact destuffFrom_append_none p (by decide) fun _ _ hm => destuffFrom_seven b q hm
  exact absurd (hviolation.symm.trans (destuff_stuff bits)) (Option.some_ne_none bits).symm

/-! ### Fields -/

theorem bitsMsb_length (w n : Nat) : (bitsMsb w n).length = w := by
  induction w generalizing n with
  | zero => rfl
  | succ w ih => rw [bitsMsb, List.length_append, ih, List.length_singleton]

theorem ofBitsMsb_append_singleton (bs : List Bool) (b : Bool) : ofBitsMsb (bs ++ [b]) = 2 * ofBitsMsb bs + b.toNat := by
  unfold ofBitsMsb
  rw [List.foldl_append]
  rfl

/-- A number comes back from its bits, as far as they hold it (R148). -/
theorem ofBitsMsb_bitsMsb (w n : Nat) : ofBitsMsb (bitsMsb w n) = n % 2 ^ w := by
  induction w generalizing n with
  | zero => rw [Nat.pow_zero, Nat.mod_one]; rfl
  | succ w ih =>
    have hbit : (n % 2 == 1).toNat = n % 2 := by
      rcases Nat.mod_two_eq_zero_or_one n with h | h <;> rw [h] <;> rfl
    rw [bitsMsb, ofBitsMsb_append_singleton, ih, hbit, Nat.pow_succ', Nat.mod_mul, Nat.add_comm]

/-- A header field comes back from its bits. -/
theorem field_of_bits {w : Nat} (x : BitVec w) : BitVec.ofNat w (ofBitsMsb (bitsMsb w x.toNat)) = x := by
  rw [ofBitsMsb_bitsMsb, Nat.mod_eq_of_lt x.isLt, BitVec.ofNat_toNat, BitVec.setWidth_eq]

/-- The payload comes back from its bits, with what follows it. -/
theorem takeBytes_of_bits (bs : List Byte) (rest : List Bool) :
    takeBytes bs.length ((bs.flatMap fun b => bitsMsb 8 b.toNat) ++ rest) = some (bs, rest) := by
  induction bs with
  | nil => rfl
  | cons b bs ih =>
    have hlength : (bitsMsb 8 b.toNat).length = 8 := bitsMsb_length _ _
    rw [List.flatMap_cons, List.append_assoc, List.length_cons, takeBytes, if_neg, List.drop_left' hlength,
      List.take_left' hlength, ih, field_of_bits]
    · rfl
    · rw [List.length_append, hlength]
      omega

/-! ### Frames -/

/-- The bits after the start bit, field by field (Table 10.1). -/
theorem plainBits_eq (f : RxFrame) : plainBits f = false :: (bitsMsb 2 f.cls.toNat ++ (bitsMsb 6 f.sender.toNat ++
    (bitsMsb 6 f.kind.toNat ++ (bitsMsb 6 f.dest.toNat ++ (bitsMsb 5 f.length.toNat ++
      ((f.payload.flatMap fun b => bitsMsb 8 b.toNat) ++ bitsMsb 16 (crc (headerAndPayload f)).toNat)))))) := by
  simp only [plainBits, headerAndPayload, List.append_assoc, List.cons_append]

/-- A field that stands at a place, and what follows it. -/
theorem field_at {b rest : List Bool} {k w n : Nat} (h : b.drop k = bitsMsb w n ++ rest) :
    (b.drop k).take w = bitsMsb w n ∧ b.drop (k + w) = rest := by
  rw [← List.drop_drop, h]
  exact ⟨List.take_left' (bitsMsb_length w n), List.drop_left' (bitsMsb_length w n)⟩

/-- A frame comes back from its bits, whatever its fields hold (R148, R154). -/
theorem frameOfBits_plainBits {f : RxFrame} (h : f.payload.length = f.length.toNat) :
    frameOfBits (plainBits f) = some f := by
  rw [plainBits_eq]
  generalize hb : bitsMsb 2 f.cls.toNat ++ _ = b
  obtain ⟨hcls, h2⟩ := field_at (k := 0) hb.symm
  obtain ⟨hsender, h8⟩ := field_at h2
  obtain ⟨hkind, h14⟩ := field_at h8
  obtain ⟨hdest, h20⟩ := field_at h14
  obtain ⟨hlength, h25⟩ := field_at h20
  have hlong : ¬ b.length < 41 := by
    rw [← hb]
    simp only [List.length_append, bitsMsb_length]
    omega
  simp only [Nat.reduceAdd, List.drop_zero] at hcls hsender hkind hdest hlength h25
  have hpayload := takeBytes_of_bits f.payload (bitsMsb 16 (crc (headerAndPayload f)).toNat)
  rw [h] at hpayload
  simp only [frameOfBits, hlong, hcls, hsender, hkind, hdest, hlength, h25, field_of_bits, if_false, hpayload, if_true]

theorem receiveBits_stuff {f : RxFrame} (h : f.payload.length = f.length.toNat) :
    receiveBits (stuff (plainBits f)) = some f := by
  rw [receiveBits, destuff_stuff, Option.bind_some, frameOfBits_plainBits h]

/-! ### The station's frames -/

/-- The header fields of a message's frame hold what they are given (R148, R150). -/
theorem frameOf_fields {own : Nat} {m : TxMsg} (hown : own < 64) (hlength : m.payload.length ≤ 16) :
    (frameOf own m).sender.toNat = own ∧ (frameOf own m).length.toNat = m.payload.length ∧
    (frameOf own m).cls.toNat = m.cls ∧ (frameOf own m).kind.toNat = m.kind.number ∧
    (frameOf own m).dest.toNat = m.kind.sendsTo := by
  have hkind : m.cls < 4 ∧ m.kind.number < 64 ∧ m.kind.sendsTo < 64 := by
    unfold TxMsg.cls
    cases m.kind <;> decide
  obtain ⟨hcls, hnumber, hdest⟩ := hkind
  simp only [frameOf, BitVec.toNat_ofNat]
  refine ⟨?_, ?_, ?_, ?_, ?_⟩ <;> exact Nat.mod_eq_of_lt (by omega)

/-- What the station has on the line in an attempt (R152). -/
theorem wireOutput_attempt {s : State} {f : TxFrame} (hp : s.phase = .running)
    (hf : s.line.queue.find? TxFrame.sending = some f) : wireOutput s = some (sentBits s.line.own f.msg) := by
  rw [wireOutput, if_pos hp, hf]
  rfl

theorem wireOutput_none {s : State} (h : s.phase ≠ .running ∨ ∀ f ∈ s.line.queue, f.sending = false) :
    wireOutput s = none := by
  unfold wireOutput
  split
  · next hp =>
    have hidle := h.resolve_left (not_not_intro hp)
    rw [List.find?_eq_none.2 fun f hf => by rw [hidle f hf]; exact Bool.false_ne_true]
    rfl
  · rfl

/-! ### Levels -/

theorem wiredAnd_eq_false_iff (levels : List Bool) : wiredAnd levels = false ↔ false ∈ levels := by
  simp [wiredAnd]

/-- The nodes that drive dominant. -/
theorem dominant_pos_iff (levels : List Bool) : 0 < levels.countP (fun l => !l) ↔ false ∈ levels := by
  rw [List.countP_pos_iff]
  simp

theorem lineDifferential_dominant {levels : List Bool} (h : false ∈ levels) : 1500 ≤ lineDifferential levels := by
  have hpos := (dominant_pos_iff levels).2 h
  rw [lineDifferential, drivenDifferential, if_neg (Nat.ne_of_gt hpos)]
  simp only [Config.dominantLeast]
  omega

theorem lineDifferential_recessive {levels : List Bool} (h : false ∉ levels) : lineDifferential levels = 0 :=
  if_pos (Nat.eq_zero_of_not_pos fun hpos => h ((dominant_pos_iff levels).1 hpos))

theorem receiverReads_dominant {mV : Int} (h : 900 ≤ mV) : receiverReads mV = false := if_pos h

theorem receiverReads_recessive {mV : Int} (h : mV ≤ 500) : receiverReads mV = true := by
  rw [receiverReads, if_neg (by omega), if_pos h]

/-- A receiver reads the level of the line (R147). -/
theorem receiverReads_lineDifferential (levels : List Bool) :
    receiverReads (lineDifferential levels) = wiredAnd levels := by
  by_cases h : false ∈ levels
  · have hdominant := lineDifferential_dominant h
    rw [receiverReads_dominant (by omega), (wiredAnd_eq_false_iff levels).2 h]
  · rw [lineDifferential_recessive h, receiverReads_recessive (by decide)]
    exact (Bool.eq_true_of_not_eq_false fun hw => h ((wiredAnd_eq_false_iff levels).1 hw)).symm

/-! ### Sampling -/

/-- The rest of a bit in which the level holds: sampled where its sample point is still to come (R147). -/
theorem sampleFrom_hold (b : Bool) (rest : List Bool) (k : Nat) {phase : Nat} (h : phase + k = 200) (hk : 0 < k) :
    sampleFrom b phase (List.replicate k b ++ rest) =
      if phase ≤ 140 then b :: sampleFrom b 0 rest else sampleFrom b 0 rest := by
  induction k generalizing phase with
  | zero => omega
  | succ k ih =>
    have hedge : (b && !b) = false := by cases b <;> rfl
    have hstep : sampleFrom b ((phase + 1) % 200) (List.replicate k b ++ rest) =
        if phase < 140 then b :: sampleFrom b 0 rest else sampleFrom b 0 rest := by
      rcases Nat.eq_zero_or_pos k with rfl | hpos
      · rw [if_neg (by omega), show phase + 1 = 200 by omega]
        rfl
      · rw [Nat.mod_eq_of_lt (by omega), ih (by omega) hpos]
        rfl
    rw [List.replicate_succ, List.cons_append]
    simp only [sampleFrom, hedge, Config.bitTime, Config.samplePoint, hstep, Bool.false_eq_true, if_false]
    rcases Nat.lt_trichotomy phase 140 with hlt | rfl | hgt
    · rw [if_neg (by omega), if_pos hlt, if_pos hlt.le]
    · rfl
    · rw [if_neg (by omega), if_neg (by omega), if_neg (by omega)]

/-- The first tick of a bit is not its sample point (R147). -/
theorem sampleFrom_first (prev b : Bool) (levels : List Bool) :
    sampleFrom prev 0 (b :: levels) = sampleFrom b 1 levels := by
  simp only [sampleFrom, ite_self]
  rfl

/-- A bit that holds for a bit time is sampled once, whatever the level before it (R147). -/
theorem sampleFrom_bit (prev b : Bool) (rest : List Bool) :
    sampleFrom prev 0 (List.replicate 200 b ++ rest) = b :: sampleFrom b 0 rest := by
  rw [List.replicate_succ, List.cons_append, sampleFrom_first, sampleFrom_hold b rest 199 rfl (by decide),
    if_pos (by decide)]

theorem sample_held (bits : List Bool) : sample (bits.flatMap (List.replicate 200)) = bits := by
  have hbits (prev : Bool) : sampleFrom prev 0 (bits.flatMap (List.replicate 200)) = bits := by
    induction bits generalizing prev with
    | nil => rfl
    | cons b bs ih => rw [List.flatMap_cons, sampleFrom_bit, ih]
  exact hbits true

/-- Settles O54: a frame comes back from its bits after the stuff bits are removed, and each bit from its levels. -/
theorem frameRoundTrip : Obligations.FrameRoundTrip := by
  refine ⟨fun f h => receiveBits_stuff (of_decide_eq_true h), fun s f hp hf hlength hown => ?_, fun s => wireOutput_none,
    ⟨rfl, rfl, rfl, rfl⟩, fun levels => ⟨wiredAnd_eq_false_iff levels, lineDifferential_dominant,
      lineDifferential_recessive, receiverReads_lineDifferential levels⟩,
    fun mV => ⟨receiverReads_dominant, receiverReads_recessive⟩, sample_held⟩
  obtain ⟨hsender, hlen, hcls, hkind, hdest⟩ := frameOf_fields hown hlength
  refine ⟨stuff (plainBits (frameOf s.line.own f.msg)), _, wireOutput_attempt hp hf, receiveBits_stuff hlen.symm, hsender,
    hlen, rfl, ?_⟩
  rw [hcls, hkind, hdest]
  cases f.msg <;> rfl

end Sys2Proof.Machine
end

section
/-! SUPPORT. O56: numbers and their bytes, payloads by their fields, and console payloads read back (R148, R151, R166). -/

namespace Sys2Proof.Machine

/-! ### Bytes -/

theorem beBytes_length (w n : Nat) : (beBytes w n).length = w := by
  induction w generalizing n with
  | zero => rfl
  | succ w ih => rw [beBytes, List.length_append, ih, List.length_singleton]

theorem beNat_append_singleton (bs : List Byte) (b : Byte) : beNat (bs ++ [b]) = beNat bs * 256 + b.toNat := by
  unfold beNat
  rw [List.foldl_append]
  rfl

/-- A number comes back from its bytes, as far as they hold it (R148). -/
theorem beNat_beBytes_mod (w n : Nat) : beNat (beBytes w n) = n % 256 ^ w := by
  induction w generalizing n with
  | zero => rw [Nat.pow_zero, Nat.mod_one]; rfl
  | succ w ih =>
    have hsplit : n % 256 ^ (w + 1) = n % 256 + 256 * (n / 256 % 256 ^ w) := by
      rw [Nat.pow_succ', Nat.mod_mul]
    rw [beBytes, beNat_append_singleton, ih, BitVec.toNat_ofNat, hsplit]
    omega

theorem beNat_beBytes {w n : Nat} (h : n < 256 ^ w) : beNat (beBytes w n) = n := by
  rw [beNat_beBytes_mod, Nat.mod_eq_of_lt h]

theorem byte_toNat {n : Nat} (h : n < 256) : (BitVec.ofNat 8 n).toNat = n := by
  rw [BitVec.toNat_ofNat, Nat.mod_eq_of_lt h]

/-! ### Fields of a payload -/

/-- The bytes are fields of the given widths that hold the given numbers, one after the other (R148, R151). -/
def HoldsFields (bs : List Byte) (widths values : List Nat) : Prop :=
  bs.length = widths.sum ∧ fieldsOf widths bs = values

/-- A field of width `w`. -/
theorem holdsFields_beBytes {w n : Nat} (h : n < 256 ^ w) : HoldsFields (beBytes w n) [w] [n] := by
  refine ⟨beBytes_length w n, ?_⟩
  have htake : (beBytes w n).take w = beBytes w n := List.take_of_length_le (beBytes_length w n).le
  rw [fieldsOf, fieldsOf, htake, beNat_beBytes h]

theorem fieldsOf_append {widths widths' : List Nat} {bs cs : List Byte} (h : bs.length = widths.sum) :
    fieldsOf (widths ++ widths') (bs ++ cs) = fieldsOf widths bs ++ fieldsOf widths' cs := by
  induction widths generalizing bs with
  | nil =>
    obtain rfl := List.length_eq_zero_iff.1 h
    rfl
  | cons w ws ih =>
    have hsum : bs.length = w + ws.sum := by rw [h, List.sum_cons]
    have hrest : (bs.drop w).length = ws.sum := by rw [List.length_drop]; omega
    rw [List.cons_append, fieldsOf, fieldsOf, List.take_append_of_le_length (by omega),
      List.drop_append_of_le_length (by omega), ih hrest, List.cons_append]

theorem HoldsFields.append {bs cs : List Byte} {ws ws' vs vs' : List Nat} (h : HoldsFields bs ws vs)
    (h' : HoldsFields cs ws' vs') : HoldsFields (bs ++ cs) (ws ++ ws') (vs ++ vs') := by
  obtain ⟨hlength, hvalues⟩ := h
  obtain ⟨hlength', hvalues'⟩ := h'
  exact ⟨by rw [List.length_append, List.sum_append, hlength, hlength'],
    by rw [fieldsOf_append hlength, hvalues, hvalues']⟩

/-! ### Codes and absent values -/

theorem batchState_code_lt (b : BatchState) : b.code < 256 ^ 1 := by cases b <;> decide
theorem progress_code_lt (v : Progress) : v.code < 256 ^ 1 := by cases v <;> decide
theorem verdict_code_lt (v : Verdict) : v.code < 256 ^ 1 := by cases v <;> decide
theorem gateStatus_code_lt (q : GateStatus) : q.code < 256 ^ 1 := by cases q <;> decide
theorem joinCause_code_lt (c : JoinCause) : c.code < 256 ^ 1 := by cases c <;> decide
theorem releaseReason_code_lt (r : ReleaseReason) : r.code < 256 ^ 1 := by cases r <;> decide
theorem replyCode_code_lt (c : ReplyCode) : c.code < 256 ^ 1 := by cases c <;> decide
theorem frameKind_number_lt (k : FrameKind) : k.number < 256 ^ 1 := by cases k <;> decide
theorem boolCode_lt (b : Bool) : boolCode b < 256 ^ 1 := by cases b <;> decide

theorem overallCode_lt (v : Option Overall) : overallCode v < 256 ^ 1 := by
  cases v with
  | none => decide
  | some v => cases v <;> decide

theorem causeCode_lt (c : Option Cause) : causeCode c < 256 ^ 1 := by
  cases c with
  | none => decide
  | some c => cases c <;> decide

/-- The number in a signed field, in two's complement, with the absent code (R151). -/
def signedField (x : Option Int) : Nat := ((x.getD (-8388608)) % 2 ^ 24).toNat

theorem holdsFields_value (x : Option Int) : HoldsFields (valueOrAbsent x) [3] [signedField x] := by
  refine holdsFields_beBytes ?_
  have hpos : (0 : Int) < 2 ^ 24 := by decide
  have hlow := Int.emod_nonneg (x.getD (-8388608)) hpos.ne'
  have hhigh := Int.emod_lt_of_pos (x.getD (-8388608)) hpos
  exact (Int.toNat_lt hlow).2 hhigh

theorem getD_lt {v : Option Nat} {absent bound : Nat} (h : ∀ d, v = some d → d < bound) (ha : absent < bound) :
    v.getD absent < bound := by
  cases v with
  | none => exact ha
  | some d => exact h d rfl

theorem holdsFields_spread {v : Option Nat} (h : ∀ d, v = some d → d < 2 ^ 24) :
    HoldsFields (spreadOrAbsent v) [3] [v.getD 16777215] := holdsFields_beBytes (getD_lt h (by decide))

theorem holdsFields_five {v : Option Nat} (h : ∀ d, v = some d → d < 2 ^ 40) :
    HoldsFields (fiveOrAbsent v) [5] [v.getD (2 ^ 40 - 1)] := holdsFields_beBytes (getD_lt h (by decide))

/-! ### Payloads sent (Table 10.7) -/

section Sent

variable {p r : Nat} (hp : p < 256 ^ 1) (hr : r < 256 ^ 1)
include hp hr

/-- Point index and run number, which begin most payloads. -/
theorem holdsFields_run : HoldsFields (beBytes 1 p ++ beBytes 1 r) [1, 1] [p, r] :=
  (holdsFields_beBytes hp).append (holdsFields_beBytes hr)

theorem progress_payload (v : Progress) (b : BatchState) :
    HoldsFields (TxMsg.progress p r v b).payload [1, 1, 1, 1] [p, r, v.code, b.code] :=
  ((holdsFields_run hp hr).append (holdsFields_beBytes (progress_code_lt v))).append
    (holdsFields_beBytes (batchState_code_lt b))

theorem measurement_payload {q : Nat} (hq : q < 65536) (st : GateStatus) (e : Option Int) :
    HoldsFields (TxMsg.measurement p r q st e).payload [1, 1, 2, 1, 3] [p, r, q, st.code, signedField e] :=
  (((holdsFields_run hp hr).append (holdsFields_beBytes hq)).append
    (holdsFields_beBytes (gateStatus_code_lt st))).append (holdsFields_value e)

theorem pointResult_payload {sp : Option Nat} {n : Nat} (hn : n < 65536) (hsp : ∀ d, sp = some d → d < 2 ^ 24)
    (v : Verdict) (x : Option Int) : HoldsFields (TxMsg.pointResult p r v x sp n).payload [1, 1, 1, 3, 3, 2]
      [p, r, v.code, signedField x, sp.getD 16777215, n] :=
  ((((holdsFields_run hp hr).append (holdsFields_beBytes (verdict_code_lt v))).append (holdsFields_value x)).append
    (holdsFields_spread hsp)).append (holdsFields_beBytes hn)

theorem status_payload (b : BatchState) (v : Progress) (set : BitVec 10) :
    HoldsFields (TxMsg.status (some ⟨b, some (p, r, v), set⟩)).payload [1, 1, 1, 1, 2]
      [b.code, p, r, v.code, set.toNat] :=
  ((holdsFields_beBytes (batchState_code_lt b)).append
    ((holdsFields_run hp hr).append (holdsFields_beBytes (progress_code_lt v)))).append
      (holdsFields_beBytes (set.isLt.trans (by decide)))

end Sent

theorem notice_payload (set : BitVec 10) : HoldsFields (TxMsg.notice set).payload [2] [set.toNat] :=
  holdsFields_beBytes (set.isLt.trans (by decide))

theorem status_payload_closed (b : BatchState) (set : BitVec 10) :
    HoldsFields (TxMsg.status (some ⟨b, none, set⟩)).payload [1, 1, 1, 1, 2] [b.code, 255, 0, 0, set.toNat] :=
  ((holdsFields_beBytes (batchState_code_lt b)).append (((holdsFields_beBytes (by decide)).append
    (holdsFields_beBytes (by decide))).append (holdsFields_beBytes (by decide)))).append (notice_payload set)

theorem join_payload (c : JoinCause) (b : BatchState) :
    HoldsFields (TxMsg.join c (some b)).payload [1, 1] [c.code, b.code] :=
  (holdsFields_beBytes (joinCause_code_lt c)).append (holdsFields_beBytes (batchState_code_lt b))

theorem tally_payload (w : BitVec 16) {k : Nat} (hk : k < 2 ^ 48) :
    HoldsFields (TxMsg.tally w k).payload [2, 6] [w.toNat, k] :=
  (holdsFields_beBytes w.isLt).append (holdsFields_beBytes hk)

theorem release_payload {n : Nat} (hn : n < 256) (reason : ReleaseReason) :
    HoldsFields (TxMsg.release n reason).payload [1, 1] [n, reason.code] :=
  (holdsFields_beBytes hn).append (holdsFields_beBytes (releaseReason_code_lt reason))

theorem reply_payload (k : FrameKind) (c : ReplyCode) :
    HoldsFields (TxMsg.reply k c).payload [1, 1] [k.number, c.code] :=
  (holdsFields_beBytes (frameKind_number_lt k)).append (holdsFields_beBytes (replyCode_code_lt c))

/-- A field of one byte before a text or a content (CLAIM, DETAIL). -/
theorem firstByte {n : Nat} (hn : n < 256) (rest : List Byte) :
    HoldsFields ((beBytes 1 n ++ rest).take 1) [1] [n] ∧ (beBytes 1 n ++ rest).drop 1 = rest := by
  rw [List.take_left' (beBytes_length 1 n), List.drop_left' (beBytes_length 1 n)]
  exact ⟨holdsFields_beBytes hn, rfl⟩

/-! ### Records (Table 11.4) -/

section Record

variable {x : PointRecord} (hp : x.p < 256) (hr : x.r < 256)
include hp hr

theorem holdsFields_recordHead : HoldsFields (recordHead x) [1, 1, 1, 1, 1]
    [x.p, x.r, x.kind.code + (if x.stale then 128 else 0), x.verdict.code, causeCode x.cause] := by
  have hkind : x.kind.code + (if x.stale then 128 else 0) < 256 := by
    cases x.kind <;> cases x.stale <;> decide
  exact (((holdsFields_run hp hr).append (holdsFields_beBytes hkind)).append
    (holdsFields_beBytes (verdict_code_lt x.verdict))).append (holdsFields_beBytes (causeCode_lt x.cause))

end Record

theorem holdsFields_kept {e : KeptEntry} (h : e.seq < 65536) :
    HoldsFields (keptBytes e) [2, 1, 3] [e.seq, e.status.code, signedField e.error] :=
  ((holdsFields_beBytes h).append (holdsFields_beBytes (gateStatus_code_lt e.status))).append (holdsFields_value e.error)

theorem recordPart_kept {x : PointRecord} {kept : List KeptEntry} (hx : x.body = .accuracy kept) (k : Nat) :
    recordPart x (k + 1) = ((kept.drop (2 * k)).take 2).flatMap keptBytes := by
  simp only [recordPart, hx, Nat.add_sub_cancel, Nat.succ_ne_zero, if_false]

/-- The last part of an odd number of kept entries holds one. -/
theorem recordPart_last {x : PointRecord} {kept : List KeptEntry} {k : Nat} {a : KeptEntry}
    (hx : x.body = .accuracy kept) (ha : kept[2 * k]? = some a) (hlength : kept.length = 2 * k + 1) :
    recordPart x (k + 1) = keptBytes a := by
  obtain ⟨hlt, rfl⟩ := List.getElem?_eq_some_iff.1 ha
  rw [recordPart_kept hx, List.drop_eq_getElem_cons hlt, List.drop_of_length_le hlength.le]
  exact List.append_nil _

theorem recordPart_two {x : PointRecord} {kept : List KeptEntry} {k : Nat} {a b : KeptEntry}
    (hx : x.body = .accuracy kept) (ha : kept[2 * k]? = some a) (hb : kept[2 * k + 1]? = some b) :
    recordPart x (k + 1) = keptBytes a ++ keptBytes b := by
  obtain ⟨hlt, rfl⟩ := List.getElem?_eq_some_iff.1 ha
  obtain ⟨hlt', rfl⟩ := List.getElem?_eq_some_iff.1 hb
  rw [recordPart_kept hx, List.drop_eq_getElem_cons hlt, List.drop_eq_getElem_cons hlt']
  exact congrArg (keptBytes _ ++ ·) (List.append_nil _)

/-! ### Console payloads read back -/

/-- The bytes of a SETUP, one by one. -/
theorem readSetup_bytes (c₄ c₃ c₂ c₁ c₀ aging budget stroke grace width i₁ i₀ t₁ t₀ : Byte) (on : Bool) :
    readSetup [c₄, c₃, c₂, c₁, c₀, aging, budget, stroke, grace, width, i₁, i₀, t₁, t₀, BitVec.ofNat 8 (boolCode on)] =
      some ⟨beNat [c₄, c₃, c₂, c₁, c₀], aging.toNat, budget.toNat, stroke.toNat, grace.toNat, width.toNat,
        beNat [i₁, i₀], beNat [t₁, t₀], on⟩ := by
  cases on <;> rfl

theorem readSetup_writeSetup {v : Setup} (hcRef : v.cRef < 2 ^ 40) (haging : v.agingPeriod < 256)
    (hbudget : v.pressBudget < 256) (hstroke : v.strokeTimeout < 256) (hgrace : v.scannerGrace < 256)
    (hwidth : v.mutWidth < 256) (hinterval : v.mutInterval < 65536) (htol : v.tolPpm < 65536) :
    readSetup (writeSetup v) = some v := by
  obtain ⟨cRef, aging, budget, stroke, grace, width, interval, tol, streaming⟩ := v
  have hread : readSetup (writeSetup ⟨cRef, aging, budget, stroke, grace, width, interval, tol, streaming⟩) =
      some ⟨beNat (beBytes 5 cRef), (BitVec.ofNat 8 aging).toNat, (BitVec.ofNat 8 budget).toNat,
        (BitVec.ofNat 8 stroke).toNat, (BitVec.ofNat 8 grace).toNat, (BitVec.ofNat 8 width).toNat,
        beNat (beBytes 2 interval), beNat (beBytes 2 tol), streaming⟩ :=
    readSetup_bytes _ _ _ _ _ _ _ _ _ _ _ _ _ _ _
  rw [hread, beNat_beBytes hcRef, byte_toNat haging, byte_toNat hbudget, byte_toNat hstroke, byte_toNat hgrace,
    byte_toNat hwidth, beNat_beBytes hinterval, beNat_beBytes htol]

theorem readPointPart_accuracy {n st k m l : Nat} (hn : n < 65536) (hst : st < 256) (hk : k < 256) (hm : m < 2 ^ 32)
    (hl : l < 65536) :
    readPointPart (writePointPart (.accuracy n st k m l)) = some (.accuracy n st k m l) := by
  have hread : readPointPart (writePointPart (.accuracy n st k m l)) = some (.accuracy (beNat (beBytes 2 n))
      (BitVec.ofNat 8 st).toNat (BitVec.ofNat 8 k).toNat (beNat (beBytes 4 m)) (beNat (beBytes 2 l))) := rfl
  rw [hread, beNat_beBytes hn, byte_toNat hst, byte_toNat hk, beNat_beBytes hm, beNat_beBytes hl]

theorem readPointPart_window {w a : Nat} (hw : w < 65536) (ha : a < 256) :
    readPointPart (writePointPart (.creep w a)) = some (.creep w a) ∧
    readPointPart (writePointPart (.start w a)) = some (.start w a) := by
  have hcreep : readPointPart (writePointPart (.creep w a)) =
      some (.creep (beNat (beBytes 2 w)) (BitVec.ofNat 8 a).toNat) := rfl
  have hstart : readPointPart (writePointPart (.start w a)) =
      some (.start (beNat (beBytes 2 w)) (BitVec.ofNat 8 a).toNat) := rfl
  rw [hcreep, hstart, beNat_beBytes hw, byte_toNat ha]
  exact ⟨rfl, rfl⟩

theorem readPointPart_register {l : Nat} (hl : l < 65536) :
    readPointPart (writePointPart (.register l)) = some (.register l) := by
  have hread : readPointPart (writePointPart (.register l)) = some (.register (beNat (beBytes 2 l))) := rfl
  rw [hread, beNat_beBytes hl]

/-- A signed field is read as it was written (R151). -/
theorem signed24_signedBytes {i : Int} (hlow : -(2 : Int) ^ 23 ≤ i) (hhigh : i < 2 ^ 23) :
    signed24 (beNat (signedBytes i)) = i := by
  rw [signedBytes, beNat_beBytes_mod, signed24]
  norm_num at hlow hhigh ⊢
  split <;> omega

theorem readLimits_writeLimits {l : Limits} (hlow : -(2 : Int) ^ 23 ≤ l.lower) (hlow' : l.lower < 2 ^ 23)
    (hup : -(2 : Int) ^ 23 ≤ l.upper) (hup' : l.upper < 2 ^ 23) (hspread : l.spread < 2 ^ 24) :
    readLimits (writeLimits l) = some l := by
  obtain ⟨lower, upper, spread, sealRelevant⟩ := l
  have hread : readLimits (writeLimits ⟨lower, upper, spread, sealRelevant⟩) = some ⟨signed24 (beNat (signedBytes lower)),
      signed24 (beNat (signedBytes upper)), beNat (beBytes 3 spread), sealRelevant⟩ := by
    cases sealRelevant <;> rfl
  rw [hread, signed24_signedBytes hlow hlow', signed24_signedBytes hup hup', beNat_beBytes hspread]

/-! ### Parts of a series, field by field -/

theorem recordPart_accuracy_fields {x : PointRecord} {kept : List KeptEntry} (hp : x.p < 256) (hr : x.r < 256)
    (hcompleted : x.completed < 65536) (hdrops : x.streamDrops < 65536) (hspread : ∀ d, x.spread = some d → d < 2 ^ 24)
    (hx : x.body = .accuracy kept) : HoldsFields (recordPart x 0) [1, 1, 1, 1, 1, 3, 3, 2, 2]
      ([x.p, x.r, x.kind.code + (if x.stale then 128 else 0), x.verdict.code, causeCode x.cause] ++
        [signedField x.value, x.spread.getD 16777215, x.completed, x.streamDrops]) := by
  have hpart : recordPart x 0 = recordHead x ++ valueOrAbsent x.value ++ spreadOrAbsent x.spread ++
      beBytes 2 x.completed ++ beBytes 2 x.streamDrops := by simp only [recordPart, hx, if_true]
  rw [hpart]
  exact ((((holdsFields_recordHead hp hr).append (holdsFields_value x.value)).append
    (holdsFields_spread hspread)).append (holdsFields_beBytes hcompleted)).append (holdsFields_beBytes hdrops)

theorem recordPart_window_fields {x : PointRecord} {n : Nat} {off : Option Nat} (hp : x.p < 256) (hr : x.r < 256)
    (hx : x.body = .window n off) (hn : n < 65536) (hoff : ∀ d, off = some d → d < 2 ^ 48) :
    HoldsFields (recordPart x 0) [1, 1, 1, 1, 1, 2, 6]
      ([x.p, x.r, x.kind.code + (if x.stale then 128 else 0), x.verdict.code, causeCode x.cause] ++
        [n, off.getD (2 ^ 48 - 1)]) := by
  have hpart : recordPart x 0 = recordHead x ++ beBytes 2 n ++ beBytes 6 (off.getD (2 ^ 48 - 1)) := by
    simp only [recordPart, hx, if_true]
  rw [hpart]
  exact ((holdsFields_recordHead hp hr).append (holdsFields_beBytes hn)).append
    (holdsFields_beBytes (getD_lt hoff (by decide)))

theorem recordPart_register_fields {x : PointRecord} {before after : Option Nat} {m : Nat} {limits : Option Limits}
    {void : Bool} {st : Option GateStatus} (hp : x.p < 256) (hr : x.r < 256)
    (hx : x.body = .register before after m limits void st) (hm : m < 2 ^ 48)
    (hreadings : ∀ d, before = some d ∨ after = some d → d < 2 ^ 40) :
    HoldsFields (recordPart x 0) [1, 1, 1, 1, 1, 3]
      ([x.p, x.r, x.kind.code + (if x.stale then 128 else 0), x.verdict.code, causeCode x.cause] ++
        [signedField x.value]) ∧
    HoldsFields (recordPart x 1) [5, 5] [before.getD (2 ^ 40 - 1), after.getD (2 ^ 40 - 1)] ∧
    HoldsFields (recordPart x 2) [6, 1, 1] [m, (st.map GateStatus.code).getD 255, if void then 1 else 0] := by
  have hstatus : (st.map GateStatus.code).getD 255 < 256 := by
    cases st with
    | none => decide
    | some q => exact gateStatus_code_lt q
  unfold recordPart
  rw [hx]
  exact ⟨(holdsFields_recordHead hp hr).append (holdsFields_value x.value),
    (holdsFields_five fun d h => hreadings d (.inl h)).append (holdsFields_five fun d h => hreadings d (.inr h)),
    ((holdsFields_beBytes hm).append (holdsFields_beBytes hstatus)).append (holdsFields_beBytes (boolCode_lt void))⟩

/-- The two parts of the meter series that hold numbers (R166). -/
theorem meterPart_fields {m : MeterRecord} (hconstant : ∀ c, m.constant = some c → c < 2 ^ 32)
    (hclock : ∀ c, m.clock = some c → c.seconds < 2 ^ 40) (hseal : ∀ c, m.sealRecord = some c → c.clock < 2 ^ 40) :
    HoldsFields (meterPart m 0) [1, 1, 5, 4] [m.batch.code, overallCode m.verdict,
      (m.clock.map BatchClock.seconds).getD (2 ^ 40 - 1), m.constant.getD 0] ∧
    HoldsFields (meterPart m 4) [5] [(m.sealRecord.map SealRecord.clock).getD (2 ^ 40 - 1)] := by
  have hseconds : ∀ d, m.clock.map BatchClock.seconds = some d → d < 2 ^ 40 := fun d h => by
    obtain ⟨c, hc, rfl⟩ := Option.map_eq_some_iff.1 h
    exact hclock c hc
  have hsealed : ∀ d, m.sealRecord.map SealRecord.clock = some d → d < 2 ^ 40 := fun d h => by
    obtain ⟨c, hc, rfl⟩ := Option.map_eq_some_iff.1 h
    exact hseal c hc
  exact ⟨(((holdsFields_beBytes (batchState_code_lt m.batch)).append (holdsFields_beBytes (overallCode_lt m.verdict))).append
    (holdsFields_five hseconds)).append (holdsFields_beBytes (getD_lt hconstant (by decide))), holdsFields_five hsealed⟩

/-- Settles O56: each payload and each part is its fields one after the other, and console payloads are read field by
field. -/
theorem payloadRoundTrips : Obligations.PayloadRoundTrips := by
  refine ⟨⟨rfl, rfl, rfl, rfl, rfl, rfl, rfl, rfl, rfl, rfl⟩, fun p r hp hr => ?_,
    fun x hp hr hcompleted hdrops hspread => ?_, fun m hconstant hclock hseal => ?_, fun v => readSetup_writeSetup,
    fun n st k m l => readPointPart_accuracy, fun w a => readPointPart_window, fun l => readPointPart_register,
    fun l => readLimits_writeLimits⟩
  · exact ⟨join_payload,
      fun b v set => ⟨status_payload hp hr b v set, status_payload_closed b set, progress_payload hp hr v b,
        notice_payload set⟩,
      fun q st e hq => measurement_payload hp hr hq st e,
      fun v x sp n hn hsp => pointResult_payload hp hr hn hsp v x,
      fun w k hk => tally_payload w hk,
      fun text => ⟨(firstByte hr text).1, (firstByte hr text).2, rfl⟩,
      release_payload hr,
      reply_payload,
      fun part total content live hpart htotal => firstByte (by omega) content⟩
  · refine ⟨fun kept hx => ⟨recordPart_accuracy_fields hp hr hcompleted hdrops hspread hx,
        fun k a ha hseq => ⟨fun hlength => ?_, fun b hb hseq' => ?_⟩⟩,
      fun n off hx => recordPart_window_fields hp hr hx,
      fun before after m limits void st hx => recordPart_register_fields hp hr hx⟩
    · rw [recordPart_last hx ha hlength]
      exact holdsFields_kept hseq
    · rw [recordPart_two hx ha hb]
      exact (holdsFields_kept hseq).append (holdsFields_kept hseq')
  · obtain ⟨hhead, htail⟩ := meterPart_fields hconstant hclock hseal
    exact ⟨hhead, rfl, rfl, rfl, htail⟩

end Sys2Proof.Machine
end

section
/-! SUPPORT. QUERY: the series that ends, and the one that begins or the REPLY (R163, R166 to R168). -/

namespace Sys2Proof.Machine

/-- The station once a QUERY has ended any series, taken the series given and queued its answer (R166, R168). -/
def queryAnswered (series : Option Series) (m : TxMsg) (s : State) : State :=
  { s with
    cmd := { s.cmd with series := series }
    line := { s.line with queue := (endSeries s).line.queue ++ [newFrame s.fe.now m] } }

section Query

variable {b : Byte} {s : State}

/-- A series begins with its part 0 queued, and no REPLY (R166). -/
theorem takeQuery_begins {total : Nat} (htotal : seriesTotal (subjectOf b) s = some total)
    (hroom : (endSeries s).line.queue.length < 8) :
    takeQuery s.line.own [b] s = queryAnswered (some ⟨subjectOf b, 1, total, false⟩)
      (.detail 0 total (seriesPart (subjectOf b) 0 s) true) s := by
  have hended : seriesTotal (subjectOf b) (endSeries s) = some total := htotal
  have htaken : takeQuery s.line.own [b] s = beginSeries (subjectOf b) total (endSeries s) := by
    simp only [takeQuery, addressing, if_true, hended]
  rw [htaken, beginSeries, enqueue_room _ _ rfl (by exact hroom)]
  rfl

/-- A point without a record has no series, and the QUERY is refused (R166). -/
theorem takeQuery_noSuchPoint (htotal : seriesTotal (subjectOf b) s = none)
    (hroom : (endSeries s).line.queue.length < 8) :
    takeQuery s.line.own [b] s = queryAnswered none (.reply .query .noSuchPoint) s := by
  have hended : seriesTotal (subjectOf b) (endSeries s) = none := htotal
  have htaken : takeQuery s.line.own [b] s = reply .query .noSuchPoint (endSeries s) := by
    simp only [takeQuery, addressing, if_true, hended]
  rw [htaken, reply, enqueue_room _ _ rfl hroom]
  rfl

theorem seriesTotal_point (hb : b ≠ 255) :
    seriesTotal (subjectOf b) s = (slotGet s.meter.records b.toNat).map recordTotal := by
  rw [subjectOf, if_neg hb]
  rfl

/-- The part 0 that a QUERY of an index with a record queues is that of its record (R166). -/
theorem takeQuery_point {x : PointRecord} {total : Nat} (hb : b ≠ 255)
    (hx : slotGet s.meter.records b.toNat = some x) (htotal : recordTotal x = total)
    (hroom : (endSeries s).line.queue.length < 8) :
    takeQuery s.line.own [b] s = queryAnswered (some ⟨.point b.toNat, 1, total, false⟩)
      (.detail 0 total (recordPart x 0) true) s := by
  have hsubject : subjectOf b = .point b.toNat := if_neg hb
  have hpart : seriesPart (subjectOf b) 0 s = recordPart x 0 := by
    simp only [hsubject, seriesPart, hx, Option.map_some, Option.getD_some]
  rw [takeQuery_begins (by rw [seriesTotal_point hb, hx, Option.map_some, htotal]) hroom, hpart, hsubject]

end Query

/-- Settles O51: with room, QUERY is `queryAnswered`, with the series and the frame of its subject. -/
theorem queryBeginsSeries : Obligations.QueryBeginsSeries := by
  intro h b s hh hs hthis rest hroom answer
  have hlength : (endSeries (acked s)).line.queue.length < 8 := hroom
  have hexec : exec (.query h [b]) s = .next (takeQuery (acked s).line.own [b] (acked s)) :=
    hthis ▸ congrArg Host.Outcome.next (receiveKind_console .query h [b] s hh hs rfl (by simp))
  refine ⟨fun hb => ?_, fun hb hnone => ?_, fun x hb hx => ?_⟩
  · subst hb
    exact hexec.trans (congrArg Host.Outcome.next (takeQuery_begins (total := 5) rfl hlength))
  · have hno : seriesTotal (subjectOf b) (acked s) = none := by
      rw [seriesTotal_point hb, acked_meter, hnone, Option.map_none]
    exact hexec.trans (congrArg Host.Outcome.next (takeQuery_noSuchPoint hno hlength))
  · have hpoint {total : Nat} (htotal : recordTotal x = total) :
        answer (some ⟨.point b.toNat, 1, total, false⟩) (.detail 0 total (recordPart x 0) true) :=
      hexec.trans (congrArg Host.Outcome.next (takeQuery_point (s := acked s) hb hx htotal hlength))
    exact ⟨fun kept hbody => hpoint (by rw [recordTotal, hbody]),
      fun n off hbody => hpoint (by rw [recordTotal, hbody]),
      fun r1 r2 m l v st hbody => hpoint (by rw [recordTotal, hbody])⟩

end Sys2Proof.Machine
end

section
/-! SUPPORT. SETUP, the notice commands and RESTART (R163 to R165, R170, R171). -/

namespace Sys2Proof.Machine

/-! ### SETUP -/

theorem readSetup_length {bs : List Byte} {v : Setup} (h : readSetup bs = some v) : bs.length = 15 := by
  by_contra hlen
  rw [readSetup_none (.inl hlen)] at h
  cases h

theorem setupCommand_idle {bs : List Byte} {v : Setup} {s : State} (hread : readSetup bs = some v)
    (hidle : s.meter.batch = .idle) :
    (setupCommand bs s).1 = { s with cmd := { s.cmd with setup := clampSetup v } } := by
  simp only [setupCommand, hread, if_pos hidle]

theorem setupCommand_refuses {bs : List Byte} {v : Setup} {s : State} (hread : readSetup bs = some v)
    (hbusy : s.meter.batch ≠ .idle) : (setupCommand bs s).1 = s := by
  simp only [setupCommand, hread, if_neg hbusy]

/-- In any batch state the answer of a command only queues (R162, R163). -/
theorem ConsoleAnswer.queues {i : Instr} {k : FrameKind} {h : Hdr} {f : State → State × ReplyCode} {s : State}
    (ha : ConsoleAnswer i k h f s) (hdest : ToThis h s ∨ ToGroup h) :
    ∃ t, exec i s = .next t ∧ QueuingKeeps (f (acked s)).1 t := by
  rcases hdest with hthis | hgroup
  · exact ⟨_, ha.toThis hthis, enqueue_keeps _ _⟩
  · refine ⟨_, ha.toGroup hgroup, ?_⟩
    split
    · exact raiseNotice_keeps _ _
    · exact .refl _

/-- Settles O48: SETUP writes the clamped values in IDLE or is refused, and its answer leaves the setup values. -/
theorem setupReplacesValues : Obligations.SetupReplacesValues := by
  intro h bs v s hh hs hdest hread
  have ha : ConsoleAnswer (.setup h bs) .setup h (setupCommand bs) s :=
    consoleAnswer hh hs (by rw [readSetup_length hread]; decide) rfl rfl rfl
  by_cases hidle : s.meter.batch = .idle
  · have hset := setupCommand_idle (s := acked s) hread hidle
    obtain ⟨t, hexec, hkeeps, hmeter, hunit⟩ := ha.keeps hdest (by rw [hset]; simp [hidle])
    rw [hset] at hkeeps hmeter hunit
    exact ⟨t, hexec, hkeeps.blocks, hkeeps.mask, absurd hidle, fun _ => ⟨hmeter, hunit, hkeeps.setup⟩⟩
  · obtain ⟨t, hexec, hkeeps⟩ := ha.queues hdest
    rw [setupCommand_refuses (s := acked s) hread hidle] at hkeeps
    exact ⟨t, hexec, hkeeps.blocks, hkeeps.mask, fun _ => hkeeps.setup, fun hb => absurd hb hidle⟩

/-! ### Notices -/

theorem readNoticeSet_pair (hi lo : Byte) :
    readNoticeSet [hi, lo] = some (BitVec.ofNat 10 (hi.toNat * 256 + lo.toNat)) := by
  simp [readNoticeSet, beNat]

theorem hasNotice_single (n k : Notice) : hasNotice n.single k = decide (k = n) := by
  cases n <;> cases k <;> decide

theorem hasNotice_or (x y : BitVec 10) (n : Notice) : hasNotice (x ||| y) n = (hasNotice x n || hasNotice y n) :=
  BitVec.getLsbD_or

theorem hasNotice_and (x y : BitVec 10) (n : Notice) : hasNotice (x &&& y) n = (hasNotice x n && hasNotice y n) :=
  BitVec.getLsbD_and

theorem hasNotice_not (x : BitVec 10) (n : Notice) : hasNotice (~~~x) n = !hasNotice x n := by
  have hbit : n.bit < 10 := by cases n <;> decide
  rw [hasNotice, BitVec.getLsbD_not, decide_eq_true hbit, Bool.true_and, hasNotice]

/-- The level notices whose condition holds, one by one (Table 11.5). -/
theorem hasNotice_levelConditions (s : State) (n : Notice) : hasNotice (levelConditions s) n =
    ((decide (n = .refSuspect) && s.xc.suspect) || (decide (n = .scannerAbsent) && s.fe.absent) ||
      (decide (n = .duplicateNumber) && decide (s.line.state = .muted))) := by
  have hcondition (c : Prop) [Decidable c] (k : Notice) :
      hasNotice (if c then k.single else 0) n = (decide (n = k) && decide c) := by
    by_cases hc : c
    · rw [if_pos hc, hasNotice_single, decide_eq_true hc, Bool.and_true]
    · rw [if_neg hc, decide_eq_false hc, Bool.and_false]
      exact hasNotice_zero n
  rw [levelConditions, hasNotice_or, hasNotice_or, hcondition, hcondition, hcondition, Bool.decide_eq_true,
    Bool.decide_eq_true]

/-- A named notice is pending afterwards where its level condition holds, and the others are untouched (R170). -/
theorem hasNotice_clearedNotices (s : State) (set : BitVec 10) (n : Notice) : hasNotice (clearedNotices s set) n =
    if hasNotice set n then hasNotice (levelConditions s) n else hasNotice s.cmd.notices n := by
  rw [clearedNotices, hasNotice_or, hasNotice_and, hasNotice_and, hasNotice_not]
  cases hasNotice set n
  · simp
  · simp

/-- Settles O53: both notice commands are answered by `consoleAnswer`, and RESTART is `holdReset`. -/
theorem noticeCommandsAndRestart : Obligations.NoticeCommandsAndRestart := by
  intro h hi lo s hh hs set masked
  have hread : readNoticeSet [hi, lo] = some set := readNoticeSet_pair hi lo
  have hclear : ConsoleAnswer (.clearNotices h [hi, lo]) .clearNotices h (clearNoticesCommand [hi, lo]) s :=
    consoleAnswer hh hs (by simp) rfl rfl rfl
  have hmask : ConsoleAnswer (.noticeMask h [hi, lo]) .noticeMask h (noticeMaskCommand [hi, lo]) s :=
    consoleAnswer hh hs (by simp) rfl rfl rfl
  have hcleared : clearNoticesCommand [hi, lo] (acked s) =
      ({ acked s with cmd := { s.cmd with notices := clearedNotices (acked s) set } }, .done) := by
    simp only [clearNoticesCommand, hread, acked_cmd]
  have hmasked : noticeMaskCommand [hi, lo] (acked s) = (masked, .done) := by
    simp only [noticeMaskCommand, hread, acked_cmd, masked]
  refine ⟨⟨clearedNotices (acked s) set, fun hthis => ?_, fun hgroup => ?_, fun n => ?_⟩, fun hthis => ?_,
    fun hgroup => ?_, fun hthis => ?_⟩
  · rw [hclear.toThis hthis, hcleared]
  · rw [hclear.toGroup hgroup, hcleared]
    rfl
  · rw [hasNotice_clearedNotices, hasNotice_levelConditions]
    rfl
  · rw [hmask.toThis hthis, hmasked]
  · rw [hmask.toGroup hgroup, hmasked]
    rfl
  · have hexec : exec (.restart h []) s = .next (takeRestart h.dest.toNat [] (acked s)) :=
      congrArg Host.Outcome.next (receiveKind_console .restart h [] s hh hs rfl (by simp))
    have htaken : takeRestart h.dest.toNat [] (acked s) = holdReset .command (acked s) := by
      have haddr : addressing h.dest.toNat (acked s) = .individual := if_pos hthis
      simp only [takeRestart, haddr, List.isEmpty_nil, if_true]
    rw [hexec, htaken]
    rfl

end Sys2Proof.Machine
end

section
/-! SUPPORT. The step on a queue that is not empty (log 29). -/

namespace Sys2Proof.Machine

theorem step_of_pending_cons {s : State} {c : Instr} {rest : List Instr} (hq : s.pending = c :: rest) :
    step s = exec c { s with pending := rest } := by
  simp only [step, hq]

/-- Settles O1: taking the command off the queue that it was put on gives the state back. -/
theorem stepRunsFrontCommand : Obligations.StepRunsFrontCommand := by
  intro c s
  calc step { s with pending := c :: s.pending }
      = exec c { s with pending := s.pending } := step_of_pending_cons rfl
    _ = exec c s := rfl

end Sys2Proof.Machine
end
